-- ==== Sys2Proof/Word.lean ====
section
/-! DEFINITION. Word sizes, the plainest arithmetic of 00_scope.md section 0.6, and vectors by index. -/

namespace Sys2Proof

/-- A byte of the exchange memory. -/
abbrev Byte := BitVec 8
/-- A two-byte field (desk words, sequence numbers, link addresses). -/
abbrev Word := BitVec 16
/-- A four-byte field (uptime, heartbeat, payload words). -/
abbrev DWord := BitVec 32

/-- Clamp(x, a, b) of 0.6: x limited to the range a to b. -/
def clampInt (x lo hi : Int) : Int := max lo (min x hi)

/-- Clamp(x, a, b) of 0.6, for values that are never negative. -/
def clampNat (x lo hi : Nat) : Nat := max lo (min x hi)

/-- "Truncate" of 0.6: division with the result rounded toward zero. -/
def truncDiv (a b : Int) : Int := Int.tdiv a b

/-- One more, saturating at `top`. -/
def satSucc (x top : Nat) : Nat := if x < top then x + 1 else x

/-- The two's complement reading of a signed field as a four-byte payload word (R168). -/
def signedWord (x : Int) : DWord := BitVec.ofInt 32 x

/-- A natural number as a four-byte payload word. -/
def natWord (n : Nat) : DWord := BitVec.ofNat 32 n

/-- A yes-or-no value as the part writes it (R168). -/
def flagWord (b : Bool) : DWord := if b then 1#32 else 0#32

/-- Entry i replaced. -/
def put {α : Type} {n : Nat} (v : Vector α n) (i : Fin n) (x : α) : Vector α n := v.set i.val x i.isLt

/-- Entry i changed by f. -/
def upd {α : Type} {n : Nat} (v : Vector α n) (i : Fin n) (f : α → α) : Vector α n := put v i (f v[i])

/-- Every index of a vector, ascending. -/
def indices (n : Nat) : List (Fin n) := List.ofFn fun i => i

end Sys2Proof
end

