-- ==== Sys2Proof/Config.lean ====
section
/-! DEFINITION. The part's fixed figures and the free values the spec leaves open. -/

namespace Sys2Proof.Config

/-- Samples and tachometer updates fall every 250 ms (R1, R41), in microseconds. -/
def samplePeriod : Nat := 250000
/-- Climate passes fall every second (R7), in microseconds. -/
def passPeriod : Nat := 1000000
/-- The settle of a sweep point, 3 s (R43), in milliseconds. -/
def sweepSettle : Nat := 3000
/-- A light test lasts 5000 ms (R119). -/
def lightTest : Nat := 5000
/-- No pulse in the last 500 ms means RPM 0 (R41), in microseconds. -/
def pulseTimeout : Nat := 500000
/-- The largest value of a 32-bit counter (R162), of the store count (R163), of the cause serial (R80)
and of a tick length (R121). -/
def top32 : Nat := 4294967295

/-- The erase, the programming and the verify "end no later than 300 ms after the take" (R165), in microseconds. -/
def storeLimit : Nat := 300000

/-- FREE VALUE (log 3). What the pseudo-random generator of R125 draws, by what it started from and how many numbers it has
drawn since: "Any value in the range may be drawn, and the user must not rely on which." -/
opaque jitterDraw : Nat → Nat → Nat

/-- FREE VALUE (log 24). The microseconds from the take of a store to its erase (R165), which the spec does not state. -/
opaque eraseDelay : Nat → Nat

/-- FREE VALUE (log 17). The quotient of R41 for two pulses with one time stamp, for which the rule states none. -/
opaque rpmOfEqualStamps : Nat → Nat

/-- FREE VALUE (log 20). The two-byte reading of a sweep deviation that does not fit a signed two-byte data word (R151). -/
opaque wideDeviation : Int → Word

/-- FREE VALUE (log 15). The bytes of the status region from the directory's end to the first block, and from the start of
block k to the start of the next at k + 1 (R170), which the spec does not give. -/
opaque statusSpace : Nat → Nat

/-- FREE VALUE (log 15). The offset within a status block at which item i begins, given the block's number and the number of
bytes of each item. R170 lays out the channel block alone. -/
opaque statusPlace : Nat → List Nat → Nat → Nat

/-- FREE VALUE (log 15). The form, which R170 does not give, in which a list of more members than its block has room for as
whole items stands in that block: byte j of its place i, by which list it is (0 the outcomes of R130, 1 the runs of R93, 2
the codes of R107) and by the items of all of its members. -/
opaque statusPacked : Nat → List (List Byte) → Nat → Nat → Byte

/-- FREE VALUE (log 22). The n-th byte shifted out during a WRITE's data bytes, which R133 and R136 do not state. -/
opaque writePhaseByte : Nat → Byte

end Sys2Proof.Config
end

