-- ==== Sys2Proof/Syntax.lean ====
section
/-! DEFINITION. The commands of the part: one constructor of Instr per row of spec/opcode_table.json, and the data
they carry. A row that is an event between two blocks carries what the sending block hands over. -/

namespace Sys2Proof

/-- The validity state of a sensor channel (R2). -/
inductive Validity where
  | ok | holding | failed
deriving DecidableEq, Repr

/-- The states of the warm-up gate (1.5). -/
inductive GateState where
  | closed | soaking | opened
deriving DecidableEq, Repr

/-- What a boost request names (R13): a zone number, as the requester wrote it, or all zones. -/
inductive BoostTarget where
  | zone (n : Nat)
  | all
deriving DecidableEq, Repr

/-- The fault codes of a channel (R65). -/
inductive FaultCode where
  | waitTimeout | outOfMask | badStep | railLocked | conflict
deriving DecidableEq, Repr

/-- The answer codes (12.3). -/
inductive AnswerCode where
  | done | busy | wrongState | conflict | noChannel | badKind | badArgument | failed
deriving DecidableEq, Repr

/-- The notice marks (R140). -/
inductive Mark where
  | desk | reports | urgent | heartbeat | stray | settings
deriving DecidableEq, Repr

/-- The failure causes (4.5). -/
inductive Cause where
  | heartbeat | bootStall | powerFault | railDrop | request | chord
deriving DecidableEq, Repr

/-- The counters of R162, in the order of its table. -/
inductive Counter where
  | passes | budgetShortEpisodes | sensorFailures (ch : Fin 9) | warmUpsCompleted | warmUpLimitExpiries | plateTrips
  | spinUps (f : Fin 2) | spinUpLate (f : Fin 2) | fanFailures (f : Fin 2) | sweepsRun | sweepsClogged
  | kicks | heartbeatLate | lateRecovered | lateKicks | checkpointsIgnored | cause (c : Cause) | holdsEntered
  | channelsStarted | channelsFinished | channelsFaulted | channelsAborted | scheduleSkips | railDrops
  | keyDowns | stuck | ghostBlocks | chordsFired | chordsRefused
  | reportsPosted | aged | overwritten | dropped | sequenceCollisions | transactions | strayWrites | badCommands
  | deskOverposts
deriving DecidableEq, Repr

/-- The kinds of report (10.4), numbered in this order from 1 (12.4). -/
inductive ReportKind where
  | key | keypadFault | chord | powerKey | warmUp | warmUpLimit | zoneSensor | budgetShort | fan | heartbeatLate
  | restart | held | channel | railDrop | mark | snapshot | settings
deriving DecidableEq, Repr

/-- Four payload words of a report (12.4). -/
structure Payload where
  w0 : DWord := 0
  w1 : DWord := 0
  w2 : DWord := 0
  w3 : DWord := 0
deriving DecidableEq, Repr

/-- What a posting block hands the report pool (R156): kind, subkind, time stamp, source index and payload, and with them
the class that R155 fixes by kind and subkind (log 50: the poster hands it on, since a FAULTED CHANNEL's rests on its
starter). -/
structure Posting where
  kind : ReportKind
  subkind : Byte
  urgent : Bool
  stamp : DWord
  source : Byte
  payload : Payload
deriving DecidableEq, Repr

/-- Four data or argument words of a desk slot (R143). -/
structure Words where
  w0 : Word := 0
  w1 : Word := 0
  w2 : Word := 0
  w3 : Word := 0
deriving DecidableEq, Repr

/-- A power-on reset (R164): it begins `us` microseconds after the event before, and RESET is held low or the standby supply
has risen. -/
structure ResetEvent where
  us : Nat
  held : Bool
deriving DecidableEq, Repr

/-- The moments of a chip select period at which the link port acts (R133, R135, R136; log 18): the falling edge; the byte
that lets it act before the rising edge, the second address byte of a READ or a command byte it does not know; and the
rising edge. -/
inductive SelectMoment where
  | falls | acts | rises
deriving DecidableEq, Repr

/-- A moment of a chip select period, `us` microseconds after the event before. -/
structure SelectEvent where
  us : Nat
  moment : SelectMoment
deriving DecidableEq, Repr

/-- The commands. `us` is the number of microseconds since the event before. -/
inductive Instr where
  -- start-up (chapter 11)
  | powerOnReset (reset : ResetEvent) (pg : BitVec 6)
  | resetRelease
  | startUpLoadComplete (us : Nat)
  -- sensors and climate (chapters 1 and 2)
  | sensorSample (ch : Fin 9) (raw : Option Int)
  | s4ColdModeUpdate (state : Validity) (held : Int) (sampled : Bool)
  | climatePass (supplyLow : Bool)
  | heaterOutputOff (z : Fin 3)
  | gateReport (gate : GateState) (rearm : Bool)
  | gateRearm
  | boostRequest (target : BoostTarget) (seconds : Word)
  -- fans (chapter 2)
  | tachometerUpdate (f : Fin 2)
  | tachometerPulse (us : Nat) (f : Fin 2)
  | spinUpLimitExpiry (f : Fin 2)
  | sweepSettleEnd
  -- rail sequencer (chapter 3)
  | pgChange (us : Nat) (r : Fin 6) (level : Bool)
  | actionPerformanceEnd (ch : Fin 4)
  | delayEnd (ch : Fin 4)
  | waitMatchedComplete (ch : Fin 4)
  | waitTimeout (ch : Fin 4)
  -- host supervisor (chapter 4)
  | channel0Outcome (start : Nat) (fault : Option FaultCode)
  | wakeTimerExpiry
  | heldRetryExpiry
  | stageDeadlineExpiry
  | checkpoint (value : Byte) (heartbeat : Option DWord)
  | heartbeatKick (value : DWord)
  | heartbeatTimerExpiry
  | graceExpiry
  | pauseTimerExpiry
  | settleExpiry
  | holdOffExpiry
  | haltDelayExpiry
  | hostRailMaskEdit (before after : Byte)
  -- keypad, chords and lights (chapters 5 and 6)
  | keypadScan (reading : BitVec 64)
  | forcedOffTimerExpiry
  | lightTestEnd
  | lightTableWrite
  -- schedule (chapter 7)
  | tickAdvance (k : Fin 8)
  | tickLadderEdit (before after : List Byte)
  -- link port and notice unit (chapter 8)
  | status (cs : SelectEvent) (inbound : List Byte)
  | read (cs : SelectEvent) (inbound : List Byte)
  | write (cs : SelectEvent) (inbound : List Byte)
  | badCommand (cs : SelectEvent) (command : Byte) (inbound : List Byte)
  | noticeEnable (enable : Byte) (acknowledge : Option Byte)
  | noticeAcknowledge (acknowledge : Byte)
  | noticeMarkSet (m : Mark)
  | linkRailEdit (before after : Byte)
  -- the request desk (chapter 9)
  | restartHost (slot : Fin 8) (rung : Word)
  | shutDownHost (slot : Fin 8) (halt target wake : Word)
  | pauseHeartbeat (slot : Fin 8) (seconds : Word)
  | startSequence (slot : Fin 8) (head : Word)
  | stopChannel (slot : Fin 8) (channel : Word)
  | climateOverride (slot : Fin 8) (zone duty seconds : Word)
  | fanSweep (slot : Fin 8) (fan mode : Word)
  | storeSettings (slot : Fin 8)
  | storeComplete (us : Nat) (verified : Bool)
  | reloadSettings (slot : Fin 8)
  | reloadApply (us : Nat)
  | clearCounters (slot : Fin 8) (group : Word)
  | freezeCounters (slot : Fin 8) (on : Word)
  | flushReports (slot : Fin 8) (cls : Word)
  | keypadLock (slot : Fin 8) (lock : Word)
  | badKind (slot : Fin 8)
  | deskOverpost (slot : Fin 8)
  | deskAnswer (slot : Fin 8) (code : AnswerCode) (data : Words)
  -- report pool and counter unit (chapter 10)
  | reportPosting (report : Posting)
  | collection (cells : List (Fin 64 × Word))
  | ageTick
  | coalesceTimerExpiry
  | restartFlush
  | counterIncrement (c : Counter)
deriving DecidableEq, Repr

end Sys2Proof
end

