-- ==== Sys2Proof/Decode.lean ====
section
/-! DEFINITION. Words and commands. spec/opcode_table.json gives bits to none of its rows, so no word spells a
command; the link's command bytes (12.2) are not rows' bits but content of a transaction, and Machine/Link.lean
reads them. -/

namespace Sys2Proof

/-- The command a word of `nbits` bits spells by the table's bits: none, for the table has none. -/
def decodeTableWord (_nbits _w : Nat) : Option Instr := none

end Sys2Proof
end

