-- ==== Sys2Proof/WellFormed.lean ====
section
/-! DEFINITION. Which commands the spec's tables admit. The meanings are total and do not rest on these checks. -/

namespace Sys2Proof

/-- The class and subkinds the table of 10.4 gives each kind of report; CHANNEL is URGENT exactly for a FAULTED channel
(subkind 4) whose starter, payload word 1, is SUPERVISOR, 1 (R66, R169). -/
def Posting.conforms (p : Posting) : Bool :=
  let sub := p.subkind.toNat
  match p.kind with
  | .key => !p.urgent && decide (1 ≤ sub ∧ sub ≤ 5) && decide (p.source.toNat < 64)
  | .keypadFault => p.urgent && decide (sub = 0)
  | .chord => !p.urgent && decide (1 ≤ sub ∧ sub ≤ 8) && decide (p.source.toNat < 8)
  | .powerKey => p.urgent && decide (1 ≤ sub ∧ sub ≤ 5)
  | .warmUp => !p.urgent && decide (1 ≤ sub ∧ sub ≤ 3)
  | .warmUpLimit => p.urgent && decide (sub = 0)
  | .zoneSensor => p.urgent && decide (1 ≤ sub ∧ sub ≤ 2) && decide (p.source.toNat ≤ 8)
  | .budgetShort => !p.urgent && decide (sub = 0)
  | .fan => decide (1 ≤ sub ∧ sub ≤ 3) && (p.urgent == decide (sub = 3)) && decide (p.source.toNat < 2)
  | .heartbeatLate => p.urgent && decide (sub = 0)
  | .restart => p.urgent && decide (1 ≤ sub ∧ sub ≤ 6)
  | .held => p.urgent && decide (1 ≤ sub ∧ sub ≤ 2)
  | .channel => decide (3 ≤ sub ∧ sub ≤ 5) && (p.urgent == decide (sub = 4 ∧ p.payload.w1 = 1)) && decide (p.source.toNat < 4)
  | .railDrop => p.urgent && decide (sub = 0) && decide (p.source.toNat < 6)
  | .mark => !p.urgent && decide (sub = 0) && decide (p.source.toNat < 4)
  | .snapshot => !p.urgent && decide (1 ≤ sub ∧ sub ≤ 4) && decide (p.source.toNat < 32)
  | .settings => decide (1 ≤ sub ∧ sub ≤ 4) && (p.urgent == decide (3 ≤ sub))

/-- The words of the tick ladder: base length, two bytes, and seven multipliers (12.8). -/
def ladderBytes : Nat := 9

/-- The bytes that have followed the command byte fit the moment: none at the falling edge, and `acts` of them where the port
acts before the rising edge (R133, R135; log 18). -/
def SelectEvent.admits (cs : SelectEvent) (acts : Option Nat) (inbound : List Byte) : Bool :=
  match cs.moment with
  | .falls => inbound.isEmpty
  | .acts => decide (acts = some inbound.length)
  | .rises => true

/-- A command the spec's tables admit: a link command's bytes fit its moment, a bad command byte is none of the three of
12.2, a ladder edit carries the ladder's nine bytes, a posting has the class and subkind of 10.4, a collection names cells and none twice (R137),
and S4 hands on a value within the legal span (R1). -/
def Instr.WellFormed : Instr → Bool
  | .status cs inbound => cs.admits none inbound
  | .read cs inbound => cs.admits (some 2) inbound
  | .write cs inbound => cs.admits none inbound
  | .badCommand cs c inbound => decide (c ≠ 0xA0#8 ∧ c ≠ 0xA1#8 ∧ c ≠ 0xA2#8) && cs.admits (some 0) inbound
  | .tickLadderEdit b a => decide (b.length = ladderBytes ∧ a.length = ladderBytes)
  | .reportPosting p => p.conforms
  | .collection cells => !cells.isEmpty && decide ((cells.map Prod.fst).Nodup)
  | .s4ColdModeUpdate _ held _ => decide (-880 ≤ held ∧ held ≤ 2000)
  | _ => true

end Sys2Proof
end

