-- ==== Sys2Proof/Machine/State.lean ====
section
/-! DEFINITION. The state of the part, as plain data, and its value right after a power-on reset. -/

namespace Sys2Proof.Machine

open Sys2Proof

/-- The faults that stop the machine: none. Every request the part turns away is answered with a code and a channel's
fault is state (R65), so no command ends in a fault. -/
inductive Fault where
deriving DecidableEq, Repr

/-- The refusals. -/
inductive Refusal where
  /-- Raised by an arm of exec whose command has no meaning yet; no arm does. Safe: the machine stops. -/
  | notModelled (mnemonic : String)
deriving DecidableEq, Repr

/-! ### Exchange memory and settings store -/

/-- Bytes that differ from what an unlisted address reads as, addresses rising. -/
abbrev Memory := List Host.Cell

/-- What an unlisted address reads as (R132): 0x00, and for the notice enable all six marks enabled. -/
def Memory.initial (a : Nat) : Byte := if a = 8 then 0x3F#8 else 0#8

/-- The canonical form from address `lo` on. -/
def Memory.wfFrom : Nat → Memory → Bool
  | _, [] => true
  | lo, (a, v) :: t => decide (lo ≤ a) && decide (a < 0x4000) && decide (v ≠ Memory.initial a) && Memory.wfFrom (a + 1) t

/-- Addresses strictly rising within the 16 KiB, and no entry equal to what an unlisted address reads as. -/
def Memory.wf (m : Memory) : Bool := Memory.wfFrom 0 m

/-- The canonical form of an image: a memory whose addresses lie in the settings region (R163). -/
def Memory.imageWf (m : Memory) : Bool := m.wf && m.all fun c => decide (0x1000 ≤ c.1) && decide (c.1 < 0x3000)

/-- The part state word (12.2). -/
inductive PartState where
  | starting | ready | defaulted
deriving DecidableEq, Repr

/-- The nonvolatile memory of the settings store (R163, R165). -/
structure NvStore where
  image : Memory
  crc : Word
  valid : Bool
  count : Nat
deriving DecidableEq, Repr

/-- The store's operation state (R163). -/
inductive StoreOp where
  | idle
  /-- The erase begins at the moment `eraseAt` (log 24). -/
  | storing (slot : Fin 8) (snapshot : Memory) (crc : Word) (eraseAt : Nat)
  | reloading (slot : Fin 8)
deriving DecidableEq, Repr

/-! ### Sensors and climate -/

/-- A sensor channel (R1 to R4). -/
structure Sensor where
  state : Validity := .ok
  held : Int := 0
  invalidRun : Nat := 0
  validRun : Nat := 0
  sampled : Bool := false
  nextSample : Option Nat := none
deriving DecidableEq, Repr

/-- A desk override (R15). -/
structure Override where
  duty : Nat
  remaining : Nat
deriving DecidableEq, Repr

/-- A zone's live record (R6). -/
structure Zone where
  setpoint : Option Int := none
  integrator : Int := 0
  lastDemand : Nat := 0
  lastGrant : Nat := 0
  boost : Nat := 0
  override : Option Override := none
  rearmTemp : Option Int := none
deriving DecidableEq, Repr

/-- The warm-up gate (1.5). That no soak remaining is held while no soak runs, at reset too, is the model's choice (log 53). -/
structure Gate where
  state : GateState := .closed
  rearmPending : Bool := true
  sinceRearm : Nat := 0
  soakRemaining : Option Nat := none
  limitExpired : Bool := false
  progress : Nat := 0
deriving DecidableEq, Repr

/-- The budget's interlocks and short episode (R31, R33). -/
structure Budget where
  tripped : Vector Bool 3 := Vector.replicate 3 false
  inEpisode : Bool := false
  shortRun : Nat := 0
  clearRun : Nat := 0
deriving DecidableEq, Repr

/-- A heater output (R32): its level, and when the on time of the window ends. -/
structure Heater where
  on : Bool := false
  offAt : Option Nat := none
deriving DecidableEq, Repr

/-- Which source decided a zone's demand (R12). -/
inductive DecidedBy where
  | law | threshold | failSafe | boost | override | unused
deriving DecidableEq, Repr

/-- A zone's entry of the zone status block, with its budget figures, as of the last pass (R6, R30). -/
structure ZoneShown where
  setpoint : Option Int := none
  temperature : Int := 0
  error : Int := 0
  proportional : Int := 0
  integrator : Int := 0
  demand : Nat := 0
  lastGrant : Nat := 0
  boost : Nat := 0
  override : Option Override := none
  decidedBy : DecidedBy := .unused
  request : Nat := 0
  grant : Nat := 0
  duty : Nat := 0
  tripped : Bool := false
deriving DecidableEq, Repr

/-- The gate status block as of the last pass (R17, 1.5). -/
structure GateShown where
  state : GateState := .closed
  sinceRearm : Nat := 0
  soakRemaining : Option Nat := none
  limitExpired : Bool := false
  zoneMet : Bool := false
  dewMet : Bool := false
  progress : Nat := 0
  dewPoint : Int := 0
  boardMargin : Option Int := none
  glassMargin : Option Int := none
deriving DecidableEq, Repr

/-- The budget part of the zone status block as of the last pass (R27, R33). -/
structure BudgetShown where
  supply : Nat := 0
  reservation : Nat := 0
  fanDraw : Nat := 0
  available : Nat := 0
  supplyLow : Bool := false
  remaining : Nat := 0
  inEpisode : Bool := false
  shortRun : Nat := 0
  clearRun : Nat := 0
deriving DecidableEq, Repr

/-! ### Fans -/

/-- The states of a fan (2.8). -/
inductive FanState where
  | resting | spinningUp | running | sweeping | failed
deriving DecidableEq, Repr

/-- The modes of a sweep (2.10). -/
inductive SweepMode where
  | test | record
deriving DecidableEq, Repr

/-- The results of a sweep (R169). -/
inductive SweepResult where
  | normal | stalled | clogged | slow | noReference | aborted
deriving DecidableEq, Repr

/-- Who started a channel or a sweep (0.7). -/
inductive Starter where
  | supervisor | schedule | desk | chord
deriving DecidableEq, Repr

/-- A sweep's result record (R47). -/
structure SweepRecord where
  mode : SweepMode
  starter : Starter
  result : SweepResult
  worst : Nat
  deviation : Int
  measured : Vector Nat 4
deriving DecidableEq, Repr

/-- A fan's record (2.8). -/
structure Fan where
  state : FanState := .resting
  demand : Nat := 0
  rpm : Nat := 0
  lateTries : Nat := 0
  restCount : Nat := 0
  clogged : Bool := false
  sweepPending : Bool := false
  lastResult : Option SweepRecord := none
  spinLimit : Option Nat := none
  lastPulse : Option Nat := none
  pulseBefore : Option Nat := none
  nextUpdate : Option Nat := none
deriving DecidableEq, Repr

/-- Where a sweep stands (R42, R43). -/
inductive SweepPhase where
  | spinningUp
  | settling (endsAt : Nat)
  | measuring (taken : List Nat)
deriving DecidableEq, Repr

/-- The sweep engine's sweep (R42). -/
structure Sweep where
  fan : Fin 2
  mode : SweepMode
  starter : Starter
  slot : Option (Fin 8)
  wasFailed : Bool
  point : Fin 4
  phase : SweepPhase
  measured : Vector Nat 4
deriving DecidableEq, Repr

/-- A fan's entry of the fan status block as last rewritten (2.8, R43). -/
structure FanShown where
  fan : Fan := {}
  sweep : Option Sweep := none
deriving DecidableEq, Repr

/-! ### Rail sequencer -/

/-- A rail's record (R49). -/
structure Rail where
  commanded : Bool := false
  good : Bool := false
  watched : Bool := false
deriving DecidableEq, Repr

/-- The four lines, true when asserted (R53). -/
structure Lines where
  hrst : Bool := true
  hpwr : Bool := false
  pnl : Bool := false
  aux : Bool := false
deriving DecidableEq, Repr

/-- The states of a channel (R61). -/
inductive ChanState where
  | idle | running | waiting | finished | faulted | aborted
deriving DecidableEq, Repr

/-- A channel's runs left (R61). -/
inductive Runs where
  | none | untilStopped | left (n : Nat)
deriving DecidableEq, Repr

/-- Who ended an aborted channel (R61). -/
inductive EndedBy where
  | supervisor | desk
deriving DecidableEq, Repr

/-- An ACTION step's fields, as read on reaching it (R56). -/
structure Action where
  index : Byte
  next : Byte
  operation : Byte
  target : Byte
  argument : Word
deriving DecidableEq, Repr

/-- What a busy channel is doing, with the fields it read and the moment it ends (R56 to R59). -/
inductive Activity where
  | none
  | performing (a : Action) (endsAt : Nat)
  | boundDelay (a : Action) (next : Byte) (endsAt : Nat)
  | delay (next : Byte) (endsAt : Nat)
  | matchedWait (next : Byte) (endsAt : Nat)
  | wait (rail : Fin 6) (good : Bool) (next : Byte) (timeoutAt : Nat)
deriving DecidableEq, Repr

/-- A channel's record (R61). -/
structure Channel where
  state : ChanState := .idle
  sequence : Fin 16 := 0
  mask : BitVec 6 := 0
  step : Byte := 0
  repeatLeft : Nat := 0
  runs : Runs := .none
  starter : Option Starter := none
  endedBy : Option EndedBy := none
  fault : Option FaultCode := none
  faultStep : Byte := 0
  activity : Activity := .none
  startId : Nat := 0
deriving DecidableEq, Repr

/-! ### Host supervisor -/

/-- The supervisor's states (4.2). -/
inductive SupState where
  | off | warming | powering | booting | running | restarting | shutting | held
deriving DecidableEq, Repr

/-- The supervisor's substates (4.2). -/
inductive SupSub where
  | none | watching | late | paused | holdOff | sequence
deriving DecidableEq, Repr

/-- A rung's mode (4.1). -/
inductive RungMode where
  | direct | rewarm
deriving DecidableEq, Repr

/-- Where a restart comes from (R82, R85). -/
inductive Origin where
  | ladder | request | chord
deriving DecidableEq, Repr

/-- The restart in progress (R69): the mode is kept from the entry into SEQUENCE (R83). -/
structure Restart where
  rung : Fin 6
  mode : Option RungMode
  origin : Origin
deriving DecidableEq, Repr

/-- The shutdown target (R86), HELD with the reason its report carries (R89). -/
inductive ShutTarget where
  | off | heldByLadder | heldByRequest
deriving DecidableEq, Repr

/-- The ladder copy (R81). -/
structure LadderCopy where
  rungCount : Nat
  limits : Vector Nat 6
deriving DecidableEq, Repr

/-- A restart history entry (R90). -/
structure HistoryEntry where
  serial : Nat
  cause : Cause
  rung : Option (Fin 6)
  attempt : Nat
  stageReached : Option Nat
  stateAt : SupState
  subAt : SupSub
  stamp : DWord
  s0 : DWord
  s2 : DWord
deriving DecidableEq, Repr

/-- The host supervisor (R69). Timers hold the moment they expire. -/
structure Sup where
  state : SupState := .off
  sub : SupSub := .none
  bootStage : Nat := 0
  checkpointCopy : Option Byte := none
  heartbeatCopy : DWord := 0
  lastKick : DWord := 0
  stageTimer : Option Nat := none
  heartbeatTimer : Option Nat := none
  graceTimer : Option Nat := none
  pauseTimer : Option Nat := none
  settleTimer : Option Nat := none
  holdOffTimer : Option Nat := none
  haltTimer : Option Nat := none
  wakeTimer : Option Nat := none
  heldRetryTimer : Option Nat := none
  rung : Fin 6 := 0
  attempts : Nat := 0
  ladder : LadderCopy := { rungCount := 1, limits := Vector.replicate 6 1 }
  restart : Option Restart := none
  target : Option ShutTarget := none
  wakeAfter : Option Nat := none
  gateWait : Bool := false
  stageReached : Option Nat := none
  serial : Nat := 0
  history : List HistoryEntry := []
  reservation : Bool := false
  starts : Nat := 0
  awaiting : Option Nat := none
deriving DecidableEq, Repr

/-! ### Schedule -/

/-- The outcome of an entry's last action (R130). -/
structure EntryOutcome where
  refusal : Option AnswerCode
  channel : Option (Fin 4)
  stamp : DWord
deriving DecidableEq, Repr

/-- The schedule (R121 to R130), with what its generator started from and how many numbers it has drawn (log 3). -/
structure Sched where
  lengths : Vector Nat 8 := Vector.replicate 8 0
  nextAdvance : Vector (Option Nat) 8 := Vector.replicate 8 none
  outcomes : Vector (Option EntryOutcome) 32 := Vector.replicate 32 none
  genSeed : Nat := 0
  genCount : Nat := 0
deriving DecidableEq, Repr

/-! ### Keypad, chords and lights -/

/-- The states of a key (5.4). -/
inductive KeyState where
  | up | pressing | down | releasing | stuck | blocked
deriving DecidableEq, Repr

/-- A latched key map entry (R92). -/
structure KeyEntry where
  code : BitVec 7
  group : BitVec 2
  rep : Bool
  power : Bool
deriving DecidableEq, Repr

/-- A key record (5.4). A run of length 0 is no run in progress. -/
structure Key where
  state : KeyState := .up
  run : Nat := 0
  target : Nat := 0
  latched : Option KeyEntry := none
  downTime : Option DWord := none
  nextRepeat : Option DWord := none
  unreported : Bool := false
deriving DecidableEq, Repr

/-- The keypad scanner (R107). -/
structure Keypad where
  keys : Vector Key 64 := Vector.replicate 64 {}
  coldMode : Bool := false
  deskLock : Bool := false
  stuckCount : Nat := 0
  faultArmed : Bool := true
  nextScan : Option Nat := none
  published : SupState := .off
  policyRead : Bool := false
  lockedAtScan : Bool := false
deriving DecidableEq, Repr

/-- A chord entry's matching state (R109). -/
structure Chord where
  armed : Bool := true
  matchStart : Option DWord := none
deriving DecidableEq, Repr

/-- The power press record (R113). -/
structure PowerPress where
  start : DWord
  longDone : Bool := false
  forcedDone : Bool := false
  disarmed : Bool := false
deriving DecidableEq, Repr

/-- An expiry that a publication of its own moment has met (R115, log 51): that moment, and the supervisor word published
before it. -/
structure OpenExpiry where
  moment : Nat
  word : DWord
deriving DecidableEq, Repr

/-- The chord and light unit (chapter 6). -/
structure ChordUnit where
  chords : Vector Chord 8 := Vector.replicate 8 {}
  press : Option PowerPress := none
  elapsedAtScan : Option DWord := none
  forcedOffTimer : Option Nat := none
  openExpiry : Option OpenExpiry := none
  progress : Nat := 0
  rearmAwaited : Bool := false
  testEnds : Option Nat := none
  published : SupState := .off
  publishedSub : SupSub := .none
deriving DecidableEq, Repr

/-- The chord and light status entry as last rewritten (R120). -/
structure ChordShown where
  armed : Vector Bool 8 := Vector.replicate 8 true
  matching : Vector Bool 8 := Vector.replicate 8 false
  press : Option PowerPress := none
  elapsedAtScan : Option DWord := none
  forcedOffRemaining : Option Nat := none
  progress : Nat := 0
  litCount : Nat := 0
  override : Option SupState := none
  testRemaining : Option Nat := none
deriving DecidableEq, Repr

/-! ### Desk, report pool, counters, notice unit, link port -/

/-- A captured request (R143). -/
structure Request where
  kind : Byte
  args : Words
  toggle : Byte
deriving DecidableEq, Repr

/-- A desk slot's part-owned half and taken mark (R143). -/
structure Slot where
  taken : Option Request := none
  answerCode : Option AnswerCode := none
  answerToggle : Byte := 0
  data : Words := {}
deriving DecidableEq, Repr

/-- A filled report cell (R155): the report, its number, the sequence word the memory shows, and its age mark. -/
structure PoolCell where
  report : Posting
  number : Word
  shown : Word
  aged : Bool
deriving DecidableEq, Repr

/-- The report pool (R155). -/
structure Pool where
  cells : Vector (Option PoolCell) 64 := Vector.replicate 64 none
  order : List (Fin 64) := []
  generator : Word := 1
  newest : Word := 0
  coalesceTimer : Option Nat := none
  ageTimer : Option Nat := none
deriving DecidableEq, Repr

/-- The counter unit (R162). -/
structure Counters where
  values : Vector Nat 54 := Vector.replicate 54 0
  frozen : Bool := false
deriving DecidableEq, Repr

/-- The notice unit (R140, R141). -/
structure Notice where
  marks : Byte := 0
  enable : Byte := 0x3F
deriving DecidableEq, Repr

/-- A transaction in progress: the status byte captured at its falling edge (R133, R134), and the bytes copied for a READ
once its address is complete (R135). -/
structure Transfer where
  status : Byte
  copy : List Byte := []
deriving DecidableEq, Repr

/-- The link port (R138): its copy of the link rail's record, the transaction in progress, and the bytes it shifted out in
the last chip select period; none when its data output floats. -/
structure Link where
  rail : Fin 6 := 0
  commanded : Bool := false
  good : Bool := false
  transfer : Option Transfer := none
  out : Option (List Byte) := none
deriving DecidableEq, Repr

/-- The tick part of the schedule status entry as last rewritten (R130): the lengths and the times left. -/
structure TicksShown where
  lengths : Vector Nat 8 := Vector.replicate 8 0
  left : Vector (Option Nat) 8 := Vector.replicate 8 none
deriving DecidableEq, Repr

/-- The status blocks whose items may stand behind the state between two rewrites. -/
structure Shown where
  zones : Vector ZoneShown 3 := Vector.replicate 3 {}
  gate : GateShown := {}
  budget : BudgetShown := {}
  fans : Vector FanShown 2 := Vector.replicate 2 {}
  ticks : TicksShown := {}
  chords : ChordShown := {}
deriving DecidableEq, Repr

/-! ### The state -/

/-- The part. `pending` is the queue of commands; `transit` holds the events one block has sent another (log 1). -/
structure State where
  pending : List Instr
  transit : List Instr
  clock : Nat
  freeCount : Nat
  lastRefusal : Option AnswerCode
  partState : PartState
  resetHeld : Bool
  mem : Memory
  nv : NvStore
  store : StoreOp
  sensors : Vector Sensor 9
  zones : Vector Zone 3
  gate : Gate
  nextPass : Option Nat
  budget : Budget
  heaters : Vector Heater 3
  fans : Vector Fan 2
  sweep : Option Sweep
  rails : Vector Rail 6
  lines : Lines
  channels : Vector Channel 4
  sup : Sup
  sched : Sched
  keypad : Keypad
  chords : ChordUnit
  slots : Vector Slot 8
  pool : Pool
  counters : Counters
  notice : Notice
  link : Link
  shown : Shown
deriving DecidableEq, Repr

/-- Right after a power-on reset with RESET not held (R164 step 1, and each block's own power-on values): STARTING,
with the load of the settings image in progress. The nonvolatile memory is as it is before any store (log 7). -/
def State.reset : State where
  pending := []
  transit := []
  clock := 0
  freeCount := 1
  lastRefusal := none
  partState := .starting
  resetHeld := false
  mem := []
  nv := { image := [], crc := 0, valid := false, count := 0 }
  store := .idle
  sensors := Vector.replicate 9 {}
  zones := Vector.replicate 3 {}
  gate := {}
  nextPass := none
  budget := {}
  heaters := Vector.replicate 3 {}
  fans := Vector.replicate 2 {}
  sweep := none
  rails := Vector.replicate 6 {}
  lines := {}
  channels := Vector.replicate 4 {}
  sup := {}
  sched := {}
  keypad := {}
  chords := {}
  slots := Vector.replicate 8 {}
  pool := {}
  counters := {}
  notice := {}
  link := {}
  shown := {}

end Sys2Proof.Machine
end

