-- ==== Sys2Proof/Machine/Ops.lean ====
section
/-! DEFINITION. The named operations the meanings share: exchange memory, time, and events between blocks. -/

namespace Sys2Proof.Machine

open Sys2Proof

/-! ### Exchange memory (R131, 0.6: little-endian) -/

/-- The byte at an address. -/
def Memory.read : Memory → Nat → Byte
  | [], a => Memory.initial a
  | (k, v) :: t, a => if k = a then v else Memory.read t a

/-- Entry (a, v) put in its place by address. -/
def Memory.insert : Memory → Nat → Byte → Memory
  | [], a, v => [(a, v)]
  | (k, w) :: t, a, v =>
    if k = a then (a, v) :: t else if a < k then (a, v) :: (k, w) :: t else (k, w) :: Memory.insert t a v

/-- One byte written; writing what an unlisted address reads as removes the entry. -/
def Memory.write (m : Memory) (a : Nat) (v : Byte) : Memory :=
  if v = Memory.initial a then m.filter (fun c => decide (c.1 ≠ a)) else m.insert a v

/-- Bytes written upward from an address, without wrapping. -/
def Memory.writeBytes : Memory → Nat → List Byte → Memory
  | m, _, [] => m
  | m, a, v :: t => Memory.writeBytes (m.write a v) (a + 1) t

/-- Bytes written at their own addresses, in order. -/
def Memory.writeAll : Memory → List (Nat × Byte) → Memory
  | m, [] => m
  | m, (a, v) :: t => Memory.writeAll (m.write a v) t

/-- A two-byte field. -/
def Memory.read16 (m : Memory) (a : Nat) : Word := m.read (a + 1) ++ m.read a

/-- A four-byte field. -/
def Memory.read32 (m : Memory) (a : Nat) : DWord := m.read16 (a + 2) ++ m.read16 a

/-- A one-byte field as a number. -/
def Memory.byte (m : Memory) (a : Nat) : Nat := (m.read a).toNat

/-- A two-byte field as a number. -/
def Memory.nat16 (m : Memory) (a : Nat) : Nat := (m.read16 a).toNat

/-- A two-byte signed field (R168). -/
def Memory.int16 (m : Memory) (a : Nat) : Int := (m.read16 a).toInt

/-- A yes-or-no byte: "It reads 0 as no and any other value as yes" (R168). -/
def Memory.flag (m : Memory) (a : Nat) : Bool := decide (m.read a ≠ 0#8)

/-- The low and the high byte of a two-byte field. -/
def bytes16 (w : Word) : List Byte := [w.setWidth 8, (w >>> 8).setWidth 8]

/-- The bytes of a four-byte field, least significant first. -/
def bytes32 (w : DWord) : List Byte :=
  [w.setWidth 8, (w >>> 8).setWidth 8, (w >>> 16).setWidth 8, (w >>> 24).setWidth 8]

/-- The settings region's bytes (R163), as an image. -/
def Memory.settings (m : Memory) : Memory := m.filter fun c => decide (0x1000 ≤ c.1 ∧ c.1 < 0x3000)

/-- An image written over the whole settings region, as one memory update (R164, R166). -/
def Memory.loadSettings (m image : Memory) : Memory :=
  m.filter (fun c => decide (c.1 < 0x1000)) ++ image ++ m.filter (fun c => decide (0x3000 ≤ c.1))

/-! ### Time -/

/-- The uptime count in milliseconds, wrapping (0.6, R139). -/
def State.uptime (s : State) : DWord := BitVec.ofNat 32 (s.clock / 1000)

/-- Time passes by itself. -/
def State.elapse (s : State) (us : Nat) : State := { s with clock := s.clock + us }

/-- The moment `due` has come (log 16): the clock stands there, or later when it already did. -/
def State.reachTime (s : State) (due : Nat) : State := { s with clock := max s.clock due }

/-- The moment n milliseconds from now. -/
def State.inMs (s : State) (n : Nat) : Nat := s.clock + n * 1000

/-- The whole milliseconds left of a timer, or none when it is stopped. -/
def State.msLeft (s : State) (timer : Option Nat) : Option Nat := timer.map fun t => (t - s.clock) / 1000

/-- Blocks that begin at READY are at work (R164). -/
def State.isReady (s : State) : Bool := decide (s.partState ≠ .starting)

/-! ### Events between blocks (95; log 1) -/

/-- An event sent to another block. -/
def State.send (s : State) (c : Instr) : State := { s with transit := s.transit ++ [c] }

/-- Events sent in order. -/
def State.sendAll (s : State) (cs : List Instr) : State := { s with transit := s.transit ++ cs }

/-- The event is taken: if it was in transit, it is so no longer. -/
def State.taking (s : State) (c : Instr) : State := { s with transit := s.transit.erase c }

/-- A counter increment requested (R162). -/
def State.count (s : State) (c : Counter) : State := s.send (.counterIncrement c)

/-- A notice mark requested (R140). -/
def State.mark (s : State) (m : Mark) : State := s.send (.noticeMarkSet m)

/-- A posting requested (R156), its time stamp the uptime of this event (R155). -/
def State.report (s : State) (kind : ReportKind) (subkind : Nat) (urgent : Bool) (source : Nat) (p : Payload) : State :=
  s.send (.reportPosting
    { kind := kind
      subkind := BitVec.ofNat 8 subkind
      urgent := urgent
      stamp := s.uptime
      source := BitVec.ofNat 8 source
      payload := p })

/-- A free value's number is used up (log 3). -/
def State.drawFree (s : State) : State := { s with freeCount := s.freeCount + 1 }

/-- An owner's outcome for a desk request goes back to the desk (R146). -/
def State.answer (s : State) (slot : Fin 8) (code : AnswerCode) (data : Words := {}) : State :=
  s.send (.deskAnswer slot code data)

end Sys2Proof.Machine
end

