-- ==== Sys2Proof/Machine/Flags.lean ====
section
/-! DEFINITION. Encodings of states and sets (12.1 to 12.7), the packed words of R169, the marks and the status byte. -/

namespace Sys2Proof.Machine

open Sys2Proof

/-! ### Codes -/

/-- Sensor states (R169). -/
def validityCode : Validity → Nat
  | .ok => 0 | .holding => 1 | .failed => 2

/-- Gate states (R169). -/
def gateCode : GateState → Nat
  | .closed => 0 | .soaking => 1 | .opened => 2

/-- Sweep results (R169). -/
def sweepCode : SweepResult → Nat
  | .normal => 1 | .stalled => 2 | .clogged => 3 | .slow => 4 | .noReference => 5 | .aborted => 6

/-- Supervisor states (R169). -/
def supCode : SupState → Nat
  | .off => 0 | .warming => 1 | .powering => 2 | .booting => 3 | .running => 4 | .restarting => 5 | .shutting => 6
  | .held => 7

/-- Supervisor substates (R169). -/
def subCode : SupSub → Nat
  | .none => 0 | .watching => 1 | .late => 2 | .paused => 3 | .holdOff => 4 | .sequence => 5

/-- Fan states (R169). -/
def fanCode : FanState → Nat
  | .resting => 0 | .spinningUp => 1 | .running => 2 | .sweeping => 3 | .failed => 4

/-- Channel states (12.6). -/
def chanCode : ChanState → Nat
  | .idle => 0 | .running => 1 | .waiting => 2 | .finished => 3 | .faulted => 4 | .aborted => 5

/-- Starters (12.6). -/
def starterCode : Option Starter → Nat
  | none => 0 | some .supervisor => 1 | some .schedule => 2 | some .desk => 3 | some .chord => 4

/-- Ended by (12.6). -/
def endedCode : Option EndedBy → Nat
  | none => 0 | some .supervisor => 1 | some .desk => 2

/-- Fault codes (12.6). -/
def faultCode : Option FaultCode → Nat
  | none => 0 | some .waitTimeout => 1 | some .outOfMask => 2 | some .badStep => 3 | some .railLocked => 4
  | some .conflict => 5

/-- Runs left (12.6): 0 for until stopped, and 0 also for none. -/
def runsCode : Runs → Nat
  | .none => 0 | .untilStopped => 0 | .left n => n

/-- Causes (12.7). -/
def causeCode : Cause → Nat
  | .heartbeat => 1 | .bootStall => 2 | .powerFault => 3 | .railDrop => 4 | .request => 5 | .chord => 6

/-- Answer codes (12.3). -/
def answerCode : AnswerCode → Nat
  | .done => 1 | .busy => 2 | .wrongState => 3 | .conflict => 4 | .noChannel => 5 | .badKind => 6 | .badArgument => 7
  | .failed => 8

/-- Report kinds (12.4). -/
def kindCode : ReportKind → Nat
  | .key => 1 | .keypadFault => 2 | .chord => 3 | .powerKey => 4 | .warmUp => 5 | .warmUpLimit => 6 | .zoneSensor => 7
  | .budgetShort => 8 | .fan => 9 | .heartbeatLate => 10 | .restart => 11 | .held => 12 | .channel => 13
  | .railDrop => 14 | .mark => 15 | .snapshot => 16 | .settings => 17

/-- Part states (12.2). -/
def partCode : PartState → Nat
  | .starting => 0 | .ready => 1 | .defaulted => 2

/-- A mark's bit (12.2). -/
def markBit : Mark → Byte
  | .desk => 0x01#8 | .reports => 0x02#8 | .urgent => 0x04#8 | .heartbeat => 0x08#8 | .stray => 0x10#8
  | .settings => 0x20#8

/-- The position of a failure cause's counter within the six (R162). -/
def causeOffset : Cause → Fin 6
  | .heartbeat => 0 | .bootStall => 1 | .powerFault => 2 | .railDrop => 3 | .request => 4 | .chord => 5

/-- A counter's position in the counter region (R162, 12.9). -/
def counterPosition : Counter → Fin 54
  | .passes => 0
  | .budgetShortEpisodes => 1
  | .sensorFailures ch => ⟨2 + ch.val, by omega⟩
  | .warmUpsCompleted => 11
  | .warmUpLimitExpiries => 12
  | .plateTrips => 13
  | .spinUps f => ⟨14 + f.val, by omega⟩
  | .spinUpLate f => ⟨16 + f.val, by omega⟩
  | .fanFailures f => ⟨18 + f.val, by omega⟩
  | .sweepsRun => 20
  | .sweepsClogged => 21
  | .kicks => 22
  | .heartbeatLate => 23
  | .lateRecovered => 24
  | .lateKicks => 25
  | .checkpointsIgnored => 26
  | .cause c => ⟨27 + (causeOffset c).val, by omega⟩
  | .holdsEntered => 33
  | .channelsStarted => 34
  | .channelsFinished => 35
  | .channelsFaulted => 36
  | .channelsAborted => 37
  | .scheduleSkips => 38
  | .railDrops => 39
  | .keyDowns => 40
  | .stuck => 41
  | .ghostBlocks => 42
  | .chordsFired => 43
  | .chordsRefused => 44
  | .reportsPosted => 45
  | .aged => 46
  | .overwritten => 47
  | .dropped => 48
  | .sequenceCollisions => 49
  | .transactions => 50
  | .strayWrites => 51
  | .badCommands => 52
  | .deskOverposts => 53

/-- First position and number of each group's counters (12.9), by the group's desk code (12.3). -/
def groupSpan (group : Nat) : Nat × Nat :=
  match group with
  | 0 => (0, 14)
  | 1 => (14, 8)
  | 2 => (22, 12)
  | 3 => (34, 6)
  | 4 => (40, 5)
  | 5 => (45, 9)
  | _ => (0, 54)

/-! ### Packed words (R169) -/

/-- A sensor word. -/
def sensorWord (state : Validity) (held : Int) (sampled : Bool) : DWord :=
  natWord ((BitVec.ofInt 16 held).toNat + validityCode state * 65536 + (if sampled then 8388608 else 0))

/-- A channel's sensor word. -/
def Sensor.word (c : Sensor) : DWord := sensorWord c.state c.held c.sampled

/-- The supervisor word of a state and substate. -/
def supWordOf (state : SupState) (sub : SupSub) : DWord := natWord (supCode state + subCode sub * 256)

/-- The supervisor word. -/
def Sup.word (u : Sup) : DWord := supWordOf u.state u.sub

/-- A fan word. -/
def Fan.word (f : Fan) : DWord := natWord (f.rpm + fanCode f.state * 65536)

/-! ### States read by several blocks -/

/-- The channel gives a value: OK or HOLDING, and sampled. "Every user of a channel in this chapter treats an unsampled
channel exactly as it treats a FAILED channel" (R4). -/
def Sensor.usable (c : Sensor) : Bool := decide (c.state ≠ .failed) && c.sampled

/-- The supervisor states in which the host rails are off (R72). -/
def SupState.hostOff : SupState → Bool
  | .off | .warming | .held => true
  | _ => false

/-- RUNNING or WAITING: the busy states (R61). -/
def Channel.busy (c : Channel) : Bool := decide (c.state = .running ∨ c.state = .waiting)

/-- Two rail sets share a rail. -/
def sharesRail (a b : BitVec 6) : Bool := decide (a &&& b ≠ 0#6)

/-- The port is OPEN while the link rail is commanded ON and good, as last delivered (R138). -/
def Link.isOpen (l : Link) : Bool := l.commanded && l.good

/-- The port evaluates a rail's record (R138): FENCED discards the transaction in progress, and a port that enters OPEN has
none, so that it disregards the rest of a chip select period. -/
def Link.evaluate (l : Link) (rail : Fin 6) (x : Rail) : Link :=
  { l with
    rail := rail, commanded := x.commanded, good := x.good
    transfer := if x.commanded && x.good then l.transfer else none }

/-- The transaction the port serves: "The link port applies no write transaction while the link rail is commanded off or not
good", nor any other (R138). -/
def Link.serving (l : Link) : Option Transfer := if l.isOpen then l.transfer else none

/-- The NOTICE line. -/
inductive NoticeLine where
  | floating | released | asserted
deriving DecidableEq, Repr

/-- The NOTICE line: floating while FENCED, driven low while OPEN with a mark both set and enabled (R142). -/
def State.noticeLine (s : State) : NoticeLine :=
  if !s.link.isOpen then .floating
  else if s.notice.marks &&& s.notice.enable &&& 0x3F#8 ≠ 0#8 then .asserted else .released

/-- The status byte of R134 (12.2). -/
def State.statusByte (s : State) : Byte :=
  (if s.isReady then 0x01#8 else 0#8) ||| (if s.noticeLine = .asserted then 0x02#8 else 0#8)
    ||| (if s.partState = .defaulted then 0x04#8 else 0#8)
    ||| (match s.store with | .storing _ _ _ _ => 0x08#8 | _ => 0#8)

/-- The duty of a sweep's point in force (R28, R43). -/
def sweepDuty (point : Fin 4) : Nat := 250 * (point.val + 1)

/-- The erase of a store: the count increased and the stored image invalid from this moment on (R165 step 2). -/
def NvStore.erase (nv : NvStore) : NvStore := { nv with valid := false, count := satSucc nv.count Config.top32 }

/-- The nonvolatile memory at this moment: a store in progress has erased it once its erase has begun (R165). -/
def State.nvNow (s : State) : NvStore :=
  match s.store with
  | .storing _ _ _ eraseAt => if eraseAt ≤ s.clock then s.nv.erase else s.nv
  | _ => s.nv

/-- The duty at which a fan is driven (R28), with the engine's sweep. -/
def Fan.drivenDuty (x : Fan) (sweep : Option Sweep) : Nat :=
  match x.state with
  | .resting => 0
  | .spinningUp => 1000
  | .running => x.demand
  | .sweeping => match sweep with
    | some w => sweepDuty w.point
    | none => 0
  | .failed => 0

/-- The duty at which fan f is driven now (R28). -/
def State.driven (s : State) (f : Fin 2) : Nat := s.fans[f].drivenDuty s.sweep

end Sys2Proof.Machine
end

