-- ==== Sys2Proof/Machine/Operands.lean ====
section
/-! DEFINITION. The fields of the settings tables (12.8), each read at the moment of use and clamped to its range there
(R5, R19, R26, R52, R60, R68, R92, R108, R112, R121, R123). -/

namespace Sys2Proof.Machine

open Sys2Proof

/-! ### Climate profile -/

/-- A zone's settings (1.2.1). -/
structure ZoneCfg where
  control : Fin 9
  plate : Option (Fin 9)
  target : Int
  release : Int
  boostBelow : Int
  plateLimit : Int
  failSafe : Nat
  rated : Nat
  ramp : Nat
  kp : Nat
  ki : Nat
  priority : Nat
  gating : Bool
  fallback : Nat
deriving DecidableEq, Repr

/-- The control sensor: "A control sensor index above 7 is read as 7" (R5). -/
def controlSensor (v : Nat) : Fin 9 := ⟨min v 7, by omega⟩

/-- The plate sensor: 5, 6 or none; "other values read as none" (1.2.1). -/
def plateSensor (v : Nat) : Option (Fin 9) := if v = 5 then some 5 else if v = 6 then some 6 else none

/-- Zone z's settings, as R5 reads them. -/
def zoneCfg (m : Memory) (z : Fin 3) : ZoneCfg :=
  let b := 0x1000 + 32 * z.val
  { control := controlSensor (m.byte b)
    plate := plateSensor (m.byte (b + 1))
    target := clampInt (m.int16 (b + 2)) (-640) 1360
    release := clampInt (m.int16 (b + 4)) (-640) 1360
    boostBelow := clampInt (m.int16 (b + 6)) (-880) 2000
    plateLimit := clampInt (m.int16 (b + 8)) (-880) 2000
    failSafe := min (m.nat16 (b + 10)) 1000
    rated := min (m.nat16 (b + 12)) 2000
    ramp := m.byte (b + 14)
    kp := min (m.byte (b + 15)) 250
    ki := m.byte (b + 16)
    priority := min (m.byte (b + 17)) 2
    gating := m.flag (b + 18)
    fallback := clampNat (m.byte (b + 19)) 1 240 }

/-- "A rated power of 0 makes the zone unused for that pass" (R5). -/
def ZoneCfg.used (c : ZoneCfg) : Bool := decide (c.rated ≠ 0)

/-- The minimum dew margin (R17). A negative value of the signed field is read as 0 (log 52). -/
def dewMargin (m : Memory) : Int := clampInt (m.int16 0x1060) 0 320

/-- The dew fallback time in seconds (R17). A value above 240 minutes is read as 240 (log 52). -/
def dewFallback (m : Memory) : Nat := clampNat (m.byte 0x1062) 1 240 * 60

/-- The soak time in seconds (R19). -/
def soakTime (m : Memory) : Nat := min (m.nat16 0x1063) 600

/-- The warm-up limit in seconds (R19). -/
def warmUpLimit (m : Memory) : Nat := clampNat (m.byte 0x1065) 1 240 * 60

/-- The limit policy is RELEASE ANYWAY: any value but STAY COLD's 0 (R19). -/
def releaseAnyway (m : Memory) : Bool := decide (m.byte 0x1066 ≠ 0)

/-! ### Budget and fans -/

/-- Supply budget B in tenths of a watt (2.1). -/
def supplyBudget (m : Memory) : Nat := min (m.nat16 0x1080) 5000

/-- Host reservation Ha in tenths of a watt (2.1). -/
def hostReservation (m : Memory) : Nat := min (m.nat16 0x1082) 5000

/-- The address of a fan's record (12.8). -/
def fanBase (f : Fin 2) : Nat := 0x10A0 + 32 * f.val

/-- Fan rated power Wf. -/
def fanRated (m : Memory) (f : Fin 2) : Nat := min (m.nat16 (fanBase f)) 500
/-- Cool start Tc. -/
def coolStart (m : Memory) (f : Fin 2) : Int := clampInt (m.int16 (fanBase f + 2)) (-880) 2000
/-- Kf. -/
def fanGain (m : Memory) (f : Fin 2) : Nat := min (m.nat16 (fanBase f + 4)) 1000
/-- Minimum run. -/
def minimumRun (m : Memory) (f : Fin 2) : Nat := min (m.nat16 (fanBase f + 6)) 1000
/-- Stir duty: exists for F1 alone. -/
def stirDuty (m : Memory) : Nat := min (m.nat16 (fanBase 1 + 8)) 1000
/-- Clog surcharge. -/
def clogSurcharge (m : Memory) (f : Fin 2) : Nat := min (m.nat16 (fanBase f + 10)) 1000
/-- Rest delay in seconds. -/
def restDelay (m : Memory) (f : Fin 2) : Nat := clampNat (m.nat16 (fanBase f + 12)) 10 600
/-- Spin-up limit in seconds. -/
def spinUpLimit (m : Memory) (f : Fin 2) : Nat := clampNat (m.byte (fanBase f + 14)) 1 30
/-- Spin-up RPM. -/
def spinUpRpm (m : Memory) (f : Fin 2) : Nat := clampNat (m.nat16 (fanBase f + 16)) 100 20000
/-- Clog limit in per mille. -/
def clogLimit (m : Memory) (f : Fin 2) : Nat := clampNat (m.nat16 (fanBase f + 18)) 1 1000
/-- Slow limit in per mille. -/
def slowLimit (m : Memory) (f : Fin 2) : Nat := clampNat (m.nat16 (fanBase f + 20)) 1 1000
/-- The address of the reference at point k. -/
def referenceAddr (f : Fin 2) (k : Nat) : Nat := fanBase f + 22 + 2 * k
/-- The reference at point k. -/
def reference (m : Memory) (f : Fin 2) (k : Fin 4) : Nat := m.nat16 (referenceAddr f k.val)

/-! ### Rails, sequences, steps -/

/-- The host rail mask (R52). -/
def hostMask (m : Memory) : BitVec 6 := (m.read 0x10E0).setWidth 6

/-- A link rail value: "a value above 5 is read as 5" (R52). -/
def railOf (v : Nat) : Fin 6 := ⟨min v 5, by omega⟩

/-- The link rail (R52). -/
def linkRail (m : Memory) : Fin 6 := railOf (m.byte 0x10E1)

/-- The address of a sequence head (12.8). -/
def headBase (h : Fin 16) : Nat := 0x1100 + 8 * h.val
/-- A head's first step. -/
def headFirst (m : Memory) (h : Fin 16) : Byte := m.read (headBase h)
/-- A head's rail mask. -/
def headMask (m : Memory) (h : Fin 16) : BitVec 6 := (m.read (headBase h + 1)).setWidth 6
/-- A head's run count as runs left: 0 means until stopped (R60). -/
def headRuns (m : Memory) (h : Fin 16) : Runs :=
  if m.byte (headBase h + 2) = 0 then .untilStopped else .left (m.byte (headBase h + 2))
/-- A head number from a byte: none above 15. -/
def headOf? (v : Nat) : Option (Fin 16) := if h : v < 16 then some ⟨v, h⟩ else none
/-- A head number above 15 read as 15 (R68, R110, R127). -/
def headOf (v : Nat) : Fin 16 := ⟨min v 15, by omega⟩
/-- A head's then-sequence: "A then-sequence value above 15 is read as none" (R60). -/
def headThen (m : Memory) (h : Fin 16) : Option (Fin 16) := headOf? (m.byte (headBase h + 3))

/-- A step entry as read (12.8.1). -/
inductive Step where
  | action (a : Action) (repeats : Nat)
  | delay (next : Byte) (length : Nat)
  | wait (rail : Nat) (good : Bool) (next : Byte) (timeout : Nat)
  | invalid
deriving DecidableEq, Repr

/-- 0 read as 1 (R56, R58, R59). -/
def atLeastOne (n : Nat) : Nat := if n = 0 then 1 else n

/-- The entry at an index, read whole; an index above 127 or a type that is none of the three is invalid (R55). -/
def stepAt (m : Memory) (i : Byte) : Step :=
  let b := 0x1400 + 8 * i.toNat
  if 127 < i.toNat then .invalid
  else match m.byte b with
    | 1 => .action
        { index := i
          next := m.read (b + 1)
          operation := m.read (b + 2)
          target := m.read (b + 3)
          argument := m.read16 (b + 6) } (atLeastOne (m.byte (b + 4)))
    | 2 => .delay (m.read (b + 1)) (atLeastOne (m.nat16 (b + 2)))
    | 3 => .wait (m.byte (b + 2)) (m.flag (b + 3)) (m.read (b + 1)) (atLeastOne (m.nat16 (b + 4)))
    | _ => .invalid

/-! ### Supervisor profile (12.8.3) -/

/-- Auto-start. -/
def autoStart (m : Memory) : Bool := m.flag 0x1180
/-- Power-up sequence head. -/
def powerUpHead (m : Memory) : Fin 16 := headOf (m.byte 0x1181)
/-- Off-sequence head. -/
def offHead (m : Memory) : Fin 16 := headOf (m.byte 0x1182)
/-- Rung count. -/
def rungCount (m : Memory) : Nat := clampNat (m.byte 0x1183) 1 6
/-- A boot table entry, in milliseconds. -/
def bootEntry (m : Memory) (stage : Nat) : Nat := atLeastOne (m.nat16 (0x1184 + 2 * stage)) * 100
/-- Heartbeat timeout in seconds; 0 disables the watch. -/
def heartbeatTimeout (m : Memory) : Nat := min (m.nat16 0x11A4) 600
/-- Grace in seconds. -/
def graceTime (m : Memory) : Nat := min (m.nat16 0x11A6) 600
/-- Settle time in minutes. -/
def settleTime (m : Memory) : Nat := clampNat (m.nat16 0x11A8) 1 1440
/-- Held retry in minutes; 0 means never. -/
def heldRetry (m : Memory) : Nat := min (m.nat16 0x11AA) 10080
/-- Forced-off time in seconds (R115). -/
def forcedOffTime (m : Memory) : Nat := clampNat (m.nat16 0x11AC) 1 600
/-- The address of a rung's entry. -/
def rungBase (r : Fin 6) : Nat := 0x11B0 + 6 * r.val
/-- A rung's head. -/
def rungHead (m : Memory) (r : Fin 6) : Fin 16 := headOf (m.byte (rungBase r))
/-- A rung's mode: "a value above 1 reads as REWARM" (12.8.3). -/
def rungMode (m : Memory) (r : Fin 6) : RungMode := if m.byte (rungBase r + 1) = 0 then .direct else .rewarm
/-- A rung's attempt limit. -/
def rungLimit (m : Memory) (r : Fin 6) : Nat := clampNat (m.byte (rungBase r + 2)) 1 15
/-- A rung's hold-off in seconds. -/
def rungHoldOff (m : Memory) (r : Fin 6) : Nat := min (m.nat16 (rungBase r + 4)) 3600

/-- The ladder copy as the profile gives it (R81). -/
def ladderOf (m : Memory) : LadderCopy := { rungCount := rungCount m, limits := Vector.ofFn (rungLimit m) }

/-! ### Key map and keypad timing (R92, 12.8.3) -/

/-- A position's key map entry: bit 7 of byte 0 and bits 2 to 5 of byte 1 are disregarded (R168). -/
def keyEntry (m : Memory) (p : Fin 64) : KeyEntry :=
  let flags := m.read (0x1800 + 2 * p.val + 1)
  { code := (m.read (0x1800 + 2 * p.val)).setWidth 7
    group := flags.setWidth 2
    rep := flags.getLsbD 6
    power := flags.getLsbD 7 }

/-- Scan period in milliseconds. -/
def scanPeriod (m : Memory) : Nat := clampNat (m.byte 0x1980) 2 20
/-- Press count Np. -/
def pressCount (m : Memory) : Nat := clampNat (m.byte 0x1981) 1 15
/-- Release count Nr. -/
def releaseCount (m : Memory) : Nat := clampNat (m.byte 0x1982) 1 15
/-- Stuck time in seconds. -/
def stuckTime (m : Memory) : Nat := clampNat (m.byte 0x1983) 1 255
/-- Cold threshold. -/
def coldThreshold (m : Memory) : Int := clampInt (m.int16 0x1984) (-880) 2000
/-- Repeat delay in milliseconds. -/
def repeatDelay (m : Memory) : Nat := clampNat (m.byte 0x1986) 10 255 * 10
/-- Repeat interval in milliseconds. -/
def repeatInterval (m : Memory) : Nat := clampNat (m.byte 0x1987) 2 255 * 10
/-- Lock policy: lock while the host is not RUNNING. -/
def lockPolicy (m : Memory) : Bool := m.flag 0x1988

/-! ### Chords, power key, lights (chapter 6) -/

/-- The address of a chord entry. -/
def chordBase (c : Fin 8) : Nat := 0x1900 + 8 * c.val
/-- A chord's key set: its nonzero codes, a code above 127 read as 127 (R108). -/
def chordKeys (m : Memory) (c : Fin 8) : List Nat :=
  ([m.byte (chordBase c), m.byte (chordBase c + 1), m.byte (chordBase c + 2)].map fun v => min v 127).filter
    fun v => decide (v ≠ 0)
/-- A chord's hold time in milliseconds (R108). -/
def chordHold (m : Memory) (c : Fin 8) : Nat := clampNat (m.byte (chordBase c + 3)) 1 100 * 100
/-- A chord's action code; a value that names none of the eight is NOTICE ONLY (R108). -/
def chordAction (m : Memory) (c : Fin 8) : Nat :=
  let v := m.byte (chordBase c + 4)
  if 1 ≤ v ∧ v ≤ 8 then v else 8
/-- A chord's argument. -/
def chordArgument (m : Memory) (c : Fin 8) : Nat := m.nat16 (chordBase c + 6)
/-- Long-press time in milliseconds (R112). -/
def longPressTime (m : Memory) : Nat := clampNat (m.nat16 0x1940) 5 100 * 100
/-- Forced-hold time in milliseconds (R112). -/
def forcedHoldTime (m : Memory) : Nat := clampNat (m.nat16 0x1942) 10 300 * 100

/-- The blink modes of the palette (12.8). -/
inductive Blink where
  | steady | slow | fast
deriving DecidableEq, Repr

/-- A palette entry's level, "An entry level above 63 is read as 63" (R117). -/
def paletteLevel (m : Memory) (e : Nat) : Nat := min (m.byte (0x18C0 + 2 * e)) 63
/-- A palette entry's blink mode, "a palette blink mode above 2 reads as STEADY" (R168). -/
def paletteBlink (m : Memory) (e : Nat) : Blink :=
  match m.byte (0x18C0 + 2 * e + 1) with
  | 1 => .slow
  | 2 => .fast
  | _ => .steady
/-- A position's light map index, "with an index above 3 read as 3" (R117). -/
def lightIndex (m : Memory) (p : Fin 64) : Nat := min (m.byte (0x1880 + p.val)) 3
/-- The progress row (R118). -/
def progressRow (m : Memory) : Nat := min (m.byte 0x18C8) 7
/-- Position p is in the HELD mask (12.8: bit c of byte r is position 8r + c). -/
def inHeldMask (m : Memory) (p : Fin 64) : Bool := (m.read (0x18C9 + p.val / 8)).getLsbD (p.val % 8)
/-- The dim offset (R117). -/
def dimOffset (m : Memory) : Int := clampInt (m.read 0x0B).toInt (-63) 63

/-! ### Tick ladder and schedule entries (chapter 7) -/

/-- Base length in milliseconds (R121). -/
def tickBase (m : Memory) : Nat := clampNat (m.nat16 0x1200) 1 1000
/-- The multiplier of tick k, k from 1 to 7 (R121). -/
def tickMultiplier (m : Memory) (k : Nat) : Nat := clampNat (m.byte (0x1201 + k)) 2 255
/-- The length of tick k in milliseconds (R121). -/
def tickLength (m : Memory) : Nat → Nat
  | 0 => tickBase m
  | k + 1 => min (tickLength m k * tickMultiplier m (k + 1)) Config.top32

/-- The address of a schedule entry. -/
def entryBase (e : Fin 32) : Nat := 0x1210 + 8 * e.val
/-- An entry's tick index (R123). -/
def entryTick (m : Memory) (e : Fin 32) : Nat := min (m.byte (entryBase e)) 7
/-- An entry's period. -/
def entryPeriod (m : Memory) (e : Fin 32) : Nat := m.byte (entryBase e + 1)
/-- An entry's live countdown: 0 read as 1, above 254 as 254 (R123). -/
def entryCountdown (m : Memory) (e : Fin 32) : Nat := clampNat (m.byte (entryBase e + 2)) 1 254
/-- An entry's jitter mode (R123). -/
def entryJitter (m : Memory) (e : Fin 32) : Nat := min (m.byte (entryBase e + 3)) 3
/-- An entry's action value. -/
def entryAction (m : Memory) (e : Fin 32) : Nat := m.byte (entryBase e + 4)
/-- An entry's argument byte. -/
def entryArgument (m : Memory) (e : Fin 32) : Nat := m.byte (entryBase e + 5)
/-- An entry's boost seconds. -/
def entrySeconds (m : Memory) (e : Fin 32) : Nat := m.nat16 (entryBase e + 6)

/-- A zone byte as a boost target, 0xFF all zones (12.8.1, 12.8.2). -/
def boostTargetOf (v : Nat) : BoostTarget := if v = 255 then .all else .zone v

/-! ### Report pool settings (10.1.1) -/

/-- Age period in seconds. -/
def agePeriod (m : Memory) : Nat := clampNat (m.byte 0x19A0) 1 255
/-- Notice threshold. -/
def noticeThreshold (m : Memory) : Nat := clampNat (m.byte 0x19A1) 1 64
/-- Coalesce time in milliseconds. -/
def coalesceTime (m : Memory) : Nat := clampNat (m.byte 0x19A2) 1 255 * 10
/-- The restart flush policy is FLUSH NORMAL: any value but KEEP's 0 (12.8.3). -/
def flushesNormal (m : Memory) : Bool := decide (m.byte 0x19A3 ≠ 0)

end Sys2Proof.Machine
end

