-- ==== Sys2Proof/Machine/Sequencer.lean ====
section
/-! DEFINITION. The rail sequencer: rails, lines, the forced cut, and the four channels (R49 to R67). -/

namespace Sys2Proof.Machine

open Sys2Proof Host

/-! ### Rails, lines, and the link port's copy of the link rail -/

/-- The link rail's record as the sequencer delivers it to the link port, which re-evaluates itself (R52, R138). -/
def State.deliverLink (s : State) : State :=
  let r := linkRail s.mem
  { s with link := s.link.evaluate r s.rails[r] }

/-- A change of rail r's record is delivered to the link port when r is the link rail (R50, R52). -/
def State.deliverRail (s : State) (r : Fin 6) : State := if r = linkRail s.mem then s.deliverLink else s

/-- RAIL ON (R49): watched at once if good at that moment. -/
def State.railOn (s : State) (r : Fin 6) : State :=
  let x := s.rails[r]
  if x.commanded then s
  else { s with rails := put s.rails r { x with commanded := true, watched := x.good } }.deliverRail r

/-- RAIL OFF (R49). `flush`: by channel 0 or by a forced cut, so that the link rail's switching off is told to the report
pool (R52). -/
def State.railOff (s : State) (r : Fin 6) (flush : Bool) : State :=
  let x := s.rails[r]
  if !x.commanded then s
  else
    let s := { s with rails := put s.rails r { x with commanded := false, watched := false } }.deliverRail r
    if flush ∧ r = linkRail s.mem then s.send .restartFlush else s

/-- The four lines by number (12.8.1). -/
def Lines.get (l : Lines) : Nat → Bool
  | 0 => l.hrst
  | 1 => l.hpwr
  | 2 => l.pnl
  | _ => l.aux

/-- A line moved (R53). -/
def Lines.set (l : Lines) (n : Nat) (v : Bool) : Lines :=
  match n with
  | 0 => { l with hrst := v }
  | 1 => { l with hpwr := v }
  | 2 => { l with pnl := v }
  | _ => { l with aux := v }

/-! ### Channel endings (R65, R66) -/

/-- A channel's record as State holds it, changed. -/
def State.setChan (s : State) (c : Fin 4) (x : Channel) : State := { s with channels := put s.channels c x }

/-- The counter of a terminal state (R66). -/
def endCounter : ChanState → Counter
  | .finished => .channelsFinished
  | .faulted => .channelsFaulted
  | _ => .channelsAborted

/-- A CHANNEL report (R66, R169): NORMAL, but URGENT for a FAULTED channel whose starter is SUPERVISOR. -/
def State.reportChannel (s : State) (c : Fin 4) (x : Channel) : State :=
  s.report .channel (chanCode x.state) (decide (x.state = .faulted ∧ x.starter = some .supervisor)) c.val
    { w0 := natWord x.sequence.val, w1 := natWord (starterCode x.starter), w2 := natWord (endedCode x.endedBy)
      w3 := natWord (faultCode x.fault + x.faultStep.toNat * 256) }

/-- A channel's entry into a terminal state: recorded, counted, reported, and for channel 0, unless aborted, its outcome
handed to the supervisor (R66). -/
def State.endChannel (s : State) (c : Fin 4) (x : Channel) : State :=
  let x := { x with activity := .none }
  let s := ((s.setChan c x).count (endCounter x.state)).reportChannel c x
  if c = 0 ∧ x.state ≠ .aborted then s.send (.channel0Outcome x.startId x.fault) else s

/-- A fault (R65): code and step recorded. -/
def State.faultChannel (s : State) (c : Fin 4) (code : FaultCode) (step : Byte) : State :=
  s.endChannel c { s.channels[c] with state := .faulted, fault := some code, faultStep := step }

/-- An abort (R54, R63, R67): nothing for a channel that is not busy. -/
def State.abortChannel (s : State) (c : Fin 4) (by_ : EndedBy) : State :=
  if s.channels[c].busy then s.endChannel c { s.channels[c] with state := .aborted, endedBy := some by_ } else s

/-- Channels 1 to 3. -/
def deskChannels : List (Fin 4) := [1, 2, 3]

/-- Each busy channel among 1 to 3 whose captured mask shares a rail with `mask` is aborted, ended by SUPERVISOR (R54, R63).
That several go in ascending number is the model's choice (log 55). -/
def State.abortSharing (s : State) (mask : BitVec 6) : State :=
  deskChannels.foldl (fun s c => if sharesRail s.channels[c].mask mask then s.abortChannel c .supervisor else s) s

/-! ### Performing actions (R56) -/

/-- The operation and target checks of R56 step 1: rail 0 to 5, line 0 to 3, zone 0 to 2 or all zones. -/
def Action.inRange (a : Action) : Bool :=
  match a.operation.toNat with
  | 1 | 2 => decide (a.target.toNat < 6)
  | 3 | 4 | 5 => decide (a.target.toNat < 4)
  | 6 => true
  | 7 => decide (a.target.toNat < 3 ∨ a.target.toNat = 255)
  | _ => false

/-- The action switches a rail. -/
def Action.isRail (a : Action) : Bool := decide (a.operation.toNat = 1 ∨ a.operation.toNat = 2)

/-- The first check of R56 that fails, read at the performance's start. -/
def State.actionFault (s : State) (c : Fin 4) (a : Action) : Option FaultCode :=
  if !a.inRange then some .badStep
  else if a.isRail && !(s.channels[c].mask.getLsbD a.target.toNat) then some .outOfMask
  else if decide (a.operation.toNat = 1) && (hostMask s.mem).getLsbD a.target.toNat && s.sup.state.hostOff then
    some .railLocked
  else none

/-- The effect of a performance that passes its checks (R56). -/
def State.actionEffect (s : State) (c : Fin 4) (a : Action) : State :=
  match a.operation.toNat with
  | 1 => s.railOn (railOf a.target.toNat)
  | 2 => s.railOff (railOf a.target.toNat) (decide (c = 0))
  | 3 => { s with lines := s.lines.set a.target.toNat true }
  | 4 => { s with lines := s.lines.set a.target.toNat false }
  | 5 => { s with lines := s.lines.set a.target.toNat (!s.lines.get a.target.toNat) }
  | 6 => s.report .mark 0 false c.val
      { w0 := natWord (a.argument.toNat % 256), w1 := natWord s.channels[c].sequence.val, w2 := natWord a.index.toNat }
  | 7 => s.send (.boostRequest (boostTargetOf a.target.toNat) a.argument)
  | _ => s

/-- One performance (R56): the checks, the effect at its start, the repeat left decreased, 1 ms in RUNNING. A later
performance that faults after a bound DELAY leaves the DELAY's index as the current step (log 32). -/
def State.perform (s : State) (c : Fin 4) (a : Action) : State :=
  match s.actionFault c a with
  | some code => s.faultChannel c code a.index
  | none =>
    let s := s.actionEffect c a
    let x := s.channels[c]
    s.setChan c { x with
      state := .running, step := a.index, repeatLeft := x.repeatLeft - 1, activity := .performing a (s.inMs 1) }

/-! ### Reaching steps, runs and then-sequences (R55, R57 to R60, R64) -/

/-- A step is reached (R55): ACTION by R56, DELAY by R58, WAIT by R59, anything else is BAD STEP. -/
def State.reachStep (s : State) (c : Fin 4) (i : Byte) : State :=
  let x := s.channels[c]
  match stepAt s.mem i with
  | .action a n => (s.setChan c { x with state := .running, step := i, repeatLeft := n }).perform c a
  | .delay next len =>
    s.setChan c { x with state := .running, step := i, activity := .delay next (s.inMs len) }
  | .wait rail good next timeout =>
    if h : rail < 6 then
      let activity := if s.rails[rail].good = good then .matchedWait next (s.inMs 1)
                      else .wait ⟨rail, h⟩ good next (s.inMs timeout)
      s.setChan c { x with state := .waiting, step := i, activity := activity }
    else (s.setChan c { x with state := .waiting, step := i }).faultChannel c .badStep i
  | .invalid =>
    (if i.toNat < 128 then s.setChan c { x with step := i } else s).faultChannel c .badStep i

/-- A run begins with the first step read from the head; a first step of 0 is BAD STEP with fault step 0 (R60). A run that
reaches no step leaves the current step as it was, which is 0 at a start (log 32). -/
def State.startRun (s : State) (c : Fin 4) : State :=
  let first := headFirst s.mem s.channels[c].sequence
  if first = 0#8 then s.faultChannel c .badStep 0 else s.reachStep c first

/-- A rail mask shared with another busy channel (R62, R64). -/
def State.maskTaken (s : State) (c : Option (Fin 4)) (mask : BitVec 6) : Bool :=
  (indices 4).any fun d => decide (some d ≠ c) && s.channels[d].busy && sharesRail s.channels[d].mask mask

/-- A run ends at index 0 (R64): a new run, the then-sequence, or FINISHED. -/
def State.endRun (s : State) (c : Fin 4) : State :=
  let x := s.channels[c]
  match x.runs with
  | .untilStopped => s.startRun c
  | .left (n + 2) => (s.setChan c { x with runs := .left (n + 1) }).startRun c
  | _ =>
    match headThen s.mem x.sequence with
    | none => s.endChannel c { x with state := .finished }
    | some h =>
      if s.maskTaken (some c) (headMask s.mem h) then (s.setChan c { x with sequence := h }).faultChannel c .conflict 0
      else (s.setChan c { x with sequence := h, mask := headMask s.mem h, runs := headRuns s.mem h }).startRun c

/-- The channel proceeds to an index (R64). -/
def State.proceed (s : State) (c : Fin 4) (i : Byte) : State := if i = 0#8 then s.endRun c else s.reachStep c i

/-! ### Starting (R62, R63) and the forced cut (R54) -/

/-- A channel's record set up for a head and its first run begun (R62); no step has been reached yet (log 32). -/
def State.setUp (s : State) (c : Fin 4) (h : Fin 16) (starter : Starter) (startId : Nat) : State :=
  let s := s.setChan c { s.channels[c] with
    state := .running, sequence := h, mask := headMask s.mem h, step := 0, repeatLeft := 0, runs := headRuns s.mem h
    starter := some starter, endedBy := none, fault := none, faultStep := 0, activity := .none, startId := startId }
  (s.count .channelsStarted).startRun c

/-- The lowest-numbered free channel among 1 to 3 (R62). -/
def State.freeChannel (s : State) : Option (Fin 4) := deskChannels.find? fun c => !s.channels[c].busy

/-- A start on channels 1 to 3 (R62): a refusal, or the channel taken. -/
def State.startSequence (s : State) (h : Fin 16) (starter : Starter) : State × Except AnswerCode (Fin 4) :=
  match s.freeChannel with
  | none => (s, .error .noChannel)
  | some c =>
    if s.maskTaken none (headMask s.mem h) then (s, .error .conflict)
    else (s.setUp c h starter 0, .ok c)

/-- A supervisor start (R63): channel 0 and the channels in its way aborted, channel 0 set up. The start is numbered, so
that its outcome can name it (R66). -/
def State.supervisorStart (s : State) (h : Fin 16) (offOrRewarm : Bool) : State :=
  let s := s.abortChannel 0 .supervisor
  let s := s.abortSharing (headMask s.mem h)
  let s := if offOrRewarm then s.abortSharing (hostMask s.mem) else s
  let id := s.sup.starts + 1
  let s := { s with sup := { s.sup with starts := id, awaiting := some id } }
  s.setUp 0 h .supervisor id

/-- Every rail of a mask commanded OFF and not watched, as by a forced cut (R54 step 3). -/
def State.cutRails (s : State) (mask : BitVec 6) : State :=
  (indices 6).foldl (fun s r =>
    if mask.getLsbD r.val then
      let s := s.railOff r true
      { s with rails := put s.rails r { s.rails[r] with watched := false } }
    else s) s

/-- The forced cut (R54), with the host rail mask read at the cut. -/
def State.forcedCut (s : State) : State :=
  let mask := hostMask s.mem
  let s := s.abortChannel 0 .supervisor
  let s := s.abortSharing mask
  let s := s.cutRails mask
  { s with lines := { s.lines with hrst := true, pnl := false } }

/-! ### The sequencer's commands -/

/-- ACTION_PERFORMANCE_END (R57): the step named by the ACTION's next index is read; a DELAY is bound. -/
def execActionPerformanceEnd (ch : Fin 4) (s : State) : Outcome State Fault Refusal :=
  match s.channels[ch].activity with
  | .performing a due =>
    let s := s.reachTime due
    let x := s.channels[ch]
    match (if a.next = 0#8 then Step.invalid else stepAt s.mem a.next) with
    | .delay next len =>
      .next (s.setChan ch { x with step := a.next, activity := .boundDelay a next (s.inMs len) })
    | _ => if 0 < x.repeatLeft then .next (s.perform ch a) else .next (s.proceed ch a.next)
  | _ => .next s

/-- DELAY_END (R57, R58). -/
def execDelayEnd (ch : Fin 4) (s : State) : Outcome State Fault Refusal :=
  match s.channels[ch].activity with
  | .delay next due => .next ((s.reachTime due).proceed ch next)
  | .boundDelay a next due =>
    let s := s.reachTime due
    if 0 < s.channels[ch].repeatLeft then .next (s.perform ch a) else .next (s.proceed ch next)
  | _ => .next s

/-- WAIT_MATCHED_COMPLETE (R59): the step completes 1 ms after it was reached. -/
def execWaitMatchedComplete (ch : Fin 4) (s : State) : Outcome State Fault Refusal :=
  match s.channels[ch].activity with
  | .matchedWait next due => .next ((s.reachTime due).proceed ch next)
  | _ => .next s

/-- WAIT_TIMEOUT (R59): the channel faults with the WAIT's index as the fault step. -/
def execWaitTimeout (ch : Fin 4) (s : State) : Outcome State Fault Refusal :=
  match s.channels[ch].activity with
  | .wait _ _ _ due =>
    let s := s.reachTime due
    .next (s.faultChannel ch .waitTimeout s.channels[ch].step)
  | _ => .next s

/-- START_SEQUENCE (R62, R149), with the desk's check (R146): data word 0 is the channel. -/
def execStartSequence (slot : Fin 8) (head : Word) (s : State) : Outcome State Fault Refusal :=
  let s := s.taking (.startSequence slot head)
  if h : head.toNat < 16 then
    let r := s.startSequence ⟨head.toNat, h⟩ .desk
    match r.2 with
    | .ok c => .next (r.1.answer slot .done { w0 := BitVec.ofNat 16 c.val })
    | .error code => .next (r.1.answer slot code)
  else .next (s.answer slot .badArgument)

/-- STOP_CHANNEL (R67, R149): data word 0 is the state the stop left. The desk refuses channel 0 with WRONG_STATE. -/
def execStopChannel (slot : Fin 8) (channel : Word) (s : State) : Outcome State Fault Refusal :=
  let s := s.taking (.stopChannel slot channel)
  if h : channel.toNat < 4 then
    if channel = 0#16 then .next (s.answer slot .wrongState)
    else
      let c : Fin 4 := ⟨channel.toNat, h⟩
      let s := s.abortChannel c .desk
      .next (s.answer slot .done { w0 := BitVec.ofNat 16 (chanCode s.channels[c].state) })
  else .next (s.answer slot .badArgument)

end Sys2Proof.Machine
end

