-- ==== Sys2Proof/Machine/Supervisor.lean ====
section
/-! DEFINITION. The host supervisor: states, boot, heartbeat, causes, the ladder, shutdown and history (R68 to R90). -/

namespace Sys2Proof.Machine

open Sys2Proof Host

/-! ### State, publication and timers -/

/-- The supervisor as State holds it, changed. -/
def State.setSup (s : State) (u : Sup) : State := { s with sup := u }

/-- The forced-off timer stopped by a publication (R115). If the timer is due at that moment, "a state publication and the
expiry may fall together, and either may be taken first": the expiry of this moment stays open, with the supervisor word
published before (log 51). -/
def ChordUnit.stopForcedOff (c : ChordUnit) (now : Nat) : ChordUnit :=
  match c.forcedOffTimer with
  | none => c
  | some due =>
    { c with
      forcedOffTimer := none
      openExpiry := if due ≤ now then some { moment := now, word := supWordOf c.published c.publishedSub } else none }

/-- A publication taken by the chord and light unit: a state other than BOOTING and RUNNING stops the forced-off timer
(R115); at WARMING the progress copy is set to 0 and a re-arm awaited (R118). -/
def ChordUnit.takePublication (c : ChordUnit) (now : Nat) (st : SupState) (sub : SupSub) : ChordUnit :=
  let c := if st = .booting ∨ st = .running then c else c.stopForcedOff now
  let c := { c with published := st, publishedSub := sub }
  if st = .warming then { c with progress := 0, rearmAwaited := true } else c

/-- The progress row's lit count (R118). -/
def litCount (progress : Nat) : Nat := progress * 8 / 1000

/-- What the chord and light status entry shows when it is rewritten now (R120). -/
def State.chordEntry (s : State) : ChordShown :=
  let c := s.chords
  { armed := Vector.ofFn fun i => c.chords[i].armed
    matching := Vector.ofFn fun i => c.chords[i].matchStart.isSome
    press := c.press
    elapsedAtScan := c.elapsedAtScan
    forcedOffRemaining := s.msLeft c.forcedOffTimer
    progress := c.progress
    litCount := litCount c.progress
    override := if c.published = .warming ∨ c.published = .held then some c.published else none
    testRemaining := s.msLeft c.testEnds }

/-- The chord and light status entry rewritten (R120). -/
def State.publishChords (s : State) : State := { s with shown := { s.shown with chords := s.chordEntry } }

/-- A change of the supervisor state (R69): what ends with the old state ends, no outcome is awaited any longer (R66),
and the change is published to the keypad scanner and to the chord and light unit, which take it in this same step; an
expiry of the forced-off timer that falls together with it may still have been the first of the two (R115, log 51). -/
def State.enter (s : State) (st : SupState) (sub : SupSub) : State :=
  let u := s.sup
  let u := { u with
    state := st
    sub := sub
    awaiting := none
    restart := if u.state = .restarting ∧ st ≠ .restarting then none else u.restart
    target := if u.state = .shutting ∧ st ≠ .shutting then none else u.target
    stageTimer := if u.state = .booting ∧ st ≠ .booting then none else u.stageTimer
    settleTimer := if u.state = .running ∧ st ≠ .running then none else u.settleTimer }
  let s := s.setSup u
  let s := { s with
    keypad := { s.keypad with published := st }
    chords := s.chords.takePublication s.clock st sub }
  s.publishChords

/-- A timer started for a number of milliseconds. -/
def State.timer (s : State) (msec : Nat) : Option Nat := some (s.inMs msec)

/-- Seconds in milliseconds. -/
def secs (n : Nat) : Nat := n * 1000

/-- Minutes in milliseconds. -/
def mins (n : Nat) : Nat := n * 60000

/-! ### Start orders (R70, R71) -/

/-- A start order taken (R70): the wake and held-retry timers stopped, the gate re-armed, WARMING with the gate-wait
mark set. -/
def State.startOrder (s : State) : State :=
  let s := s.setSup { s.sup with wakeTimer := none, heldRetryTimer := none }
  let s := (s.send .gateRearm).enter .warming .none
  s.setSup { s.sup with gateWait := true }

/-- POWER ON (R70): refused with WRONG_STATE in any state other than OFF. -/
def State.powerOn (s : State) : State × Option AnswerCode :=
  if s.sup.state = .off then (s.startOrder, none) else (s, some .wrongState)

/-- The ladder copy refreshed from the profile, and the ladder position brought within it (R81). -/
def Sup.refreshLadder (u : Sup) (m : Memory) : Sup :=
  let l := ladderOf m
  let rung : Fin 6 := if u.rung.val < l.rungCount then u.rung else ⟨min (l.rungCount - 1) 5, by omega⟩
  { u with ladder := l, rung := rung, attempts := min u.attempts l.limits[rung] }

/-- The ladder position set to rung 0 with 0 attempts, on a fresh copy (R79, R89). -/
def Sup.resetLadder (u : Sup) (m : Memory) : Sup := { u.refreshLadder m with rung := 0, attempts := 0 }

/-- A release of the hold (R89): refused with WRONG_STATE in any state other than HELD. -/
def State.releaseHold (s : State) : State × Option AnswerCode :=
  if s.sup.state = .held then ((s.setSup (s.sup.resetLadder s.mem)).startOrder, none) else (s, some .wrongState)

/-- Entry into POWERING on a report of OPEN (R71), in the rule's order. -/
def State.powerUp (s : State) : State :=
  let s := s.setSup { s.sup with reservation := true }
  let s := s.enter .powering .none
  let s := s.supervisorStart (powerUpHead s.mem) false
  s.setSup { s.sup with stageReached := none }

/-- GATE_REPORT (R71): only in WARMING; with the gate-wait mark set only the report of a re-arm pass counts. -/
def execGateReport (gate : GateState) (rearm : Bool) (s : State) : Outcome State Fault Refusal :=
  let s := s.taking (.gateReport gate rearm)
  if s.sup.state ≠ .warming then .next s
  else if s.sup.gateWait && !rearm then .next s
  else
    let s := s.setSup { s.sup with gateWait := false }
    .next (if gate = .opened then s.powerUp else s)

/-! ### Boot (R74, R75) and heartbeat (R76, R77, R79) -/

/-- Entry into BOOTING at stage 0 (R74). -/
def State.enterBooting (s : State) : State :=
  let s := s.enter .booting .none
  s.setSup { s.sup with
    bootStage := 0, stageReached := some 0, checkpointCopy := none, stageTimer := s.timer (bootEntry s.mem 0) }

/-- The heartbeat timer started for the timeout read now; with a timeout of 0 no timer runs (R77). -/
def State.startHeartbeat (s : State) : State :=
  let t := heartbeatTimeout s.mem
  s.setSup { s.sup with heartbeatTimer := if t = 0 then none else s.timer (secs t) }

/-- Entry into WATCHING (R77). -/
def State.enterWatching (s : State) : State := (s.enter .running .watching).startHeartbeat

/-- Entry into RUNNING (R75, R69, R77, R79). -/
def State.enterRunning (s : State) : State :=
  let s := s.enterWatching
  s.setSup { s.sup with lastKick := s.uptime, settleTimer := s.timer (mins (settleTime s.mem)) }

/-- A checkpoint word delivered (R75). -/
def State.takeCheckpoint (s : State) (v : Byte) : State :=
  if s.sup.checkpointCopy = some v then s
  else
    let s := s.setSup { s.sup with checkpointCopy := some v }
    if s.sup.state ≠ .booting then s
    else if s.sup.bootStage < v.toNat ∧ v.toNat ≤ 15 then
      let s := s.setSup { s.sup with
        bootStage := v.toNat, stageReached := some v.toNat, stageTimer := s.timer (bootEntry s.mem v.toNat) }
      if v.toNat = 15 then s.enterRunning else s
    else s.count .checkpointsIgnored

/-- A heartbeat word delivered (R76, R77). -/
def State.takeHeartbeat (s : State) (v : DWord) : State :=
  if s.sup.heartbeatCopy = v then s
  else
    let s := s.setSup { s.sup with heartbeatCopy := v, lastKick := s.uptime }
    match s.sup.state with
    | .running =>
      let s := s.count .kicks
      match s.sup.sub with
      | .late => ((s.setSup { s.sup with graceTimer := none }).count .lateRecovered).enterWatching
      | .paused => s
      | _ => s.startHeartbeat
    | .restarting | .shutting => s.count .lateKicks
    | _ => s

/-- CHECKPOINT (R75, R137): a delivery that touched the checkpoint word; a heartbeat word touched by the same write is
taken second, in the same event. -/
def execCheckpoint (value : Byte) (heartbeat : Option DWord) (s : State) : Outcome State Fault Refusal :=
  let s := (s.taking (.checkpoint value heartbeat)).takeCheckpoint value
  match heartbeat with
  | some v => .next (s.takeHeartbeat v)
  | none => .next s

/-- HEARTBEAT_KICK (R76): a delivery that touched the heartbeat word alone. -/
def execHeartbeatKick (value : DWord) (s : State) : Outcome State Fault Refusal :=
  .next ((s.taking (.heartbeatKick value)).takeHeartbeat value)

/-! ### Restarting and shutting down (R83, R87) -/

/-- Entry into substate SEQUENCE (R83): the rung's head and mode read, the mode kept, the head started on channel 0. -/
def State.enterSequence (s : State) (r : Restart) : State :=
  let mode := rungMode s.mem r.rung
  let s := s.enter .restarting .sequence
  let s := s.setSup { s.sup with restart := some { r with mode := some mode } }
  s.supervisorStart (rungHead s.mem r.rung) (decide (mode = .rewarm))

/-- The timers that entry into RESTARTING stops (R83). -/
def Sup.stopWatch (u : Sup) : Sup :=
  { u with stageTimer := none, heartbeatTimer := none, graceTimer := none, pauseTimer := none, settleTimer := none }

/-- Entry into RESTARTING with a rung chosen (R83). -/
def State.enterRestarting (s : State) (rung : Fin 6) (origin : Origin) : State :=
  let r : Restart := { rung := rung, mode := none, origin := origin }
  let s := s.setSup s.sup.stopWatch
  let s := s.enter .restarting .holdOff
  let s := s.setSup { s.sup with restart := some r }
  let s := s.abortChannel 0 .supervisor
  let h := rungHoldOff s.mem rung
  if 0 < h then s.setSup { s.sup with holdOffTimer := s.timer (secs h) } else s.enterSequence r

/-- The off-sequence started on channel 0, its head read now (R87). -/
def State.startOff (s : State) : State := s.supervisorStart (offHead s.mem) true

/-- Entry into SHUTTING (R87). -/
def State.enterShutting (s : State) (target : ShutTarget) (halt : Nat) (wakeAfter : Option Nat) : State :=
  let s := s.setSup { s.sup.stopWatch with holdOffTimer := none }
  let s := s.enter .shutting .none
  let s := s.setSup { s.sup with target := some target, wakeAfter := wakeAfter }
  let s := s.abortChannel 0 .supervisor
  if 0 < halt then s.setSup { s.sup with haltTimer := s.timer (secs halt) } else s.startOff

/-- A forced shutdown order (R87). -/
def State.forcedShutdown (s : State) : State :=
  match s.sup.state with
  | .off | .held => s
  | .shutting =>
    let halting := s.sup.haltTimer.isSome
    let s := s.setSup { s.sup with target := some .off, wakeAfter := none, haltTimer := none }
    if halting then s.startOff else s
  | _ => s.enterShutting .off 0 none

/-- Entry into OFF from SHUTTING (R88). -/
def State.enterOff (s : State) : State :=
  let wake := s.sup.wakeAfter
  let s := s.enter .off .none
  s.setSup { s.sup with
    wakeAfter := none
    wakeTimer := match wake with
      | some n => if 0 < n then s.timer (mins n) else none
      | none => none }

/-- Entry into HELD (R89): counted, reported with its reason, and the held-retry timer started unless it is 0. -/
def State.enterHeld (s : State) (byLadder : Bool) : State :=
  let s := (s.enter .held .none).count .holdsEntered
  let n := heldRetry s.mem
  let s := s.report .held (if byLadder then 1 else 2) true 0 { w0 := natWord n }
  s.setSup { s.sup with heldRetryTimer := if n = 0 then none else s.timer (mins n) }

/-! ### Causes, ladder and history (R80 to R82, R85, R90) -/

/-- What a ladder decision chose (R82): the rung, or none when the ladder is exhausted, and the attempt. -/
structure Decision where
  rung : Option (Fin 6)
  attempt : Nat
deriving DecidableEq, Repr

/-- The ladder decision on the refreshed copy (R81, R82): the new position and what was chosen. -/
def Sup.decide (u : Sup) : Sup × Decision :=
  let limit := u.ladder.limits[u.rung]
  if u.attempts + 1 ≤ limit then ({ u with attempts := u.attempts + 1 }, { rung := some u.rung, attempt := u.attempts + 1 })
  else if h : u.rung.val + 1 < u.ladder.rungCount ∧ u.rung.val + 1 < 6 then
    let r : Fin 6 := ⟨u.rung.val + 1, h.2⟩
    ({ u with rung := r, attempts := 1 }, { rung := some r, attempt := 1 })
  else ({ u with attempts := limit }, { rung := none, attempt := limit })

/-- A history entry added, the oldest removed beyond eight (R90). -/
def addHistory (h : List HistoryEntry) (e : HistoryEntry) : List HistoryEntry :=
  if h.length < 8 then h ++ [e] else h.drop (h.length - 7) ++ [e]

/-- The last steps of a cause taken (R80 steps 4 and 5): the history entry and the RESTART report. `before` is the
supervisor in which the cause was taken. -/
def State.recordCause (s : State) (before : Sup) (cause : Cause) (d : Decision) (detail : Nat) : State :=
  let e : HistoryEntry :=
    { serial := s.sup.serial, cause := cause, rung := d.rung, attempt := d.attempt, stageReached := before.stageReached
      stateAt := before.state, subAt := before.sub, stamp := s.uptime
      s0 := s.sensors[(0 : Fin 9)].word, s2 := s.sensors[(2 : Fin 9)].word }
  let s := s.setSup { s.sup with history := addHistory s.sup.history e }
  s.report .restart (causeCode cause) true 0
    { w0 := natWord s.sup.serial, w1 := natWord (match d.rung with | some r => r.val | none => 255)
      w2 := natWord d.attempt, w3 := natWord detail }

/-- The serial increased and the cause counted (R80 steps 1 and 2). -/
def State.beginCause (s : State) (cause : Cause) : State :=
  (s.setSup { s.sup with serial := satSucc s.sup.serial Config.top32 }).count (.cause cause)

/-- A ladder cause taken (R80, R82): `detail` is the boot stage of a BOOT STALL or the rail of a RAIL DROP. -/
def State.ladderCause (s : State) (cause : Cause) (detail : Nat) : State :=
  let before := s.sup
  let s := s.beginCause cause
  let r := (s.sup.refreshLadder s.mem).decide
  let s := s.setSup r.1
  let s := match r.2.rung with
    | some rung => s.enterRestarting rung .ladder
    | none => s.enterShutting .heldByLadder 0 none
  s.recordCause before cause r.2 detail

/-- The refusal of a requested restart (R85): BAD_ARGUMENT, then WRONG_STATE. -/
def Sup.restartRefusal (u : Sup) (rung : Nat) : Option AnswerCode :=
  if u.ladder.rungCount ≤ rung ∨ 6 ≤ rung then some .badArgument
  else if u.state ≠ .booting ∧ u.state ≠ .running then some .wrongState
  else none

/-- A requested restart accepted and its cause taken (R85, R80): the ladder position does not change, the attempt is 0. -/
def State.requestedRestart (s : State) (rung : Fin 6) (cause : Cause) (origin : Origin) : State :=
  let before := s.sup
  let s := s.beginCause cause
  let s := s.enterRestarting rung origin
  s.recordCause before cause { rung := some rung, attempt := 0 } 0

/-- A RAIL DROP cause from the sequencer: taken in POWERING, BOOTING and RUNNING, else disregarded (R80). -/
def State.railDropCause (s : State) (r : Fin 6) : State :=
  match s.sup.state with
  | .powering | .booting | .running => s.ladderCause .railDrop r.val
  | _ => s

/-! ### The supervisor's commands -/

/-- RESTART_HOST (R85, R148): accepted, it is answered DONE with the rung at once, and the cause REQUEST is taken. -/
def execRestartHost (slot : Fin 8) (rung : Word) (s : State) : Outcome State Fault Refusal :=
  let s := s.taking (.restartHost slot rung)
  match s.sup.restartRefusal rung.toNat with
  | some code => .next (s.answer slot code)
  | none =>
    let s := s.answer slot .done { w0 := rung }
    .next (s.requestedRestart ⟨min rung.toNat 5, by omega⟩ .request .request)

/-- SHUT_DOWN_HOST (R86, R148): halt delay in seconds, target 0 OFF or 1 HELD, wake-after in minutes. -/
def execShutDownHost (slot : Fin 8) (halt target wake : Word) (s : State) : Outcome State Fault Refusal :=
  let s := s.taking (.shutDownHost slot halt target wake)
  if 600 < halt.toNat ∨ 1 < target.toNat ∨ 10080 < wake.toNat then .next (s.answer slot .badArgument)
  else if s.sup.state ≠ .booting ∧ s.sup.state ≠ .running then .next (s.answer slot .wrongState)
  else
    let s := s.answer slot .done
    if target = 0#16 then .next (s.enterShutting .off halt.toNat (some wake.toNat))
    else .next (s.enterShutting .heldByRequest halt.toNat none)

/-- PAUSE_HEARTBEAT (R78, R148). -/
def execPauseHeartbeat (slot : Fin 8) (seconds : Word) (s : State) : Outcome State Fault Refusal :=
  let s := s.taking (.pauseHeartbeat slot seconds)
  let n := seconds.toNat
  if 3600 < n then .next (s.answer slot .badArgument)
  else if s.sup.state ≠ .running then .next (s.answer slot .wrongState)
  else
    let s := s.answer slot .done
    if 0 < n then
      let s := s.setSup { s.sup with heartbeatTimer := none, graceTimer := none, pauseTimer := s.timer (secs n) }
      .next (if s.sup.sub = .paused then s else s.enter .running .paused)
    else if s.sup.sub = .paused then .next ((s.setSup { s.sup with pauseTimer := none }).enterWatching)
    else .next s

/-- HEARTBEAT_TIMER_EXPIRY (R77): LATE entered, counted and reported, the mark set; a grace of 0 ends at once. -/
def execHeartbeatTimerExpiry (s : State) : Outcome State Fault Refusal :=
  match s.sup.heartbeatTimer with
  | none => .next s
  | some due =>
    let s := s.reachTime due
    let s := (s.setSup { s.sup with heartbeatTimer := none }).enter .running .late
    let s := s.count .heartbeatLate
    let s := s.report .heartbeatLate 0 true 0 { w0 := s.sup.heartbeatCopy, w1 := s.uptime - s.sup.lastKick }
    let s := s.mark .heartbeat
    let g := graceTime s.mem
    if g = 0 then .next (s.ladderCause .heartbeat 0)
    else .next (s.setSup { s.sup with graceTimer := s.timer (secs g) })

/-- GRACE_EXPIRY (R77): a HEARTBEAT cause. -/
def execGraceExpiry (s : State) : Outcome State Fault Refusal :=
  match s.sup.graceTimer with
  | none => .next s
  | some due =>
    let s := s.reachTime due
    .next ((s.setSup { s.sup with graceTimer := none }).ladderCause .heartbeat 0)

/-- PAUSE_TIMER_EXPIRY (R78): back to WATCHING with a fresh heartbeat timer. -/
def execPauseTimerExpiry (s : State) : Outcome State Fault Refusal :=
  match s.sup.pauseTimer with
  | none => .next s
  | some due =>
    let s := s.reachTime due
    .next ((s.setSup { s.sup with pauseTimer := none }).enterWatching)

/-- SETTLE_EXPIRY (R79): the ladder copy refreshed, the position at rung 0 with 0 attempts. -/
def execSettleExpiry (s : State) : Outcome State Fault Refusal :=
  match s.sup.settleTimer with
  | none => .next s
  | some due =>
    let s := s.reachTime due
    .next (s.setSup { s.sup.resetLadder s.mem with settleTimer := none })

/-- STAGE_DEADLINE_EXPIRY (R74): a BOOT STALL cause carrying the boot stage. -/
def execStageDeadlineExpiry (s : State) : Outcome State Fault Refusal :=
  match s.sup.stageTimer with
  | none => .next s
  | some due =>
    let s := s.reachTime due
    let s := s.setSup { s.sup with stageTimer := none }
    .next (s.ladderCause .bootStall s.sup.bootStage)

/-- HOLD_OFF_EXPIRY (R83): substate SEQUENCE entered. -/
def execHoldOffExpiry (s : State) : Outcome State Fault Refusal :=
  match s.sup.holdOffTimer, s.sup.restart with
  | some due, some r =>
    let s := s.reachTime due
    .next ((s.setSup { s.sup with holdOffTimer := none }).enterSequence r)
  | _, _ => .next s

/-- HALT_DELAY_EXPIRY (R87): the off-sequence started. -/
def execHaltDelayExpiry (s : State) : Outcome State Fault Refusal :=
  match s.sup.haltTimer with
  | none => .next s
  | some due =>
    let s := s.reachTime due
    .next ((s.setSup { s.sup with haltTimer := none }).startOff)

/-- WAKE_TIMER_EXPIRY (R88): a start order, taken in OFF (R70). -/
def execWakeTimerExpiry (s : State) : Outcome State Fault Refusal :=
  match s.sup.wakeTimer with
  | none => .next s
  | some due =>
    let s := s.reachTime due
    let s := s.setSup { s.sup with wakeTimer := none }
    .next (if s.sup.state = .off then s.startOrder else s)

/-- HELD_RETRY_EXPIRY (R89): taken in HELD (R70), the ladder refreshed and reset, and a start order. -/
def execHeldRetryExpiry (s : State) : Outcome State Fault Refusal :=
  match s.sup.heldRetryTimer with
  | none => .next s
  | some due =>
    let s := s.reachTime due
    let s := s.setSup { s.sup with heldRetryTimer := none }
    .next s.releaseHold.1

/-- The host rails cut and the reservation released (R72). -/
def State.cutAndRelease (s : State) : State :=
  let s := s.forcedCut
  s.setSup { s.sup with reservation := false }

/-- The end of a REWARM rung (R84): the cut, the reservation released, and a start order of its own kind. -/
def State.rewarm (s : State) : State := s.cutAndRelease.startOrder

/-- The end of the off-sequence (R87): the cut, the reservation released, and the target entered. -/
def State.shutDone (s : State) : State :=
  let target := s.sup.target
  let s := s.cutAndRelease
  match target with
  | some .heldByLadder => s.enterHeld true
  | some .heldByRequest => s.enterHeld false
  | _ => s.enterOff

/-- CHANNEL0_OUTCOME (R66, R73, R84, R87): acted on when the start it names is the most recent one and the supervisor has
not changed its state or substate since; any other outcome is disregarded. -/
def execChannel0Outcome (start : Nat) (fault : Option FaultCode) (s : State) : Outcome State Fault Refusal :=
  let s := s.taking (.channel0Outcome start fault)
  if s.sup.awaiting ≠ some start then .next s
  else
    let s := s.setSup { s.sup with awaiting := none }
    match s.sup.state with
    | .powering => .next (if fault.isNone then s.enterBooting else s.ladderCause .powerFault 0)
    | .restarting =>
      match s.sup.restart.bind Restart.mode with
      | some .rewarm => .next s.rewarm
      | _ => .next (if fault.isNone then s.enterBooting else s.ladderCause .powerFault 0)
    | .shutting => .next s.shutDone
    | _ => .next s

/-- An edit of the host rail mask as the supervisor takes it: a change of the mask while OFF, WARMING or HELD orders a
forced cut under the new mask (R72). -/
def State.hostMaskEdited (s : State) (before after : Byte) : State :=
  if before.setWidth 6 ≠ after.setWidth 6 ∧ s.sup.state.hostOff then s.forcedCut else s

/-- HOST_RAIL_MASK_EDIT (R72). -/
def execHostRailMaskEdit (before after : Byte) (s : State) : Outcome State Fault Refusal :=
  .next ((s.taking (.hostRailMaskEdit before after)).hostMaskEdited before after)

end Sys2Proof.Machine
end

