-- ==== Sys2Proof/Machine/Keypad.lean ====
section
/-! DEFINITION. The keypad scanner: ghost test, debounce, key machines, stuck keys, repeats, lock and the work of a scan up
to the hand-off of the held set (R91 to R106). -/

namespace Sys2Proof.Machine

open Sys2Proof Host

/-! ### The reading -/

/-- Position 8r + c reads closed (5.1). -/
def closedAt (reading : BitVec 64) (r c : Nat) : Bool := reading.getLsbD (8 * r + c)

/-- The position completes a rectangle in the reading (R95). -/
def completesRectangle (reading : BitVec 64) (p : Fin 64) : Bool :=
  let r := p.val / 8
  let c := p.val % 8
  (List.range 8).any fun r' => decide (r' ≠ r) && closedAt reading r' c &&
    (List.range 8).any fun c' => decide (c' ≠ c) && closedAt reading r c' && closedAt reading r' c'

/-! ### The machine of one position -/

/-- The kinds of KEY report, as subkinds (R103, 10.4). -/
inductive KeyKind where
  | down | up | rep | stuck | freed
deriving DecidableEq, Repr

/-- Subkinds number from 1 in the order of 10.4. -/
def keyKindCode : KeyKind → Nat
  | .down => 1 | .up => 2 | .rep => 3 | .stuck => 4 | .freed => 5

/-- What one position's machine reads at a scan: the scan's uptime, the settings as they stand, the mode and the lock. -/
structure ScanInput where
  now : DWord
  mem : Memory
  cold : Bool
  locked : Bool
deriving DecidableEq, Repr

/-- What one position's machine did at a scan: its record, the counter it counts, and its report with the press's entry. -/
structure KeyStep where
  key : Key
  counted : Option Counter := none
  report : Option (KeyKind × KeyEntry) := none
deriving DecidableEq, Repr

/-- The entry of the press, "code 0" while there is none. -/
def Key.entry (k : Key) : KeyEntry := k.latched.getD { code := 0, group := 0, rep := false, power := false }

/-- The latched code is not 0: a used key (R92). -/
def Key.used (k : Key) : Bool := decide (k.entry.code ≠ 0#7)

/-- In DOWN or RELEASING: held (R103, R106). -/
def Key.held (k : Key) : Bool := decide (k.state = .down ∨ k.state = .releasing)

/-- A report of this press: none for an unused or an unreported key (R92, R105). -/
def Key.reports (k : Key) (kind : KeyKind) : Option (KeyKind × KeyEntry) :=
  if k.used && !k.unreported then some (kind, k.entry) else none

/-- A run's target, doubled in cold mode (R93). -/
def ScanInput.target (i : ScanInput) (count : Nat) : Nat := if i.cold then 2 * count else count

/-- One more scan of a run: a run that begins has length 1 and its target fixed now (R93). -/
def Key.grow (k : Key) (target : Nat) : Key :=
  if k.run = 0 then { k with run := 1, target := target } else { k with run := k.run + 1 }

/-- The run is discarded. -/
def Key.noRun (k : Key) : Key := { k with run := 0, target := 0 }

/-- The run in progress has reached its target. -/
def Key.ran (k : Key) : Bool := decide (k.target ≤ k.run)

/-- A time's elapsed time from the key's down time, "modulo the wrap of the count" (R98, R102). -/
def Key.elapsed (k : Key) (t : DWord) : Nat := (t - k.downTime.getD t).toNat

/-- Entry into DOWN (R96). -/
def Key.enterDown (k : Key) (i : ScanInput) (p : Fin 64) : KeyStep :=
  let e := keyEntry i.mem p
  let k := { k.noRun with
    state := .down
    latched := some e
    downTime := some i.now
    nextRepeat := if e.rep then some (i.now + natWord (repeatDelay i.mem)) else none
    unreported := i.locked }
  { key := k, counted := if k.used then some .keyDowns else none, report := k.reports .down }

/-- A press run grown by one scan: DOWN is entered when it reaches its target (R95, R100). -/
def Key.press (k : Key) (i : ScanInput) (p : Fin 64) : KeyStep :=
  let k := { k.grow (i.target (pressCount i.mem)) with state := .pressing }
  if k.ran then k.enterDown i p else { key := k }

/-- Entry into UP clears the record (R97); `kind` is the report of the ending, if it has one. -/
def Key.enterUp (k : Key) (kind : Option KeyKind) : KeyStep := { key := {}, report := kind.bind k.reports }

/-- A release run grown by one scan: UP is entered when it reaches its target (R97, R99, R100). -/
def Key.release (k : Key) (i : ScanInput) (kind : Option KeyKind) : KeyStep :=
  let k := k.grow (i.target (releaseCount i.mem))
  if k.ran then k.enterUp kind else { key := k }

/-- The repeat check of a key in DOWN (R102). -/
def Key.checkRepeat (k : Key) (i : ScanInput) : KeyStep :=
  match k.nextRepeat with
  | none => { key := k }
  | some due =>
    if k.elapsed due ≤ k.elapsed i.now then
      let next := due + natWord (repeatInterval i.mem)
      let next := if k.elapsed i.now < k.elapsed next then next else i.now + natWord (repeatInterval i.mem)
      { key := { k with nextRepeat := some next }, report := if i.locked then none else k.reports .rep }
    else { key := k }

/-- The stuck check of a key in DOWN, and then, if it is still DOWN, its repeat check (R98). -/
def Key.checkStuck (k : Key) (i : ScanInput) : KeyStep :=
  if stuckTime i.mem * 1000 ≤ k.elapsed i.now then
    { key := { k.noRun with state := .stuck, nextRepeat := none }, counted := some .stuck, report := k.reports .stuck }
  else k.checkRepeat i

/-- A position's machine at a scan (R95 to R100). -/
def Key.scan (k : Key) (i : ScanInput) (p : Fin 64) (closed ghost : Bool) : KeyStep :=
  match k.state with
  | .up =>
    if !closed then { key := k }
    else if ghost then { key := { k.noRun with state := .blocked }, counted := some .ghostBlocks }
    else k.noRun.press i p
  | .pressing => if closed then k.press i p else k.enterUp none
  | .down =>
    if closed then k.checkStuck i
    else { k.noRun with state := .releasing }.release i (some .up)
  | .releasing =>
    if closed then { k.noRun with state := .down }.checkStuck i
    else k.release i (some .up)
  | .stuck => if closed then { key := k.noRun } else k.release i (some .freed)
  | .blocked =>
    if !closed then k.release i none
    else if ghost then { key := k.noRun }
    else k.noRun.press i p

/-! ### The scan -/

/-- The keypad is locked (R104). -/
def State.keypadLocked (s : State) : Bool :=
  s.keypad.deskLock || (lockPolicy s.mem && decide (s.keypad.published ≠ .running))

/-- What the scan's machines read. -/
def State.scanInput (s : State) : ScanInput :=
  { now := s.uptime, mem := s.mem, cold := s.keypad.coldMode, locked := s.keypadLocked }

/-- Every machine advanced on the scan's reading (R91). -/
def State.advanceKeys (s : State) (reading : BitVec 64) : Vector KeyStep 64 :=
  let i := s.scanInput
  Vector.ofFn fun p => s.keypad.keys[p].scan i p (reading.getLsbD p.val) (completesRectangle reading p)

/-- The positions in a state, as a set (R168). -/
def positionsIn (keys : Vector Key 64) (st : KeyState) : BitVec 64 :=
  (indices 64).foldl (fun acc p => if keys[p].state = st then acc ||| (1#64 <<< p.val) else acc) 0#64

/-- How many positions are in STUCK (R101). -/
def countStuck (keys : Vector Key 64) : Nat := (indices 64).countP fun p => decide (keys[p].state = .stuck)

/-- The held count: used keys in DOWN or RELEASING (R103). -/
def heldCount (keys : Vector Key 64) : Nat := (indices 64).countP fun p => keys[p].held && keys[p].used

/-- The held set: each used key in DOWN or RELEASING with its position and latched entry (R106). -/
def heldSet (keys : Vector Key 64) : List (Fin 64 × KeyEntry) :=
  ((indices 64).filter fun p => keys[p].held && keys[p].used).map fun p => (p, keys[p].entry)

/-- The stuck count and the keypad fault check (R101). -/
def State.checkKeypadFault (s : State) : State :=
  let keys := s.keypad.keys
  let n := countStuck keys
  let fault := s.keypad.faultArmed && decide (3 ≤ n)
  let armed := if fault then false else s.keypad.faultArmed || decide (n < 3)
  let s := { s with keypad := { s.keypad with stuckCount := n, faultArmed := armed } }
  if fault then
    let set := positionsIn keys .stuck
    s.report .keypadFault 0 true 0
      { w0 := natWord n, w1 := set.setWidth 32, w2 := (set >>> 32).setWidth 32 }
  else s

/-- One KEY report (R103, R169). -/
def State.reportKey (s : State) (p : Fin 64) (r : KeyKind × KeyEntry) (held : Nat) : State :=
  s.report .key (keyKindCode r.1) false p.val
    { w0 := r.2.code.setWidth 32, w1 := r.2.group.setWidth 32, w2 := natWord (p.val / 8 * 256 + p.val % 8)
      w3 := natWord held }

/-- The scan's KEY reports in ascending position order (R103). -/
def State.reportKeys (s : State) (steps : Vector KeyStep 64) : State :=
  (indices 64).foldl (fun s p => match steps[p].report with
    | some r => s.reportKey p r (heldCount s.keypad.keys)
    | none => s) s

/-- A scan up to the hand-off of the held set (R91, R101, R103), with the policy as last read and the lock at the scan
(R104). -/
def State.scanKeys (s : State) (reading : BitVec 64) : State :=
  let steps := s.advanceKeys reading
  let s := { s with keypad := { s.keypad with
    keys := Vector.ofFn fun p => steps[p].key
    policyRead := lockPolicy s.mem
    lockedAtScan := s.keypadLocked } }
  let s := s.sendAll (steps.toList.filterMap fun x => x.counted.map Instr.counterIncrement)
  s.checkKeypadFault.reportKeys steps

/-- KEYPAD_LOCK (R104, R150), with the desk's check (R146): the keypad lock word of the header shows the flag, and data
word 0 is the flag as it now stands. -/
def execKeypadLock (slot : Fin 8) (lock : Word) (s : State) : Outcome State Fault Refusal :=
  let s := s.taking (.keypadLock slot lock)
  if 1 < lock.toNat then .next (s.answer slot .badArgument)
  else
    .next ({ s with keypad := { s.keypad with deskLock := decide (lock = 1#16) } }.answer slot .done
      { w0 := if lock = 1#16 then 1 else 0 })

end Sys2Proof.Machine
end

