-- ==== Sys2Proof/Machine/Climate.lean ====
section
/-! DEFINITION. The climate controller: zone demands (R5 to R16), dew check (R17, R18), warm-up gate (R19 to R25),
boosts, overrides and re-arms. The pass that runs them is in Machine/Pass.lean. -/

namespace Sys2Proof.Machine

open Sys2Proof Host

/-! ### Zone demands -/

/-- Initialisation sets E "to the smaller of the control sensor's held value and the target setpoint", or to the target
when the sensor gives no value (R8). -/
def initialSetpoint (cfg : ZoneCfg) (c : Sensor) : Int := if c.usable then min c.held cfg.target else cfg.target

/-- The effective setpoint of this pass (R5, R8, R9). -/
def setpointAfter (cfg : ZoneCfg) (c : Sensor) (rearm : Bool) (old : Option Int) : Int :=
  if !cfg.used then cfg.target
  else match old with
    | none => initialSetpoint cfg c
    | some e =>
      if rearm then initialSetpoint cfg c
      else if cfg.ramp = 0 then cfg.target else min cfg.target (e + cfg.ramp)

/-- The error e of R10; 0 while it is not computed. -/
def zoneError (c : Sensor) (e : Int) : Int := if c.usable then clampInt (e - c.held) (-640) 640 else 0

/-- The proportional term p of R10. -/
def proportionalTerm (cfg : ZoneCfg) (error : Int) : Int := truncDiv (cfg.kp * error) 16

/-- "The previous pass was held high if the last demand was 1000, or if the last grant was below the last demand" (R11). -/
def Zone.heldHigh (z : Zone) : Bool := decide (z.lastDemand = 1000 ∨ z.lastGrant < z.lastDemand)

/-- The integrator of this pass (R11). -/
def integratorAfter (cfg : ZoneCfg) (c : Sensor) (z : Zone) (error : Int) : Int :=
  if !c.usable then z.integrator
  else if z.heldHigh ∧ 0 < error then z.integrator
  else if z.lastDemand = 0 ∧ error < 0 then z.integrator
  else clampInt (z.integrator + truncDiv (cfg.ki * error) 16) 0 16000

/-- The demand by the law alone (R12): clamp(p + floor(I / 16), 0, 1000). -/
def lawDemand (p i : Int) : Nat := (clampInt (p + i / 16) 0 1000).toNat

/-- The demand and what decided it: a later override that applies replaces the demand formed so far (R12). -/
def decideDemand (cfg : ZoneCfg) (c : Sensor) (z : Zone) (law : Nat) : Nat × DecidedBy :=
  match z.override with
  | some o => (o.duty, .override)
  | none =>
    if 0 < z.boost then (1000, .boost)
    else if !c.usable then (cfg.failSafe, .failSafe)
    else if c.held < cfg.boostBelow then (1000, .threshold)
    else (law, .law)

/-- An override's remaining decreased by one; at 0 it becomes absent (R15). -/
def overrideAfter : Option Override → Option Override
  | none => none
  | some o => if o.remaining ≤ 1 then none else some { o with remaining := o.remaining - 1 }

/-- The re-arm temperature after a pass's re-arm work (R20). -/
def rearmTempAfter (cfg : ZoneCfg) (c : Sensor) (rearm : Bool) (t0 : Option Int) : Option Int :=
  if !rearm then t0
  else if cfg.used && cfg.gating && c.usable then some c.held else none

/-- A zone's demand work (R5 to R16), and its entry of the zone status block. An unused zone's entry names none of R12's
five sources and shows an error and a term of 0 (log 48). -/
def zonePass (cfg : ZoneCfg) (c : Sensor) (rearm : Bool) (z : Zone) : Zone × ZoneShown :=
  let e := setpointAfter cfg c rearm z.setpoint
  let t0 := rearmTempAfter cfg c rearm z.rearmTemp
  if !cfg.used then
    let z' := { z with
      setpoint := some e, integrator := 0, lastDemand := 0, boost := z.boost - 1
      override := overrideAfter z.override, rearmTemp := t0 }
    (z', { setpoint := some e, temperature := c.held, boost := z'.boost, override := z'.override })
  else
    let err := zoneError c e
    let p := if c.usable then proportionalTerm cfg err else 0
    let i := integratorAfter cfg c z err
    let d := decideDemand cfg c z (lawDemand p i)
    let z' := { z with
      setpoint := some e, integrator := i, lastDemand := d.1, boost := z.boost - 1
      override := overrideAfter z.override, rearmTemp := t0 }
    (z', { setpoint := some e, temperature := c.held, error := err, proportional := p, integrator := i, demand := d.1
           boost := z'.boost, override := z'.override, decidedBy := d.2 })

/-! ### Dew check -/

/-- The dew point, the two margins and the outcome (R17, R18). -/
structure Dew where
  dewPoint : Int
  board : Option Int
  glass : Option Int
  isMet : Bool
deriving DecidableEq, Repr

/-- Td = T_air - truncate((100 - RH) × 16 / 5), or T_air when H gives no value (R17). -/
def dewPoint (air humidity : Sensor) : Int :=
  if humidity.usable then air.held - truncDiv ((100 - humidity.held) * 16) 5 else air.held

/-- A surface's margin, absent when its channel gives no value (R17). -/
def surfaceMargin (c : Sensor) (td : Int) : Option Int := if c.usable then some (c.held - td) else none

/-- A surface passes by its margin, or after the dew fallback time when its channel gives no value (R18). -/
def surfacePasses (margin : Option Int) (minimum : Int) (fallenBack : Bool) : Bool :=
  match margin with
  | some m => decide (minimum ≤ m)
  | none => fallenBack

/-- The dew check of a pass (R17, R18). -/
def dewCheck (s : State) : Dew :=
  let air := s.sensors[(0 : Fin 9)]
  let hum := s.sensors[(8 : Fin 9)]
  let td := dewPoint air hum
  let board := surfaceMargin s.sensors[(1 : Fin 9)] td
  let glass := surfaceMargin s.sensors[(2 : Fin 9)] td
  let back := decide (dewFallback s.mem ≤ s.gate.sinceRearm)
  let met :=
    if !air.usable then back
    else if hum.usable ∧ hum.held < 50 then true
    else surfacePasses board (dewMargin s.mem) back && surfacePasses glass (dewMargin s.mem) back
  { dewPoint := td, board := board, glass := glass, isMet := met }

/-! ### Gate conditions and progress -/

/-- The control sensor of a zone. -/
def State.control (s : State) (z : Fin 3) : Sensor := s.sensors[(zoneCfg s.mem z).control]

/-- A zone holds the gate when it is used and gating (R21). -/
def ZoneCfg.holdsGate (c : ZoneCfg) : Bool := c.used && c.gating

/-- A used gating zone stands at or above its release temperature (R21). -/
def zoneStands (cfg : ZoneCfg) (c : Sensor) (since : Nat) : Bool :=
  if c.usable then decide (cfg.release ≤ c.held) else decide (cfg.fallback * 60 ≤ since)

/-- The zone condition (R21). -/
def zoneCondition (s : State) : Bool :=
  (indices 3).all fun z =>
    !(zoneCfg s.mem z).holdsGate || zoneStands (zoneCfg s.mem z) (s.control z) s.gate.sinceRearm

/-- A zone's progress figure, its T0 taken from the held value when it is absent (R25). -/
def zoneFigure (cfg : ZoneCfg) (c : Sensor) (since : Nat) (t0 : Option Int) : Nat :=
  if !c.usable then (if cfg.fallback * 60 ≤ since then 1000 else since * 1000 / (cfg.fallback * 60))
  else
    let base := t0.getD c.held
    if cfg.release ≤ c.held ∨ cfg.release ≤ base then 1000
    else (clampInt (truncDiv ((c.held - base) * 1000) (cfg.release - base)) 0 1000).toNat

/-- The warm-up progress while the gate is not OPEN: the smallest figure, or 1000 if there is none (R25). -/
def closedProgress (s : State) : Nat :=
  (indices 3).foldl (fun acc z =>
    if (zoneCfg s.mem z).holdsGate then
      min acc (zoneFigure (zoneCfg s.mem z) (s.control z) s.gate.sinceRearm s.zones[z].rearmTemp)
    else acc) 1000

/-- The warm-up progress of the pass (R25). -/
def progressOf (s : State) : Nat := if s.gate.state = .opened then 1000 else closedProgress s

/-- T0 taken at this pass where it is absent and the sensor gives a value, while the gate is not OPEN (R25). -/
def takeT0 (s : State) : State :=
  if s.gate.state = .opened then s
  else { s with zones := Vector.ofFn fun z =>
    let x := s.zones[z]
    if (zoneCfg s.mem z).holdsGate && (s.control z).usable && x.rearmTemp.isNone then
      { x with rearmTemp := some (s.control z).held } else x }

/-! ### The gate's moves -/

/-- The gate as State holds it, changed. -/
def State.setGate (s : State) (g : Gate) : State := { s with gate := g }

/-- A WARM-UP report (R22, R24): it carries the gate's new state and the progress of the pass. -/
def State.reportWarmUp (s : State) (subkind : Nat) (byLimit : Bool) (progress : Nat) : State :=
  s.report .warmUp subkind false 0
    { w0 := natWord (gateCode s.gate.state), w1 := natWord progress, w2 := flagWord byLimit }

/-- Entry to OPEN (R24): by the conditions, counted as a warm-up completed, or by the limit. -/
def State.openGate (s : State) (byLimit : Bool) (progress : Nat) : State :=
  let s := (s.setGate { s.gate with state := .opened, soakRemaining := none }).reportWarmUp 3 byLimit progress
  if byLimit then s else s.count .warmUpsCompleted

/-- The re-arm work on the gate, or the second that passes (R20). -/
def Gate.passBegins (g : Gate) : Gate :=
  if g.rearmPending then
    { g with rearmPending := false, sinceRearm := 0, soakRemaining := none, limitExpired := false }
  else { g with sinceRearm := min (g.sinceRearm + 1) 65535 }

/-- The gate's move on the conditions (R20 for a re-arm pass, else R22). -/
def State.gateMove (s : State) (rearm met : Bool) (progress : Nat) : State :=
  let g := s.gate
  if rearm then
    if met then s.openGate false progress else s.setGate { g with state := .closed, soakRemaining := none }
  else match g.state with
    | .closed =>
      if !met then s
      else if soakTime s.mem = 0 then s.openGate false progress
      else (s.setGate { g with state := .soaking, soakRemaining := some (soakTime s.mem) }).reportWarmUp 1 false progress
    | .soaking =>
      if !met then (s.setGate { g with state := .closed, soakRemaining := none }).reportWarmUp 2 false progress
      else if g.soakRemaining.getD 0 ≤ 1 then s.openGate false progress
      else s.setGate { g with soakRemaining := some (g.soakRemaining.getD 0 - 1) }
    | .opened => s

/-- The warm-up limit (R23), after the gate's move. The report carries the gate state the limit found (log 25). -/
def State.limitMove (s : State) (zoneMet dewMet : Bool) (progress : Nat) : State :=
  if s.gate.state = .opened ∨ s.gate.limitExpired ∨ s.gate.sinceRearm < warmUpLimit s.mem then s
  else
    let found := s.gate.state
    let s := (s.setGate { s.gate with limitExpired := true }).count .warmUpLimitExpiries
    let s := s.report .warmUpLimit 0 true 0
      { w0 := natWord (gateCode found), w1 := natWord progress, w2 := flagWord zoneMet, w3 := flagWord dewMet }
    if releaseAnyway s.mem then s.openGate true progress else s

/-- The gate's work in a pass: its move, then the limit (R20 to R24), with the progress its reports carry. -/
def State.gateWork (s : State) (rearm zoneMet dewMet : Bool) (progress : Nat) : State :=
  (s.gateMove rearm (zoneMet && dewMet) progress).limitMove zoneMet dewMet progress

/-- The warm-up progress of the pass (R25), by the gate state the pass ends in, which does not rest on it. -/
def State.passProgress (s : State) (rearm zoneMet dewMet : Bool) : Nat := progressOf (s.gateWork rearm zoneMet dewMet 0)

/-- Gate, limit and progress of a pass (R19 to R25), and the gate status block. -/
def State.gatePass (s : State) (rearm : Bool) : State :=
  let zoneMet := zoneCondition s
  let dew := dewCheck s
  let progress := s.passProgress rearm zoneMet dew.isMet
  let s := s.gateWork rearm zoneMet dew.isMet progress
  let s := s.setGate { s.gate with progress := progress }
  let s := takeT0 s
  { s with shown := { s.shown with gate :=
      { state := s.gate.state, sinceRearm := s.gate.sinceRearm, soakRemaining := s.gate.soakRemaining
        limitExpired := s.gate.limitExpired, zoneMet := zoneMet, dewMet := dew.isMet, progress := s.gate.progress
        dewPoint := dew.dewPoint, boardMargin := dew.board, glassMargin := dew.glass } } }

/-! ### Boosts, overrides, re-arms -/

/-- A boost on one zone (R13): the larger of the present value and the seconds, or 0 for a request of 0. -/
def Zone.takeBoost (z : Zone) (seconds : Nat) : Zone :=
  { z with boost := if seconds = 0 then 0 else max z.boost seconds }

/-- A boost request (R13), with the refusal handed back: BAD_ARGUMENT for a zone above 2. -/
def State.takeBoost (s : State) (target : BoostTarget) (seconds : Nat) : State × Option AnswerCode :=
  match target with
  | .all => ({ s with zones := Vector.ofFn fun z => s.zones[z].takeBoost seconds }, none)
  | .zone n =>
    if h : n < 3 then ({ s with zones := upd s.zones ⟨n, h⟩ fun z => z.takeBoost seconds }, none)
    else (s, some .badArgument)

/-- BOOST_REQUEST (R13). The outcome handed back stands in lastRefusal (log 4). -/
def execBoostRequest (target : BoostTarget) (seconds : Word) (s : State) : Outcome State Fault Refusal :=
  let s := s.taking (.boostRequest target seconds)
  let r := s.takeBoost target seconds.toNat
  .next { r.1 with lastRefusal := r.2 }

/-- CLIMATE_OVERRIDE (R15, R150), with the desk's checks (R146). -/
def execClimateOverride (slot : Fin 8) (zone duty seconds : Word) (s : State) : Outcome State Fault Refusal :=
  let s := s.taking (.climateOverride slot zone duty seconds)
  if h : zone.toNat < 3 ∧ duty.toNat ≤ 1000 then
    let o := if seconds = 0#16 then none else some { duty := duty.toNat, remaining := seconds.toNat }
    .next ({ s with zones := upd s.zones ⟨zone.toNat, h.1⟩ fun z => { z with override := o } }.answer slot .done)
  else .next (s.answer slot .badArgument)

/-- GATE_REARM (R20): the re-arm pending mark is set for the next pass. -/
def execGateRearm (s : State) : Outcome State Fault Refusal :=
  let s := s.taking .gateRearm
  .next (s.setGate { s.gate with rearmPending := true })

end Sys2Proof.Machine
end

