-- ==== Sys2Proof/Machine/Fans.lean ====
section
/-! DEFINITION. The fan controller: duty law, states, tachometer and the sweep engine (R34 to R48). -/

namespace Sys2Proof.Machine

open Sys2Proof Host

/-- A fan's record as State holds it, changed. -/
def State.setFan (s : State) (f : Fin 2) (x : Fan) : State := { s with fans := put s.fans f x }

/-- The sweep engine as State holds it, changed. -/
def State.setSweep (s : State) (w : Option Sweep) : State := { s with sweep := w }

/-- A fan's entry of the fan status block rewritten (2.8, R43). -/
def State.publishFan (s : State) (f : Fin 2) : State :=
  let e : FanShown := { fan := s.fans[f], sweep := s.sweep.bind fun w => if w.fan = f then some w else none }
  { s with shown := { s.shown with fans := put s.shown.fans f e } }

/-- The cabinet air S0. -/
def State.air (s : State) : Sensor := s.sensors[(0 : Fin 9)]

/-! ### Duty law (R34, R35) -/

/-- minrun' of R34: the clog surcharge while CLOGGED, limited to 1000. -/
def effectiveMinRun (m : Memory) (f : Fin 2) (clogged : Bool) : Nat :=
  min (minimumRun m f + (if clogged then clogSurcharge m f else 0)) 1000

/-- The fan's demand of a pass (R34): cooling, stirring, or 0. -/
def State.fanDemand (s : State) (f : Fin 2) : Nat :=
  let lo := effectiveMinRun s.mem f s.fans[f].clogged
  let tc := coolStart s.mem f
  if s.air.usable ∧ tc < s.air.held then
    (clampInt (lo + truncDiv (fanGain s.mem f * (s.air.held - tc)) 16) lo 1000).toNat
  else if f = 1 ∧ s.gate.state ≠ .opened then stirDuty s.mem
  else 0

/-- S0 is above the fan's Tc + 160, which refuses a sweep start and aborts a running sweep (R35, R42, R44). -/
def State.tooHot (s : State) (f : Fin 2) : Bool := s.air.usable && decide (coolStart s.mem f + 160 < s.air.held)

/-! ### Wake and rest (R36, R39) -/

/-- SPINNING_UP entered afresh: late tries 0, the spin-up limit timer started, the spin-up counted (R36). -/
def State.wakeFan (s : State) (f : Fin 2) : State :=
  let x := { s.fans[f] with
    state := .spinningUp, lateTries := 0, spinLimit := some (s.inMs (spinUpLimit s.mem f * 1000)) }
  ((s.setFan f x).count (.spinUps f)).publishFan f

/-- A fan's state work in a pass, with its demand formed (R36, R39). -/
def State.fanStateWork (s : State) (f : Fin 2) : State :=
  let x := s.fans[f]
  match x.state with
  | .resting => if 0 < x.demand then s.wakeFan f else s
  | .running =>
    if 0 < x.demand then s.setFan f { x with restCount := 0 }
    else
      let n := x.restCount + 1
      if restDelay s.mem f ≤ n then (s.setFan f { x with restCount := n, state := .resting }).publishFan f
      else s.setFan f { x with restCount := n }
  | _ => s

/-! ### Sweep endings (R45 to R47) -/

/-- The deviation of a point in per mille (R45). -/
def deviation (measured reference : Nat) : Int := truncDiv (((measured : Int) - reference) * 1000) reference

/-- "The worst point is the point whose deviation is largest in magnitude, the lowest such point on a tie": its number
from 1 and its deviation (R45). -/
def worstOf : Nat → List Int → Nat × Int
  | _, [] => (0, 0)
  | k, d :: t =>
    let r := worstOf (k + 1) t
    if r.1 ≠ 0 ∧ d.natAbs < r.2.natAbs then r else (k, d)

/-- The deviations of the four points. -/
def deviations (m : Memory) (f : Fin 2) (measured : Vector Nat 4) : List Int :=
  (indices 4).map fun k => deviation measured[k] (reference m f k)

/-- A TEST sweep's result, worst point and deviation (R45). -/
def evaluateTest (m : Memory) (f : Fin 2) (measured : Vector Nat 4) : SweepResult × Nat × Int :=
  if (indices 4).any fun k => decide (reference m f k = 0) then (.noReference, 0, 0)
  else
    let ds := deviations m f measured
    let worst := worstOf 1 ds
    if (indices 4).any fun k => decide (measured[k] = 0) then (.stalled, worst)
    else if ds.any fun d => decide ((clogLimit m f : Int) < d) then (.clogged, worst)
    else if ds.any fun d => decide (d < -(slowLimit m f : Int)) then (.slow, worst)
    else (.normal, worst)

/-- The fan's state at the end of a sweep (R47 step 3). -/
def fanAfterSweep (w : Sweep) (result : SweepResult) (spunOut : Bool) : FanState :=
  if spunOut then .failed
  else if w.wasFailed ∧ result ≠ .normal then .failed
  else if result = .stalled then .resting
  else .running

/-- The clog state after a result (R47 step 2, R48). -/
def cloggedAfter (old : Bool) : SweepResult → Bool
  | .clogged => true
  | .normal => false
  | _ => old

/-- A deviation as a desk data word, signed (R151, 12.3). -/
def deviationWord (d : Int) : Word :=
  if -32768 ≤ d ∧ d ≤ 32767 then BitVec.ofInt 16 d else Config.wideDeviation d

/-- The desk's answer to a FAN SWEEP at the sweep's end (R151). -/
def sweepAnswer (r : SweepRecord) : AnswerCode × Words :=
  (if r.result = .aborted then .failed else .done,
    { w0 := BitVec.ofNat 16 (sweepCode r.result), w1 := BitVec.ofNat 16 r.worst, w2 := deviationWord r.deviation
      w3 := match r.worst with
        | 0 => 0
        | k + 1 => BitVec.ofNat 16 (r.measured.toList.getD k 0) })

/-- The end of a sweep with any result (R47), in the rule's order. -/
def State.endSweep (s : State) (w : Sweep) (result : SweepResult) (worst : Nat) (dev : Int) (spunOut : Bool) : State :=
  let f := w.fan
  let r : SweepRecord := { mode := w.mode, starter := w.starter, result := result, worst := worst, deviation := dev
                           measured := w.measured }
  let x := s.fans[f]
  let s := s.setFan f { x with
    lastResult := some r
    clogged := cloggedAfter x.clogged result
    sweepPending := false
    state := fanAfterSweep w result spunOut
    spinLimit := none
    restCount := if fanAfterSweep w result spunOut = .running then 0 else x.restCount }
  let s := (s.setSweep none).publishFan f
  let s := if result = .clogged then s.count .sweepsClogged else s
  let s := s.report .fan 2 false f.val
    { w0 := natWord (sweepCode result), w1 := natWord worst, w2 := signedWord dev }
  match w.slot with
  | some slot => s.answer slot (sweepAnswer r).1 (sweepAnswer r).2
  | none => s

/-- The bytes of the four references. -/
def referenceBytes (measured : Vector Nat 4) : List Byte :=
  (indices 4).flatMap fun k => bytes16 (BitVec.ofNat 16 measured[k])

/-- The fourth point's end (R45, R46): a RECORD sweep writes its references as one memory update unless it stalled. -/
def State.completeSweep (s : State) (w : Sweep) : State :=
  match w.mode with
  | .test =>
    let e := evaluateTest s.mem w.fan w.measured
    s.endSweep w e.1 e.2.1 e.2.2 false
  | .record =>
    if (indices 4).any fun k => decide (w.measured[k] = 0) then s.endSweep w .stalled 0 0 false
    else
      { s with mem := s.mem.writeBytes (referenceAddr w.fan 0) (referenceBytes w.measured) }.endSweep w .normal 0 0 false

/-- A running sweep is aborted at a pass that finds the cabinet air too hot (R44). -/
def State.sweepAbortWork (s : State) : State :=
  match s.sweep with
  | some w => if s.tooHot w.fan then s.endSweep w .aborted 0 0 false else s
  | none => s

/-- The fan work of a pass (R34, R36, R39, R44): both demands, both fans' states, then the sweep's abort. -/
def State.fanPass (s : State) : State :=
  let s := s.setFan 0 { s.fans[(0 : Fin 2)] with demand := s.fanDemand 0 }
  let s := s.setFan 1 { s.fans[(1 : Fin 2)] with demand := s.fanDemand 1 }
  ((s.fanStateWork 0).fanStateWork 1).sweepAbortWork

/-! ### Sweep start (R42, R43) -/

/-- The first case that refuses a sweep start (R42). -/
def State.sweepRefusal (s : State) (f : Fin 2) : Option AnswerCode :=
  if s.sweep.isSome then some .busy
  else if (match s.store with | .reloading _ => true | _ => false) then some .busy
  else if f = 1 ∧ s.gate.state ≠ .opened then some .wrongState
  else if s.tooHot f then some .wrongState
  else none

/-- SWEEPING entered at the first point: its settle of 3 s begins (R43). -/
def State.enterSweeping (s : State) (w : Sweep) : State :=
  let x := s.fans[w.fan]
  let s := s.setFan w.fan { x with state := .sweeping, sweepPending := false, spinLimit := none }
  (s.setSweep (some { w with point := 0, phase := .settling (s.inMs Config.sweepSettle) })).publishFan w.fan

/-- A sweep start (R42): refused with a code, or accepted. -/
def State.startSweep (s : State) (f : Fin 2) (mode : SweepMode) (starter : Starter) (slot : Option (Fin 8)) :
    State × Option AnswerCode :=
  match s.sweepRefusal f with
  | some code => (s, some code)
  | none =>
    let x := s.fans[f]
    let w : Sweep := { fan := f, mode := mode, starter := starter, slot := slot, wasFailed := decide (x.state = .failed)
                       point := 0, phase := .spinningUp, measured := Vector.replicate 4 0 }
    let s := s.count .sweepsRun
    match x.state with
    | .running | .sweeping => (s.enterSweeping w, none)
    | .spinningUp => (((s.setFan f { x with sweepPending := true }).setSweep (some w)).publishFan f, none)
    | .resting | .failed => (((s.setFan f { x with sweepPending := true }).setSweep (some w)).wakeFan f, none)

/-- FAN_SWEEP (R42, R151), with the desk's checks (R146): answered here only when refused. -/
def execFanSweep (slot : Fin 8) (fan mode : Word) (s : State) : Outcome State Fault Refusal :=
  let s := s.taking (.fanSweep slot fan mode)
  if h : fan.toNat < 2 ∧ mode.toNat < 2 then
    let r := s.startSweep ⟨fan.toNat, h.1⟩ (if mode = 0#16 then .test else .record) .desk (some slot)
    match r.2 with
    | some code => .next (r.1.answer slot code)
    | none => .next r.1
  else .next (s.answer slot .badArgument)

/-- SWEEP_SETTLE_END (R43): the measuring phase begins. -/
def execSweepSettleEnd (s : State) : Outcome State Fault Refusal :=
  match s.sweep with
  | some w =>
    match w.phase with
    | .settling due =>
      let s := s.reachTime due
      .next ((s.setSweep (some { w with phase := .measuring [] })).publishFan w.fan)
    | _ => .next s
  | none => .next s

/-! ### Tachometer (R37, R41, R43) -/

/-- The RPM of an update at this moment (R41). -/
def State.measureRpm (s : State) (f : Fin 2) : Nat :=
  match s.fans[f].lastPulse, s.fans[f].pulseBefore with
  | some t, some t' =>
    if Config.pulseTimeout < s.clock - t then 0
    else if t = t' then min (Config.rpmOfEqualStamps s.freeCount) 65535
    else min (30000000 / (t - t')) 65535
  | _, _ => 0

/-- One of the four updates of a point (R43): the fourth ends the point, and the fourth point's end ends the sweep. -/
def State.takeMeasurement (s : State) (w : Sweep) (taken : List Nat) (rpm : Nat) : State :=
  let taken := taken ++ [rpm]
  if taken.length < 4 then (s.setSweep (some { w with phase := .measuring taken })).publishFan w.fan
  else
    let w := { w with measured := put w.measured w.point (taken.sum / 4) }
    if h : w.point.val + 1 < 4 then
      (s.setSweep (some { w with
        point := ⟨w.point.val + 1, h⟩, phase := .settling (s.inMs Config.sweepSettle) })).publishFan w.fan
    else s.completeSweep w

/-- The sweep a fan's spin-up is for: the engine's sweep on this fan, while the fan's sweep-pending mark is set (R42). -/
def State.pendingSweep (s : State) (f : Fin 2) : Option Sweep :=
  if s.fans[f].sweepPending then s.sweep.filter fun w => decide (w.fan = f) else none

/-- A spin-up that has succeeded (R37). -/
def State.spinUpSucceeds (s : State) (f : Fin 2) : State :=
  let x := s.fans[f]
  match s.pendingSweep f with
  | some w => (s.setFan f { x with lateTries := 0 }).enterSweeping w
  | none =>
    (s.setFan f { x with lateTries := 0, spinLimit := none, sweepPending := false, state := .running
                         restCount := 0 }).publishFan f

/-- An update delivered to the fan's own state (R37, R43). -/
def State.deliverRpm (s : State) (f : Fin 2) (rpm : Nat) : State :=
  match s.fans[f].state with
  | .spinningUp => if spinUpRpm s.mem f ≤ rpm then s.spinUpSucceeds f else s
  | .sweeping =>
    match s.sweep with
    | some w =>
      match w.phase with
      | .measuring taken => if w.fan = f then s.takeMeasurement w taken rpm else s
      | _ => s
    | none => s
  | _ => s

/-- The RPM in a fan's entry of the fan status block: "the fan status block shows it as of the last update" (R41). -/
def State.showRpm (s : State) (f : Fin 2) (rpm : Nat) : State :=
  { s with shown := { s.shown with fans := upd s.shown.fans f fun e => { e with fan := { e.fan with rpm := rpm } } } }

/-- TACHOMETER_UPDATE (R41). -/
def execTachometerUpdate (f : Fin 2) (s : State) : Outcome State Fault Refusal :=
  match s.fans[f].nextUpdate with
  | none => .next s
  | some due =>
    let s := s.reachTime due
    let rpm := s.measureRpm f
    let s := (s.setFan f { s.fans[f] with rpm := rpm, nextUpdate := some (due + Config.samplePeriod) }).drawFree
    .next ((s.showRpm f rpm).deliverRpm f rpm)

/-- TACHOMETER_PULSE (R41): the pulse is timestamped. -/
def execTachometerPulse (us : Nat) (f : Fin 2) (s : State) : Outcome State Fault Refusal :=
  let s := s.elapse us
  let x := s.fans[f]
  .next (s.setFan f { x with lastPulse := some s.clock, pulseBefore := x.lastPulse })

/-- The third late attempt (R38): the FAILED report and the count, but for a fan that was FAILED when its sweep was accepted,
which "posts no second FAILED report, and its fan failures counter is not incremented a second time" (R47; log 27). -/
def State.spinUpFails (s : State) (f : Fin 2) : State :=
  let reported := (s.report .fan 3 true f.val { w0 := natWord s.fans[f].rpm }).count (.fanFailures f)
  match s.pendingSweep f with
  | some w => (if w.wasFailed then s else reported).endSweep w .stalled 0 0 true
  | none => (reported.setFan f { s.fans[f] with state := .failed, sweepPending := false }).publishFan f

/-- SPIN_UP_LIMIT_EXPIRY (R38). -/
def execSpinUpLimitExpiry (f : Fin 2) (s : State) : Outcome State Fault Refusal :=
  let x := s.fans[f]
  match x.state, x.spinLimit with
  | .spinningUp, some due =>
    let s := s.reachTime due
    let late := x.lateTries + 1
    let s := (s.setFan f { x with lateTries := late, spinLimit := none }).count (.spinUpLate f)
    if late < 3 then
      let s := s.report .fan 1 false f.val { w0 := natWord late, w1 := natWord x.rpm }
      .next (s.setFan f { s.fans[f] with spinLimit := some (s.inMs (spinUpLimit s.mem f * 1000)) })
    else .next (s.spinUpFails f)
  | _, _ => .next s

end Sys2Proof.Machine
end

