-- ==== Sys2Proof/Machine/Pass.lean ====
section
/-! DEFINITION. The heater budget, the plate interlocks, the heater drive and the climate pass that runs all of
chapters 1 and 2 in order (R7, R27 to R33). -/

namespace Sys2Proof.Machine

open Sys2Proof Host

/-! ### Plate interlock (R31) -/

/-- The interlock of a zone after its evaluation against its plate channel (R31). -/
def interlockAfter (cfg : ZoneCfg) (plate : Option Sensor) (tripped : Bool) : Bool :=
  match plate with
  | none => false
  | some c =>
    if !c.usable then true
    else if cfg.plateLimit ≤ c.held then true
    else if c.held ≤ cfg.plateLimit - 80 then false
    else tripped

/-- The plate channel a zone's settings name. -/
def State.plateOf (s : State) (z : Fin 3) : Option Sensor := (zoneCfg s.mem z).plate.map fun ch => s.sensors[ch]

/-- Every zone's interlock evaluated; each entry into TRIPPED is counted (R31). -/
def State.interlockPass (s : State) : State :=
  let old := s.budget.tripped
  let new : Vector Bool 3 := Vector.ofFn fun z => interlockAfter (zoneCfg s.mem z) (s.plateOf z) old[z]
  let trips := (indices 3).filter fun z => new[z] && !old[z]
  { s with budget := { s.budget with tripped := new } }.sendAll (trips.map fun _ => .counterIncrement .plateTrips)

/-! ### Budget and grants (R27 to R30) -/

/-- The fan draw F of R28. -/
def State.fanDraw (s : State) : Nat :=
  fanRated s.mem 0 * s.driven 0 / 1000 + fanRated s.mem 1 * s.driven 1 / 1000

/-- The host reservation used by a pass (R27). -/
def State.reservationUsed (s : State) : Nat := if s.sup.reservation then hostReservation s.mem else 0

/-- The heater budget Ah of R27. -/
def State.heaterBudget (s : State) (supplyLow : Bool) : Nat :=
  if supplyLow then 0 else supplyBudget s.mem - s.reservationUsed - s.fanDraw

/-- A zone's request R_z (R29). -/
def State.zoneRequest (s : State) (z : Fin 3) : Nat :=
  let cfg := zoneCfg s.mem z
  if !cfg.used || s.budget.tripped[z] then 0 else s.zones[z].lastDemand * cfg.rated / 1000

/-- The order of service: ascending priority, equal priorities in ascending zone number (R29). -/
def serveOrder (m : Memory) : List (Fin 3) :=
  [0, 1, 2].flatMap fun p => (indices 3).filter fun z => decide ((zoneCfg m z).priority = p)

/-- "Each zone in turn is granted G_z = min(R_z, remaining)" (R29). -/
def serve (requests : Vector Nat 3) : List (Fin 3) → Nat → Vector Nat 3 → Vector Nat 3 × Nat
  | [], remaining, grants => (grants, remaining)
  | z :: t, remaining, grants =>
    let g := min requests[z] remaining
    serve requests t (remaining - g) (put grants z g)

/-- A zone's granted duty g_z (R30). -/
def grantedDuty (tripped : Bool) (demand rated request grant : Nat) : Nat :=
  if tripped then 0 else if grant = request then demand else grant * 1000 / rated

/-! ### Budget-short episodes (R33) -/

/-- The runs and the episode after a pass; true when an episode begins (R33). -/
def Budget.afterPass (b : Budget) (short : Bool) : Budget × Bool :=
  if b.inEpisode then
    let n := if short then 0 else b.clearRun + 1
    if 30 ≤ n then ({ b with inEpisode := false, clearRun := n, shortRun := 0 }, false)
    else ({ b with clearRun := n }, false)
  else
    let n := if short then b.shortRun + 1 else 0
    if 30 ≤ n then ({ b with inEpisode := true, shortRun := n, clearRun := 0 }, true)
    else ({ b with shortRun := n }, false)

/-- The figures of a pass's budget. -/
structure Grants where
  available : Nat
  requests : Vector Nat 3
  grants : Vector Nat 3
  remaining : Nat
  duties : Vector Nat 3
deriving DecidableEq, Repr

/-- Requests, grants and granted duties of a pass (R27 to R30). -/
def State.formGrants (s : State) (supplyLow : Bool) : Grants :=
  let ah := s.heaterBudget supplyLow
  let requests : Vector Nat 3 := Vector.ofFn s.zoneRequest
  let served := serve requests (serveOrder s.mem) ah (Vector.replicate 3 0)
  { available := ah
    requests := requests
    grants := served.1
    remaining := served.2
    duties := Vector.ofFn fun z =>
      grantedDuty s.budget.tripped[z] s.zones[z].lastDemand (zoneCfg s.mem z).rated requests[z] served.1[z] }

/-- A zone was cut: its grant is below its request (R33). -/
def Grants.isCut (g : Grants) (z : Fin 3) : Bool := decide (g.grants[z] < g.requests[z])

/-- The zones cut, as bits (R169). -/
def Grants.cutBits (g : Grants) : Nat :=
  (if g.isCut 0 then 1 else 0) + (if g.isCut 1 then 2 else 0) + (if g.isCut 2 then 4 else 0)

/-- The episode's work at the end of a pass's grants (R33). -/
def State.episodePass (s : State) (g : Grants) : State :=
  let r := s.budget.afterPass ((indices 3).any g.isCut)
  let s := { s with budget := r.1 }
  if r.2 then
    (s.count .budgetShortEpisodes).report .budgetShort 0 false 0
      { w0 := natWord g.available, w1 := natWord g.requests.toList.sum, w2 := natWord g.grants.toList.sum
        w3 := natWord g.cutBits }
  else s

/-- The heater window that begins at a pass (R32): on for g_z milliseconds, the whole window for 1000. -/
def windowOf (now duty : Nat) : Heater :=
  if duty = 0 then { on := false, offAt := none }
  else if duty < 1000 then { on := true, offAt := some (now + duty * 1000) }
  else { on := true, offAt := none }

/-- The grants recorded as the zones' last grants (R16), the windows begun (R32), and the zone status block (R6, R30). -/
def State.applyGrants (s : State) (g : Grants) (supplyLow : Bool) : State :=
  { s with
    zones := Vector.ofFn fun z => { s.zones[z] with lastGrant := g.duties[z] }
    heaters := Vector.ofFn fun z => windowOf s.clock g.duties[z]
    shown := { s.shown with
      zones := Vector.ofFn fun z => { s.shown.zones[z] with
        lastGrant := g.duties[z], request := g.requests[z], grant := g.grants[z], duty := g.duties[z]
        tripped := s.budget.tripped[z] }
      budget :=
        { supply := supplyBudget s.mem, reservation := s.reservationUsed, fanDraw := s.fanDraw, available := g.available
          supplyLow := supplyLow, remaining := g.remaining, inEpisode := s.budget.inEpisode
          shortRun := s.budget.shortRun, clearRun := s.budget.clearRun } } }

/-- The budget's work in a pass (R27 to R33). -/
def State.budgetPass (s : State) (supplyLow : Bool) : State :=
  let s := s.interlockPass
  let g := s.formGrants supplyLow
  (s.episodePass g).applyGrants g supplyLow

/-! ### The pass -/

/-- The demand work of the three zones (R8 to R16). -/
def State.demandPass (s : State) (rearm : Bool) : State :=
  { s with
    zones := Vector.ofFn fun z => (zonePass (zoneCfg s.mem z) (s.control z) rearm s.zones[z]).1
    shown := { s.shown with
      zones := Vector.ofFn fun z => (zonePass (zoneCfg s.mem z) (s.control z) rearm s.zones[z]).2 } }

/-- The progress handed on to the light unit (R118): from a publication of WARMING until the first re-arm pass it is
disregarded. -/
def ChordUnit.takeProgress (c : ChordUnit) (rearm : Bool) (progress : Nat) : ChordUnit :=
  if c.rearmAwaited && !rearm then c else { c with rearmAwaited := false, progress := progress }

/-- The work of a pass, in R7's order. -/
def State.climatePass (s : State) (supplyLow : Bool) : State :=
  let rearm := s.gate.rearmPending
  let s := s.setGate s.gate.passBegins
  let s := ((s.demandPass rearm).gatePass rearm).fanPass
  let s := ((s.budgetPass supplyLow).publishFan 0).publishFan 1
  let s := { s with chords := s.chords.takeProgress rearm s.gate.progress }
  (s.count .passes).send (.gateReport s.gate.state rearm)

/-- CLIMATE_PASS (R7): a pass falls every second from READY; `supplyLow` is the SUPPLY LOW level as the pass reads it
(R27). At its end the gate state goes to the supervisor (R71). -/
def execClimatePass (supplyLow : Bool) (s : State) : Outcome State Fault Refusal :=
  match s.nextPass with
  | none => .next s
  | some due =>
    let s := s.reachTime due
    .next ({ s with nextPass := some (due + Config.passPeriod) }.climatePass supplyLow)

/-- HEATER_OUTPUT_OFF (R32): the window's on time has run. -/
def execHeaterOutputOff (z : Fin 3) (s : State) : Outcome State Fault Refusal :=
  match s.heaters[z].offAt with
  | none => .next s
  | some due =>
    let s := s.reachTime due
    .next { s with heaters := put s.heaters z { on := false, offAt := none } }

end Sys2Proof.Machine
end

