-- ==== Sys2Proof/Machine/Chords.lean ====
section
/-! DEFINITION. The chord and light unit: chords (R108 to R111), the power key (R112 to R116), the key lights (R117 to
R120); and the keypad scan, which hands it the held set. -/

namespace Sys2Proof.Machine

open Sys2Proof Host

/-- The chord unit as State holds it, changed. -/
def State.setChords (s : State) (c : ChordUnit) : State := { s with chords := c }

/-! ### Chord actions (R110, R111) -/

/-- What a chord's action came to: the argument as read, a refusal, the channel of an accepted START SEQUENCE. -/
structure ChordOutcome where
  argument : Nat
  refusal : Option AnswerCode := none
  channel : Option (Fin 4) := none
deriving DecidableEq, Repr

/-- A chord restart (R85, R110). -/
def State.chordRestart (s : State) (rung : Fin 6) : State × Option AnswerCode :=
  match s.sup.restartRefusal rung.val with
  | some code => (s, some code)
  | none => (s.requestedRestart rung .chord .chord, none)

/-- A light test begins, or begins afresh (R119). -/
def State.startLightTest (s : State) : State :=
  (s.setChords { s.chords with testEnds := some (s.inMs Config.lightTest) }).publishChords

/-- An action sent to its owner, which answers at once (R110). -/
def State.chordSend (s : State) (action argument : Nat) : State × ChordOutcome :=
  match action with
  | 1 =>
    let r := s.chordRestart (railOf argument)
    (r.1, { argument := min argument 5, refusal := r.2 })
  | 2 => (s.powerOn.1, { argument := argument, refusal := s.powerOn.2 })
  | 3 => (s.releaseHold.1, { argument := argument, refusal := s.releaseHold.2 })
  | 4 => ((s.takeBoost .all argument).1, { argument := argument })
  | 5 =>
    let r := s.startSweep ⟨min argument 1, by omega⟩ .test .chord none
    (r.1, { argument := min argument 1, refusal := r.2 })
  | 6 =>
    let r := s.startSequence (headOf argument) .chord
    match r.2 with
    | .ok c => (r.1, { argument := min argument 15, channel := some c })
    | .error code => (r.1, { argument := min argument 15, refusal := some code })
  | 7 => (s.startLightTest, { argument := argument })
  | _ => (s, { argument := argument })

/-- A firing (R110, R111): the action, the counts, and the CHORD report. -/
def State.fireChord (s : State) (n : Fin 8) : State :=
  let action := chordAction s.mem n
  let r := s.chordSend action (chordArgument s.mem n)
  let s := r.1.count .chordsFired
  let s := if r.2.refusal.isSome then s.count .chordsRefused else s
  s.report .chord action false n.val
    { w0 := natWord r.2.argument
      w1 := flagWord r.2.refusal.isSome
      w2 := natWord (match r.2.refusal with | some code => answerCode code | none => 0)
      w3 := natWord (match r.2.channel with | some c => c.val | none => 0) }

/-! ### Matching (R108, R109) -/

/-- Two key sets are the same set: "a code written twice counts once" (R108). -/
def sameCodes (a b : List Nat) : Bool := a.all b.contains && b.all a.contains

/-- The entry takes part in matching: enabled, and no lower-numbered enabled entry has its key set (R108). -/
def takesPart (m : Memory) (n : Fin 8) : Bool :=
  decide (chordKeys m n ≠ []) && !(indices 8).any fun i => decide (i < n) && sameCodes (chordKeys m i) (chordKeys m n)

/-- One chord entry's record changed. -/
def State.setChord (s : State) (n : Fin 8) (c : Chord) : State :=
  s.setChords { s.chords with chords := put s.chords.chords n c }

/-- One entry at a hand-off (R109). -/
def State.matchChord (s : State) (held : List Nat) (n : Fin 8) : State :=
  let c := s.chords.chords[n]
  let keys := chordKeys s.mem n
  if !takesPart s.mem n then s.setChord n { c with matchStart := none }
  else
    let armed := c.armed || keys.any fun k => !held.contains k
    if !sameCodes keys held then s.setChord n { armed := armed, matchStart := none }
    else if !armed then s
    else
      let start := c.matchStart.getD s.uptime
      if chordHold s.mem n ≤ (s.uptime - start).toNat then
        (s.setChord n { armed := false, matchStart := none }).fireChord n
      else s.setChord n { armed := true, matchStart := some start }

/-! ### The power key (R113 to R116) -/

/-- A POWER KEY report (R114 to R116): the supervisor word the unit acted on. -/
def State.reportPower (s : State) (subkind : Nat) (word : DWord) (refused : Bool) (seconds : Nat) : State :=
  s.report .powerKey subkind true 0 { w0 := word, w1 := flagWord refused, w2 := natWord seconds }

/-- The supervisor word most recently published to the unit. -/
def ChordUnit.supWord (c : ChordUnit) : DWord := supWordOf c.published c.publishedSub

/-- The present press disarmed for the forced hold (R114). -/
def ChordUnit.disarm (c : ChordUnit) : ChordUnit :=
  { c with press := c.press.map fun p => { p with disarmed := true } }

/-- A long press's start order or release, its refusal counted and shown in the report (R114). -/
def State.longOrder (s : State) (subkind : Nat) (r : State × Option AnswerCode) : State :=
  let word := s.chords.supWord
  let s := r.1.setChords r.1.chords.disarm
  let s := if r.2.isSome then s.count .chordsRefused else s
  s.reportPower subkind word r.2.isSome 0

/-- A long press (R114), by the supervisor state most recently published. -/
def State.longPress (s : State) : State :=
  match s.chords.published with
  | .off => s.longOrder 1 s.powerOn
  | .held => s.longOrder 2 s.releaseHold
  | .booting | .running =>
    if s.chords.forcedOffTimer.isSome then s.count .chordsRefused
    else
      let n := forcedOffTime s.mem
      let s := (s.setChords { s.chords with forcedOffTimer := some (s.inMs (n * 1000)) }).publishChords
      s.reportPower 3 s.chords.supWord false n
  | _ => s.count .chordsRefused

/-- A forced hold (R116). -/
def State.forcedHold (s : State) (p : PowerPress) : State :=
  if p.disarmed then s
  else match s.chords.published with
    | .off | .held => s
    | _ =>
      let word := s.chords.supWord
      let s := (s.setChords { s.chords with forcedOffTimer := none }).publishChords
      s.forcedShutdown.reportPower 5 word false 0

/-- The start or end of the press, and its elapsed time (R113 steps 1 and 2). -/
def State.powerRecord (s : State) (powerHeld : Bool) : State :=
  let press := if !powerHeld then none else some (s.chords.press.getD { start := s.uptime })
  s.setChords { s.chords with press := press, elapsedAtScan := press.map fun p => s.uptime - p.start }

/-- The long press at a hand-off (R113 step 3). -/
def State.checkLong (s : State) : State :=
  match s.chords.press with
  | none => s
  | some p =>
    if !p.longDone && decide (longPressTime s.mem ≤ (s.uptime - p.start).toNat) then
      (s.setChords { s.chords with press := some { p with longDone := true } }).longPress
    else s

/-- The forced hold at a hand-off (R113 step 4). -/
def State.checkForced (s : State) : State :=
  match s.chords.press with
  | none => s
  | some p =>
    if !p.forcedDone && decide (forcedHoldTime s.mem ≤ (s.uptime - p.start).toNat) then
      (s.setChords { s.chords with press := some { p with forcedDone := true } }).forcedHold p
    else s

/-- The unit with the supervisor state as it stood published before a change, whatever has been published since: each block
"sees the new state from its next event after the change" (R69). -/
def ChordUnit.seeing (c before : ChordUnit) : ChordUnit :=
  { c with
    published := before.published, publishedSub := before.publishedSub, progress := before.progress
    rearmAwaited := before.rearmAwaited, forcedOffTimer := before.forcedOffTimer, openExpiry := before.openExpiry }

/-- The publication of a change of the supervisor state, if there was one, taken at the end of the event it fell in (R69). -/
def ChordUnit.catchUp (c : ChordUnit) (now : Nat) (before after : Sup) : ChordUnit :=
  if before.state = after.state then c else c.takePublication now after.state after.sub

/-- The unit's work at a hand-off, one event: the chords in ascending order, then the power press (log 21). The press acts by
the state published before the hand-off; what a chord's order or the press itself made the supervisor publish is taken at
the end (R69, R114). -/
def State.takeHeld (s : State) (held : List (Fin 64 × KeyEntry)) : State :=
  let codes := held.map fun h => h.2.code.toNat
  let t := (indices 8).foldl (fun s n => s.matchChord codes n) s
  let u := ((t.setChords (t.chords.seeing s.chords)).powerRecord (held.any fun h => h.2.power)).checkLong.checkForced
  u.setChords ((u.chords.catchUp u.clock s.sup t.sup).catchUp u.clock t.sup u.sup)

/-- A hand-off of the held set. It rewrites the status entry when it "changed anything shown" (R120). -/
def State.handOff (s : State) (held : List (Fin 64 × KeyEntry)) : State :=
  let t := s.takeHeld held
  if t.chordEntry = s.chordEntry then t else t.publishChords

/-! ### The key lights (R117 to R119) -/

/-- What a position shows: a palette entry with a blink mode, or dark. -/
def State.lightChoice (s : State) (p : Fin 64) : Option (Nat × Blink) :=
  let testing := match s.chords.testEnds with
    | some t => decide (s.clock < t)
    | none => false
  let inRow := decide (p.val / 8 = progressRow s.mem)
  if testing then some (3, .steady)
  else if s.chords.published = .warming ∧ inRow then
    if p.val % 8 < litCount s.chords.progress then some (2, paletteBlink s.mem 2) else none
  else if s.chords.published = .held ∧ inHeldMask s.mem p then some (3, .fast)
  else some (lightIndex s.mem p, paletteBlink s.mem (lightIndex s.mem p))

/-- A blink mode is lit at this moment (R117). -/
def Blink.lit (b : Blink) (uptime : DWord) : Bool :=
  match b with
  | .steady => true
  | .slow => decide (uptime.toNat % 1000 < 500)
  | .fast => decide (uptime.toNat % 250 < 125)

/-- A position's brightness level (R117): dark until READY, then composed from what the tables hold at this moment. -/
def State.light (s : State) (p : Fin 64) : Nat :=
  if !s.isReady then 0
  else match s.lightChoice p with
    | none => 0
    | some (e, b) => if b.lit s.uptime then (clampInt (paletteLevel s.mem e + dimOffset s.mem) 0 63).toNat else 0

/-! ### The unit's commands and the scan -/

/-- KEYPAD_SCAN (R91): the first scan is made at READY and each schedules the next; before READY none falls. -/
def execKeypadScan (reading : BitVec 64) (s : State) : Outcome State Fault Refusal :=
  match s.keypad.nextScan with
  | none => .next s
  | some due =>
    let s := s.reachTime due
    let s := { s with keypad := { s.keypad with nextScan := some (due + scanPeriod s.mem * 1000) } }
    let s := s.scanKeys reading
    .next (s.handOff (heldSet s.keypad.keys))

/-- The forced-off timer has expired (R115): it stops, a forced shutdown order goes to the supervisor, and a POWER KEY report
carries the supervisor word published before. -/
def State.forcedOff (s : State) (word : DWord) : State :=
  let s := (s.setChords { s.chords with forcedOffTimer := none, openExpiry := none }).publishChords
  s.forcedShutdown.reportPower 4 word false 0

/-- FORCED_OFF_TIMER_EXPIRY (R115). With the timer stopped there is none, unless a publication of this very moment stopped it:
then the expiry was the first of the two, and the supervisor, "now in RESTARTING or SHUTTING", takes the order (log 51). -/
def execForcedOffTimerExpiry (s : State) : Outcome State Fault Refusal :=
  match s.chords.forcedOffTimer, s.chords.openExpiry with
  | some due, _ => .next ((s.reachTime due).forcedOff s.chords.supWord)
  | none, some x => .next (if s.clock ≤ x.moment then s.forcedOff x.word else s)
  | none, none => .next s

/-- LIGHT_TEST_END (R119). -/
def execLightTestEnd (s : State) : Outcome State Fault Refusal :=
  match s.chords.testEnds with
  | none => .next s
  | some due =>
    let s := s.reachTime due
    .next (s.setChords { s.chords with testEnds := none }).publishChords

/-- LIGHT_TABLE_WRITE (R117, R137): "The output holds no copy of the tables", so composing afresh (State.light) changes no
state. -/
def execLightTableWrite (s : State) : Outcome State Fault Refusal := .next (s.taking .lightTableWrite)

end Sys2Proof.Machine
end

