-- ==== Sys2Proof/Machine/Desk.lean ====
section
/-! DEFINITION. The desk controller: taking, checking, dispatching and answering requests (R143 to R147, R154). -/

namespace Sys2Proof.Machine

open Sys2Proof Host

/-- The address of a slot (12.3). -/
def slotBase (slot : Fin 8) : Nat := 0x0100 + 32 * slot.val

/-- The post toggle as the memory holds it. -/
def postToggle (m : Memory) (slot : Fin 8) : Byte := m.read (slotBase slot + 1)

/-- The request half as it stands in the memory (R144). -/
def requestAt (m : Memory) (slot : Fin 8) : Request :=
  let b := slotBase slot
  { kind := m.read b
    args := { w0 := m.read16 (b + 2), w1 := m.read16 (b + 4), w2 := m.read16 (b + 6), w3 := m.read16 (b + 8) }
    toggle := m.read (b + 1) }

/-- A slot's record changed. -/
def State.setSlot (s : State) (slot : Fin 8) (x : Slot) : State := { s with slots := put s.slots slot x }

/-- "A slot is posted while its post toggle differs from its answer toggle" (R143). -/
def State.posted (s : State) (slot : Fin 8) : Bool := decide (postToggle s.mem slot ≠ s.slots[slot].answerToggle)

/-- What a captured request comes to at the desk (R146): the kind names nothing, a check fails with a code, or it is sent
to its owner. -/
inductive Dispatch where
  | badKind
  | refused (code : AnswerCode)
  | sent (c : Instr)
deriving DecidableEq, Repr

/-- A checked argument word within its range, or BAD_ARGUMENT (R146). -/
def checked (ok : Bool) (c : Instr) : Dispatch := if ok then .sent c else .refused .badArgument

/-- The desk's checks of a request, in order, and the owner's request (R146, R149, 12.3). -/
def dispatchOf (slot : Fin 8) (r : Request) : Dispatch :=
  let a := r.args
  match r.kind.toNat with
  | 1 => .sent (.restartHost slot a.w0)
  | 2 => .sent (.shutDownHost slot a.w0 a.w1 a.w2)
  | 3 => .sent (.pauseHeartbeat slot a.w0)
  | 4 => checked (decide (a.w0.toNat < 16)) (.startSequence slot a.w0)
  | 5 =>
    if 3 < a.w0.toNat then .refused .badArgument
    else if a.w0 = 0#16 then .refused .wrongState
    else .sent (.stopChannel slot a.w0)
  | 6 => checked (decide (a.w0.toNat < 3 ∧ a.w1.toNat ≤ 1000)) (.climateOverride slot a.w0 a.w1 a.w2)
  | 7 => checked (decide (a.w0.toNat < 2 ∧ a.w1.toNat < 2)) (.fanSweep slot a.w0 a.w1)
  | 8 => .sent (.storeSettings slot)
  | 9 => .sent (.reloadSettings slot)
  | 10 => checked (decide (a.w0.toNat ≤ 6)) (.clearCounters slot a.w0)
  | 11 => checked (decide (a.w0.toNat ≤ 1)) (.freezeCounters slot a.w0)
  | 12 => checked (decide (a.w0.toNat ≤ 1)) (.flushReports slot a.w0)
  | 13 => checked (decide (a.w0.toNat ≤ 1)) (.keypadLock slot a.w0)
  | _ => .badKind

/-- The answer written for a taken request (R147): code, data and answer toggle as one update, the taken mark cleared, and
the DESK mark asked for. -/
def State.writeAnswer (s : State) (slot : Fin 8) (r : Request) (code : AnswerCode) (data : Words) : State :=
  (s.setSlot slot { taken := none, answerCode := some code, answerToggle := r.toggle, data := data }).mark .desk

/-- A slot taken from the memory's present contents and dispatched (R144, R146). A request the desk itself refuses is
answered in the same event; its captured toggle is the memory's, so it leaves the slot free. -/
def State.takeSlot (s : State) (slot : Fin 8) : State :=
  let r := requestAt s.mem slot
  let s := s.setSlot slot { s.slots[slot] with taken := some r }
  match dispatchOf slot r with
  | .badKind => s.send (.badKind slot)
  | .refused code => s.writeAnswer slot r code {}
  | .sent c => s.send c

/-- An outcome for a slot (R147): answered if taken, and taken anew if it is then posted. "An outcome for a slot that is
not taken does not arise" (R154) and changes nothing. -/
def State.takeOutcome (s : State) (slot : Fin 8) (code : AnswerCode) (data : Words) : State :=
  match s.slots[slot].taken with
  | none => s
  | some r =>
    let s := s.writeAnswer slot r code data
    if s.posted slot then s.takeSlot slot else s

/-- A delivery that touched a slot, with its post toggle before the write (R144, R145). -/
def State.deliverSlot (s : State) (slot : Fin 8) (before : Byte) : State :=
  if s.slots[slot].taken.isSome then
    if postToggle s.mem slot ≠ before then s.send (.deskOverpost slot) else s
  else if s.posted slot then s.takeSlot slot
  else s

/-- DESK_ANSWER (R147). -/
def execDeskAnswer (slot : Fin 8) (code : AnswerCode) (data : Words) (s : State) : Outcome State Fault Refusal :=
  .next ((s.taking (.deskAnswer slot code data)).takeOutcome slot code data)

/-- BAD_KIND (R146, R147): a posted request whose kind names nothing is answered BAD_KIND, every data word 0. -/
def execBadKind (slot : Fin 8) (s : State) : Outcome State Fault Refusal :=
  .next ((s.taking (.badKind slot)).takeOutcome slot .badKind {})

/-- DESK_OVERPOST (R145): "the desk overposts counter of the REPORTS-LINK group is incremented once for the slot, and
nothing else is done". -/
def execDeskOverpost (slot : Fin 8) (s : State) : Outcome State Fault Refusal :=
  .next ((s.taking (.deskOverpost slot)).count .deskOverposts)

end Sys2Proof.Machine
end

