-- ==== Sys2Proof/Machine/View.lean ====
section
/-! DEFINITION. What a READ sees at each address: the part-owned bytes as functions of the blocks' state, and the
host-writable bytes (R131, R135, R139, 12.2 to 12.9). -/

namespace Sys2Proof.Machine

open Sys2Proof Host

/-- The byte at an offset of a record, 0x00 where the record has none (R131, R168). -/
def byteOf (bytes : List Byte) (offset : Nat) : Byte := bytes.getD offset 0#8

/-- A number as one byte. -/
def numByte (n : Nat) : Byte := BitVec.ofNat 8 n

/-- Zero bytes. -/
def zeros (n : Nat) : List Byte := List.replicate n 0#8

/-! ### Header, desk, pool, counters, history -/

/-- The header (12.2, R139). The notice acknowledge "always holds 0" (R141). -/
def State.headerBytes (s : State) : List Byte :=
  bytes16 0x3260#16 ++ [numByte (partCode s.partState), s.notice.marks &&& 0x3F#8] ++ bytes32 s.uptime
    ++ [s.mem.read 8, 0#8, s.mem.read 10, s.mem.read 11, s.mem.read 12, s.mem.read 13, s.mem.read 14, s.mem.read 15]
    ++ bytes16 s.pool.newest ++ [numByte s.pool.order.length, if s.keypad.deskLock then 1#8 else 0#8]

/-- The four words of a slot's half. -/
def wordsBytes (w : Words) : List Byte := bytes16 w.w0 ++ bytes16 w.w1 ++ bytes16 w.w2 ++ bytes16 w.w3

/-- A desk slot (12.3). -/
def State.slotBytes (s : State) (slot : Fin 8) : List Byte :=
  let x := s.slots[slot]
  (List.range 10).map (fun i => s.mem.read (slotBase slot + i)) ++ zeros 6
    ++ [match x.answerCode with | some c => numByte (answerCode c) | none => 0#8, x.answerToggle] ++ wordsBytes x.data
    ++ zeros 6

/-- A report cell (12.4): an empty cell is all 0x00. -/
def State.cellBytes (s : State) (c : Fin 64) : List Byte :=
  match s.pool.cells[c] with
  | none => zeros 32
  | some x =>
    let r := x.report
    bytes16 x.shown ++ [numByte (kindCode r.kind), r.subkind, if r.urgent then 1#8 else 0#8, r.source, 0#8, 0#8]
      ++ bytes32 r.stamp ++ bytes32 r.payload.w0 ++ bytes32 r.payload.w1 ++ bytes32 r.payload.w2
      ++ bytes32 r.payload.w3 ++ zeros 4

/-- A counter position (12.9): positions 54 to 62 read 0, position 63 holds the frozen flag. -/
def State.counterBytes (s : State) (n : Nat) : List Byte :=
  if h : n < 54 then bytes32 (natWord s.counters.values[n])
  else if n = 63 then [if s.counters.frozen then 1#8 else 0#8, 0#8, 0#8, 0#8]
  else zeros 4

/-- A restart history entry (12.7). -/
def HistoryEntry.bytes (e : HistoryEntry) : List Byte :=
  bytes32 (natWord e.serial)
    ++ [numByte (causeCode e.cause), match e.rung with | some r => numByte r.val | none => 0xFF#8, numByte e.attempt,
        match e.stageReached with | some v => numByte v | none => 0xFF#8]
    ++ bytes16 ((supWordOf e.stateAt e.subAt).setWidth 16) ++ bytes32 e.stamp ++ bytes32 e.s0 ++ bytes32 e.s2 ++ zeros 8

/-- The restart history region by offset, oldest entry first (12.7). -/
def State.historyByte (s : State) (offset : Nat) : Byte :=
  if offset = 0xF0 then numByte s.sup.history.length
  else if 0xF0 < offset then 0#8
  else match s.sup.history[offset / 30]? with
    | some e => byteOf e.bytes (offset % 30)
    | none => 0#8

/-- A channel's status entry (12.6). -/
def Channel.bytes (c : Channel) : List Byte :=
  [numByte (chanCode c.state), numByte c.sequence.val, c.mask.setWidth 8, c.step, numByte c.repeatLeft,
    numByte (runsCode c.runs), numByte (starterCode c.starter), numByte (endedCode c.endedBy),
    numByte (faultCode c.fault), c.faultStep, 0#8, 0#8]

/-- The channel block (12.6). -/
def State.channelBlock (s : State) : List Byte := (indices 4).flatMap fun c => s.channels[c].bytes

/-! ### The status blocks' items, each as its bytes (R168, R169, R170; log 15) -/

/-- A one-byte item. -/
def item8 (n : Nat) : List Byte := [numByte n]

/-- A two-byte item. -/
def item16 (n : Nat) : List Byte := bytes16 (BitVec.ofNat 16 n)

/-- A four-byte item. -/
def item32 (n : Nat) : List Byte := bytes32 (natWord n)

/-- A signed two-byte item. -/
def itemInt (n : Int) : List Byte := bytes16 (BitVec.ofInt 16 n)

/-- A yes-or-no item. -/
def markItem (b : Bool) : List Byte := item8 (if b then 1 else 0)

/-- The whole number in which bit n stands for member n of a set. -/
def maskOf : List Bool → Nat
  | [] => 0
  | b :: t => (if b then 1 else 0) + 2 * maskOf t

/-- An item that is a set: "a mask in which bit n stands for member n" (R168), in a field of some bytes. -/
def setItem (size : Nat) (members : List Bool) : List Byte :=
  (List.range size).map fun i => numByte (maskOf members / 2 ^ (8 * i))

/-- An item that may be absent: "the part writes 0xFF in a one-byte field and 0xFFFF in a two-byte field" (R168). -/
def itemOr {α : Type} (size : Nat) (item : α → List Byte) (v : Option α) : List Byte :=
  match v with
  | some x => item x
  | none => List.replicate size 0xFF#8

/-- A running timer's remaining milliseconds, or the absence of a stopped one. -/
def timeItem (left : Option Nat) : List Byte := itemOr 4 item32 left

/-- A rung's mode (12.8.3). -/
def modeCode : RungMode → Nat
  | .direct => 0 | .rewarm => 1

/-- A restart's origin, in the order of R69. -/
def originCode : Origin → Nat
  | .ladder => 0 | .request => 1 | .chord => 2

/-- A shutdown target (12.3). -/
def targetCode : ShutTarget → Nat
  | .off => 0 | .heldByLadder => 1 | .heldByRequest => 1

/-- The store's operation state (R163), in the rule's order. -/
def storeCode : StoreOp → Nat
  | .idle => 0 | .storing _ _ _ _ => 1 | .reloading _ => 2

/-- The supervisor's timers, in the order of R69: stage deadline, heartbeat, grace, pause, settle, hold-off, halt delay, wake
and held-retry. -/
def Sup.timers (u : Sup) : List (Option Nat) :=
  [u.stageTimer, u.heartbeatTimer, u.graceTimer, u.pauseTimer, u.settleTimer, u.holdOffTimer, u.haltTimer, u.wakeTimer,
    u.heldRetryTimer]

/-- "The remaining time of each running timer" (R69): which timers run, as a set, and their times in its order. In no state a
run reaches do more than two run: the settle timer, and one that belongs to the state and substate alone (log 57). -/
def State.timerItems (s : State) : List (List Byte) :=
  let running := (s.sup.timers.filterMap id).map fun t => (t - s.clock) / 1000
  [setItem 2 (s.sup.timers.map Option.isSome), timeItem running[0]?, timeItem running[1]?]

/-- The supervisor block (R69, R163). -/
def State.supItems (s : State) : List (List Byte) :=
  let u := s.sup
  [bytes32 u.word, item8 u.bootStage] ++ s.timerItems ++ [item8 u.rung.val, item8 u.attempts, item8 u.ladder.rungCount]
    ++ u.ladder.limits.toList.map item8
    ++ [itemOr 1 (fun r => item8 r.rung.val) u.restart, itemOr 1 item8 ((u.restart.bind Restart.mode).map modeCode),
        itemOr 1 (fun r => item8 (originCode r.origin)) u.restart, itemOr 1 (fun x => item8 (targetCode x)) u.target,
        markItem u.reservation, itemOr 1 item8 u.stageReached, item32 u.serial, item32 s.nvNow.count,
        item8 (storeCode s.store)]

/-- Which of R12's five sources decided a demand, in the rule's order; an unused zone's has none (log 48). -/
def decidedItem : DecidedBy → List Byte
  | .law => item8 0 | .threshold => item8 1 | .failSafe => item8 2 | .boost => item8 3 | .override => item8 4
  | .unused => item8 0xFF

/-- A zone's entry of the zone block (R6, R30). -/
def ZoneShown.items (z : ZoneShown) : List (List Byte) :=
  [itemOr 2 itemInt z.setpoint, itemInt z.temperature, itemInt z.error, itemInt z.proportional, itemInt z.integrator,
    item16 z.demand, item16 z.lastGrant, item16 z.boost, itemOr 2 (fun o => item16 o.duty) z.override,
    itemOr 2 (fun o => item16 o.remaining) z.override, decidedItem z.decidedBy, item16 z.request, item16 z.grant,
    item16 z.duty]

/-- The zone block with the set of tripped zones (R31) and its budget part (R27, R33). -/
def State.zoneItems (s : State) : List (List Byte) :=
  let b := s.shown.budget
  s.shown.zones.toList.flatMap ZoneShown.items
    ++ [setItem 1 (s.shown.zones.toList.map ZoneShown.tripped), item16 b.supply, item16 b.reservation, item16 b.fanDraw,
        item16 b.available, markItem b.supplyLow, item16 b.remaining, markItem b.inEpisode, item8 b.shortRun, item8 b.clearRun]

/-- The gate block (R17, 1.5). That the soak remaining is absent while no soak runs is the model's choice (log 53). -/
def State.gateItems (s : State) : List (List Byte) :=
  let g := s.shown.gate
  [item8 (gateCode g.state), item16 g.sinceRearm, itemOr 2 item16 g.soakRemaining, markItem g.limitExpired,
    markItem g.zoneMet, markItem g.dewMet, item16 g.progress, itemInt g.dewPoint, itemOr 2 itemInt g.boardMargin,
    itemOr 2 itemInt g.glassMargin]

/-- The sensor block: "the state, the held value and the sampled mark" of each channel (R4), as its sensor word (R169). -/
def State.sensorItems (s : State) : List (List Byte) := s.sensors.toList.map fun c => bytes32 c.word

/-- An absent one-byte, two-byte and four-byte item (R168; log 15). -/
def absent8 : List Byte := [0xFF#8]
def absent16 : List Byte := [0xFF#8, 0xFF#8]
def absent32 : List Byte := [0xFF#8, 0xFF#8, 0xFF#8, 0xFF#8]

/-- The last sweep result (R47): mode, starter, result, worst point, deviation and the four measurements, each absent while
the fan has none. -/
def sweepRecordItems : Option SweepRecord → List (List Byte)
  | some r =>
    [item8 (match r.mode with | .test => 0 | .record => 1), item8 (starterCode (some r.starter)), item8 (sweepCode r.result),
      item8 r.worst, bytes32 (signedWord r.deviation), item16 r.measured[0], item16 r.measured[1], item16 r.measured[2],
      item16 r.measured[3]]
  | none => [absent8, absent8, absent8, absent8, absent32, absent16, absent16, absent16, absent16]

/-- The point in force, numbered from 1, and whether it settles (0) or measures (1); both absent in a sweep's spin-up and with
no sweep (R43; log 54). -/
def pointItems : Option Sweep → List (List Byte)
  | some w => match w.phase with
    | .spinningUp => [absent8, absent8]
    | .settling _ => [item8 (w.point.val + 1), item8 0]
    | .measuring _ => [item8 (w.point.val + 1), item8 1]
  | none => [absent8, absent8]

/-- The measurement of point k, absent until the point has ended: "the measurements taken so far" (R43). -/
def measurementItem (sweep : Option Sweep) (k : Fin 4) : List Byte :=
  match sweep with
  | some w => if k < w.point then item16 w.measured[k] else absent16
  | none => absent16

/-- A fan's entry of the fan block (2.8). -/
def FanShown.items (f : FanShown) : List (List Byte) :=
  let x := f.fan
  [bytes32 x.word, item16 x.demand, item16 (x.drivenDuty f.sweep), item8 x.lateTries, item16 x.restCount,
    markItem x.clogged, markItem x.sweepPending]
    ++ sweepRecordItems x.lastResult

/-- The fan block: the two fans' entries, and what the one sweep engine publishes (R43). -/
def State.fanItems (s : State) : List (List Byte) :=
  let sweep := (s.shown.fans.toList.filterMap FanShown.sweep).head?
  s.shown.fans.toList.flatMap FanShown.items ++ pointItems sweep
    ++ [measurementItem sweep 0, measurementItem sweep 1, measurementItem sweep 2, measurementItem sweep 3]

/-- The rail block (R49, R53): the rails commanded ON, the good and the watched ones as sets, and each line. -/
def State.railItems (s : State) : List (List Byte) :=
  [setItem 1 (s.rails.toList.map Rail.commanded), setItem 1 (s.rails.toList.map Rail.good),
    setItem 1 (s.rails.toList.map Rail.watched)]
    ++ [markItem s.lines.hrst, markItem s.lines.hpwr, markItem s.lines.pnl, markItem s.lines.aux]

/-! ### Lists that may outgrow their block (R93, R107, R130; log 15) -/

/-- A list of a block, such as that of the entries that have acted. The block has places for the items of n members as whole
bytes: `items` writes a member's, and absent ones where the list has no further member. A list of more members stands in
the same bytes, all of it, in the packed form of Config.statusPacked. -/
def listItems {α : Type} (which n : Nat) (items : Option α → List (List Byte)) (members : List α) : List (List Byte) :=
  let places := (List.range n).flatMap fun j => items members[j]?
  if members.length ≤ n then places
  else
    let all := members.flatMap fun x => items (some x)
    places.mapIdx fun i b => (List.range b.length).map (Config.statusPacked which all i)

/-- An entry that has acted: its number, its answer code, DONE for an accepted action, the channel of an accepted START SEQUENCE
and the uptime at which it acted (R130); each absent where no entry is left to show. -/
def outcomeItems : Option (Fin 32 × EntryOutcome) → List (List Byte)
  | some (e, o) =>
    [item8 e.val, item8 (answerCode (o.refusal.getD .done)), itemOr 1 (fun c => item8 c.val) o.channel, bytes32 o.stamp]
  | none => [absent8, absent8, absent8, absent32]

/-- The entries that have acted, in ascending number, each with its last outcome (R130). -/
def Sched.acted (d : Sched) : List (Fin 32 × EntryOutcome) := (indices 32).filterMap fun e => d.outcomes[e].map fun o => (e, o)

/-- The schedule block (R130): the tick part as last rewritten, and the outcomes of all entries that have acted; an entry
that is not among them shows no outcome. -/
def State.scheduleItems (s : State) : List (List Byte) :=
  let t := s.shown.ticks
  t.lengths.toList.map item32 ++ t.left.toList.map timeItem ++ listItems 0 4 outcomeItems s.sched.acted

/-- The states whose positions show a run's length and target (R93). -/
def KeyState.showsRun (st : KeyState) : Bool := decide (st = .pressing ∨ st = .releasing ∨ st = .stuck ∨ st = .blocked)

/-- A run's length so far and its target (R93, R107): 0 and absent with no run in progress, both absent where no position is
left to show (log 56). -/
def runItems : Option Key → List (List Byte)
  | some k => [item8 k.run, if k.run = 0 then absent8 else item8 k.target]
  | none => [absent8, absent8]

/-- A held position's latched code (R107), absent for a position that R106 leaves out of the held set (log 56). -/
def codeItems : Option Key → List (List Byte)
  | some k => [if k.used then item8 k.entry.code.toNat else absent8]
  | none => [absent8]

/-- The positions whose run and target the block shows (R93), in ascending order. -/
def Keypad.runKeys (k : Keypad) : List Key := k.keys.toList.filter fun x => x.state.showsRun

/-- The positions whose code the block shows (R107), in ascending order. -/
def Keypad.heldKeys (k : Keypad) : List Key := k.keys.toList.filter Key.held

/-- The keypad block (R107): the positions in each state but UP, and those held with the unreported mark, as sets (R168); the
items that stand once; and, in ascending order, the run and target of every position in PRESSING, RELEASING, STUCK and
BLOCKED and the code of every one in DOWN and RELEASING. The sets tell which positions these are. -/
def State.keypadItems (s : State) : List (List Byte) :=
  let k := s.keypad
  let keys := k.keys.toList
  [KeyState.pressing, .down, .releasing, .stuck, .blocked].map (fun st => setItem 8 (keys.map fun x => decide (x.state = st)))
    ++ [setItem 8 (keys.map fun x => x.held && x.used && x.unreported), item8 (heldCount k.keys), item8 k.stuckCount,
        markItem k.faultArmed, markItem k.coldMode, markItem k.deskLock, markItem k.policyRead, markItem k.lockedAtScan]
    ++ listItems 1 5 runItems k.runKeys ++ listItems 2 5 codeItems k.heldKeys

/-- The chord and light block (R120): the armed chords, those with a match in progress, and the press's three marks as sets. With
no light test running its remaining time is 0 (log 58). -/
def State.chordItems (s : State) : List (List Byte) :=
  let c := s.shown.chords
  [setItem 1 c.armed.toList, setItem 1 c.matching.toList, markItem c.press.isSome,
    itemOr 1 (fun p => setItem 1 [p.longDone, p.forcedDone, p.disarmed]) c.press, itemOr 4 bytes32 c.elapsedAtScan,
    timeItem c.forcedOffRemaining, item16 c.progress, item8 c.litCount, itemOr 1 (fun st => item8 (supCode st)) c.override,
    item16 (c.testRemaining.getD 0)]

/-- The items of status block k, numbered from 0 in R170's order; the channel block is laid out by 12.6. -/
def State.statusItems (s : State) (k : Nat) : List (List Byte) :=
  match k with
  | 0 => s.supItems
  | 1 => s.zoneItems
  | 2 => s.gateItems
  | 3 => s.sensorItems
  | 4 => s.fanItems
  | 5 => s.railItems
  | 7 => s.scheduleItems
  | 8 => s.keypadItems
  | 9 => s.chordItems
  | _ => []

/-! ### The status region (R131, R170; log 15) -/

/-- The bytes of block k at the least: all of its items, and for the channel block its 48 (12.6). -/
def statusRoom : Nat → Nat
  | 0 => 39 | 1 => 96 | 2 => 16 | 3 => 36 | 4 => 68 | 5 => 7 | 6 => 48 | 7 => 92 | 8 => 70 | 9 => 18
  | _ => 0

/-- The bytes that blocks k to 9 take at the least. -/
def statusLeast : Nat → Nat
  | 0 => 490 | 1 => 451 | 2 => 355 | 3 => 339 | 4 => 303 | 5 => 235 | 6 => 228 | 7 => 180 | 8 => 88 | 9 => 18
  | _ => 0

/-- The address of status block k, and of the end of the last at k = 10: the blocks follow one another in R170's order from
the directory's end on, within the region. -/
def statusBlock : Nat → Nat
  | 0 => min (0x0A14 + Config.statusSpace 0) (0x0C00 - statusLeast 0)
  | k + 1 => min (statusBlock k + max (statusRoom k) (Config.statusSpace (k + 1))) (0x0C00 - statusLeast (k + 1))

/-- The bytes of block k. -/
def statusSize (k : Nat) : Nat := statusBlock (k + 1) - statusBlock k

/-- Items of these lengths one after another from an offset on: where each begins. -/
def inOrder : Nat → List Nat → List Nat
  | _, [] => []
  | o, n :: t => o :: inOrder (o + n) t

/-- Each item lies whole within the room, and no two of them share a byte. -/
def placesWhole (start : Nat → Nat) (lengths : List Nat) (room : Nat) : Bool :=
  (List.range lengths.length).all fun i => decide (start i + lengths.getD i 0 ≤ room) &&
    (List.range i).all fun j =>
      decide (start j + lengths.getD j 0 ≤ start i) || decide (start i + lengths.getD i 0 ≤ start j)

/-- Where each of a block's items begins: as the free constant has it, unless that takes an item out of the block or puts two
into one place (R170; log 15). -/
def statusStarts (k : Nat) (lengths : List Nat) (room : Nat) : List Nat :=
  if placesWhole (Config.statusPlace k lengths) lengths room then (List.range lengths.length).map (Config.statusPlace k lengths)
  else inOrder 0 lengths

/-- The byte at an offset of a block: of the item that stands there, its bytes in rising order from the address at which it
begins (R168, 12); "bytes ... that belong to no word or field read 0x00" (R131). The channel block is laid out by 12.6. -/
def State.blockByte (s : State) (k offset : Nat) : Byte :=
  if k = 6 then byteOf s.channelBlock offset
  else
    let items := s.statusItems k
    let starts := statusStarts k (items.map List.length) (statusSize k)
    match (starts.zip items).find? fun x => decide (x.1 ≤ offset ∧ offset < x.1 + x.2.length) with
    | some x => byteOf x.2 (offset - x.1)
    | none => 0#8

/-- A byte of the status region: the directory and the blocks it names (R170). Before step 4 of start-up writes it, the region
reads 0x00 (R132). -/
def State.statusByteAt (s : State) (a : Nat) : Byte :=
  if !s.isReady then 0#8
  else if a < 0x0A14 then byteOf (bytes16 (BitVec.ofNat 16 (statusBlock ((a - 0x0A00) / 2)))) (a % 2)
  else
    match (List.range 10).find? fun k => decide (statusBlock k ≤ a ∧ a < statusBlock (k + 1)) with
    | some k => s.blockByte k (a - statusBlock k)
    | none => 0#8

/-! ### The whole memory -/

/-- The byte a READ snapshot finds at a link address below 0x4000 (R131, R135). The unassigned region "reads 0x00". -/
def State.readByte (s : State) (a : Nat) : Byte :=
  if a < 0x0100 then byteOf s.headerBytes a
  else if a < 0x0200 then byteOf (s.slotBytes ⟨(a - 0x0100) / 32 % 8, by omega⟩) (a % 32)
  else if a < 0x0A00 then byteOf (s.cellBytes ⟨(a - 0x0200) / 32 % 64, by omega⟩) (a % 32)
  else if a < 0x0C00 then s.statusByteAt a
  else if a < 0x0D00 then byteOf (s.counterBytes ((a - 0x0C00) / 4)) (a % 4)
  else if a < 0x0E00 then s.historyByte (a - 0x0D00)
  else if a < 0x1000 then 0#8
  else s.mem.read a

end Sys2Proof.Machine
end

