-- ==== Sys2Proof/Machine/Link.lean ====
section
/-! DEFINITION. The link port: transactions, ownership, closed writes and their deliveries, and the fence (R131, R133 to
R138). -/

namespace Sys2Proof.Machine

open Sys2Proof Host

/-! ### Ownership (R131) -/

/-- Who writes a byte: the host, the part, or the host as a collection of a cell alone. -/
inductive Ownership where
  | host
  | part
  | sequenceWord (cell : Fin 64)
deriving DecidableEq, Repr

/-- The header's host-writable bytes: notice enable, notice acknowledge, checkpoint, dim offset, heartbeat (12.2). -/
def headerHostByte (a : Nat) : Bool := decide (8 ≤ a ∧ a < 0x10)

/-- A byte's ownership (R131). -/
def ownership (a : Nat) : Ownership :=
  if a < 0x0100 then (if headerHostByte a then .host else .part)
  else if a < 0x0200 then (if a % 32 < 10 then .host else .part)
  else if a < 0x0A00 then
    (if a % 32 < 2 then .sequenceWord ⟨(a - 0x0200) / 32 % 64, by omega⟩ else .part)
  else if a < 0x1000 then .part
  else .host

/-! ### A closed write (R136) -/

/-- The first address of a cell's sequence word. -/
def cellBase (c : Fin 64) : Nat := 0x0200 + 32 * c.val

/-- The kept bytes of a WRITE, each with its address, wrapping from 0x3FFF to 0x0000 (R136). -/
def keptBytes (start : Nat) (data : List Byte) : List (Nat × Byte) :=
  (data.take 256).mapIdx fun i b => ((start + i) % 0x4000, b)

/-- The byte a transaction wrote at an address, if any. -/
def writtenAt (kept : List (Nat × Byte)) (a : Nat) : Option Byte := kept.lookup a

/-- "A sequence word of a report cell is a collection when both its bytes were written by this transaction and both are
0x00" (R136). -/
def collects (kept : List (Nat × Byte)) (c : Fin 64) : Bool :=
  decide (writtenAt kept (cellBase c) = some 0#8 ∧ writtenAt kept (cellBase c + 1) = some 0#8)

/-- A kept byte is applied (R136). -/
def applies (kept : List (Nat × Byte)) (a : Nat) : Bool :=
  match ownership a with
  | .host => true
  | .part => false
  | .sequenceWord c => collects kept c

/-- The transaction held a stray byte: a kept byte that is not applied, or a complete byte beyond the 256th (R136). -/
def isStray (kept : List (Nat × Byte)) (data : List Byte) : Bool :=
  decide (256 < data.length) || kept.any fun x => !applies kept x.1

/-- The address of the notice acknowledge, which is not stored (R141). -/
def acknowledgeAddr : Nat := 9

/-- The bytes of a write that the memory stores: the applied host-writable bytes but for the acknowledge. -/
def storedBytes (kept : List (Nat × Byte)) : List (Nat × Byte) :=
  kept.filter fun x => decide (ownership x.1 = .host) && decide (x.1 ≠ acknowledgeAddr)

/-- The applied bytes touch an address. -/
def touches (kept : List (Nat × Byte)) (a : Nat) : Bool := (writtenAt kept a).isSome && applies kept a

/-- The applied bytes touch one of n addresses from a on. -/
def touchesAny (kept : List (Nat × Byte)) (a n : Nat) : Bool := (List.range n).any fun i => touches kept (a + i)

/-- The value of a cell's sequence word as the memory shows it. -/
def Pool.shownWord (p : Pool) (c : Fin 64) : Word := match p.cells[c] with | some x => x.shown | none => 0#16

/-- The cells a write collects, each with its sequence word's value before (R157). -/
def collected (p : Pool) (kept : List (Nat × Byte)) : List (Fin 64 × Word) :=
  ((indices 64).filter (collects kept)).map fun c => (c, p.shownWord c)

/-- A collected cell's sequence word holds the host's zero from the write on. -/
def Pool.zeroShown (p : Pool) (kept : List (Nat × Byte)) : Pool :=
  { p with cells := Vector.ofFn fun c =>
      if collects kept c then p.cells[c].map fun x => { x with shown := 0 } else p.cells[c] }

/-- The applied bytes written together (R136). -/
def State.applyWrite (s : State) (kept : List (Nat × Byte)) : State :=
  { s with mem := s.mem.writeAll (storedBytes kept), pool := s.pool.zeroShown kept }

/-! ### Deliveries (R137) -/

/-- The delivery to the notice unit (R141). -/
def noticeDelivery (kept : List (Nat × Byte)) : List Instr :=
  match writtenAt kept 8, writtenAt kept acknowledgeAddr with
  | some e, a => [.noticeEnable e a]
  | none, some a => [.noticeAcknowledge a]
  | none, none => []

/-- The delivery of the checkpoint and heartbeat words to the supervisor, as the write left them (R75, R76). -/
def supervisorDelivery (kept : List (Nat × Byte)) (after : Memory) : List Instr :=
  let heartbeat := if touchesAny kept 0x0C 4 then some (after.read32 0x0C) else none
  match writtenAt kept 0x0A, heartbeat with
  | some v, h => [.checkpoint v h]
  | none, some h => [.heartbeatKick h]
  | none, none => []

/-- The delivery to the chord and light unit: dim offset, or the light map, palette and override masks from 0x1880 to
0x18D0 (12.8). -/
def lightDelivery (kept : List (Nat × Byte)) : List Instr :=
  if touches kept 0x0B || touchesAny kept 0x1880 0x51 then [.lightTableWrite] else []

/-- The delivery to the report pool: the cells collected, each with its sequence word's value before (R157). -/
def collectionDelivery (kept : List (Nat × Byte)) (pool : Pool) : List Instr :=
  match collected pool kept with
  | [] => []
  | cells => [.collection cells]

/-- The tick ladder's nine bytes. -/
def ladderOfMemory (m : Memory) : List Byte := (List.range ladderBytes).map fun i => m.read (0x1200 + i)

/-- The deliveries of the rail set and of the tick ladder, each with its value before and after (R72, R138, R122). -/
def settingsDelivery (kept : List (Nat × Byte)) (before after : Memory) : List Instr :=
  (if touches kept 0x10E0 then [.hostRailMaskEdit (before.read 0x10E0) (after.read 0x10E0)] else [])
    ++ (if touches kept 0x10E1 then [.linkRailEdit (before.read 0x10E1) (after.read 0x10E1)] else [])
    ++ (if touchesAny kept 0x1200 ladderBytes then [.tickLadderEdit (ladderOfMemory before) (ladderOfMemory after)]
        else [])

/-- The touched slots dealt with in ascending order, within the write's event (R144). -/
def State.deliverDesk (s : State) (kept : List (Nat × Byte)) (before : Memory) : State :=
  (indices 8).foldl (fun s slot =>
    if touchesAny kept (slotBase slot) 10 then s.deliverSlot slot (postToggle before slot) else s) s

/-- A WRITE closed (R136, R137). -/
def State.closeWrite (s : State) (start : Nat) (data : List Byte) : State :=
  let kept := keptBytes start data
  let before := s.mem
  let t := s.applyWrite kept
  let t := if isStray kept data then (t.mark .stray).count .strayWrites else t
  let t := t.sendAll (noticeDelivery kept ++ supervisorDelivery kept t.mem ++ lightDelivery kept
    ++ collectionDelivery kept s.pool ++ settingsDelivery kept before t.mem)
  t.deliverDesk kept before

/-! ### Transactions (R133 to R135) -/

/-- The start address from two address bytes, "taken modulo 0x4000" (R133). -/
def startAddress (hi lo : Byte) : Nat := (hi.toNat * 256 + lo.toNat) % 0x4000

/-- The 256 bytes a READ copies when its address is complete, wrapping from 0x3FFF to 0x0000 (R135). -/
def State.snapshotAt (s : State) (start : Nat) : List Byte :=
  (List.range 256).map fun i => s.readByte ((start + i) % 0x4000)

/-- The bytes shifted out while a WRITE's data come in, which the spec does not state (log 22). -/
def writeOut (n : Nat) : List Byte := (List.range n).map Config.writePhaseByte

/-- A falling edge (R133, R134): a port that is OPEN captures the status byte and begins a transaction; a FENCED one
disregards the edge (R138). -/
def State.selectFalls (s : State) : State :=
  { s with link := { s.link with transfer := if s.link.isOpen then some { status := s.statusByte } else none } }

/-- The port acts on a command before the rising edge (R133, R135): a READ whose two address bytes are complete takes its
snapshot, and an unknown command byte is counted. -/
def State.selectActs (s : State) (x : Transfer) (command : Byte) (inbound : List Byte) : State :=
  if command = 0xA1#8 then
    match inbound with
    | hi :: lo :: _ =>
      { s with link := { s.link with transfer := some { x with copy := s.snapshotAt (startAddress hi lo) } } }
    | _ => s
  else if command = 0xA0#8 ∨ command = 0xA2#8 then s
  else s.count .badCommands

/-- What the rising edge applies: the bytes of a WRITE whose address is complete (R133, R136). -/
def State.selectCloses (s : State) (command : Byte) (inbound : List Byte) : State :=
  if command = 0xA2#8 then
    match inbound with
    | hi :: lo :: data => s.closeWrite (startAddress hi lo) data
    | _ => s
  else s

/-- The bytes shifted out over a transaction: the status byte, 0x00 during the address bytes, and the data of a READ, 0x00
after the 256th (R133, R135). -/
def Transfer.shiftedOut (x : Transfer) (command : Byte) (inbound : List Byte) : List Byte :=
  let data := inbound.length - 2
  let rest :=
    if command = 0xA1#8 then zeros (min 2 inbound.length) ++ (List.range data).map fun i => x.copy.getD i 0#8
    else if command = 0xA2#8 then zeros (min 2 inbound.length) ++ writeOut data
    else zeros inbound.length
  x.status :: rest

/-- A rising edge (R133, R136, R138): with no transaction in progress the period is disregarded and the output floats; else
the transaction closes and is counted. -/
def State.selectRises (s : State) (command : Byte) (inbound : List Byte) : State :=
  match s.link.serving with
  | none => { s with link := { s.link with transfer := none, out := none } }
  | some x =>
    let t := (s.selectCloses command inbound).count .transactions
    { t with link := { t.link with transfer := none, out := some (x.shiftedOut command inbound) } }

/-- A moment of a chip select period (R133 to R138; log 18). `inbound` holds the complete bytes that have followed the
command byte by then. -/
def State.select (s : State) (cs : SelectEvent) (command : Byte) (inbound : List Byte) : State :=
  let s := s.elapse cs.us
  match cs.moment with
  | .falls => s.selectFalls
  | .acts => match s.link.serving with
    | some x => s.selectActs x command inbound
    | none => s
  | .rises => s.selectRises command inbound

/-- STATUS (R133, R134). -/
def execStatus (cs : SelectEvent) (inbound : List Byte) (s : State) : Outcome State Fault Refusal :=
  .next (s.select cs 0xA0#8 inbound)

/-- READ (R135). -/
def execRead (cs : SelectEvent) (inbound : List Byte) (s : State) : Outcome State Fault Refusal :=
  .next (s.select cs 0xA1#8 inbound)

/-- WRITE (R136, R137). -/
def execWrite (cs : SelectEvent) (inbound : List Byte) (s : State) : Outcome State Fault Refusal :=
  .next (s.select cs 0xA2#8 inbound)

/-- BAD_COMMAND (R133): a command byte that is none of the three is counted and the rest disregarded. -/
def execBadCommand (cs : SelectEvent) (command : Byte) (inbound : List Byte) (s : State) : Outcome State Fault Refusal :=
  .next (s.select cs command inbound)

/-- LINK_RAIL_EDIT (R138): a write that changed the setting makes the port evaluate the newly named rail. -/
def execLinkRailEdit (before after : Byte) (s : State) : Outcome State Fault Refusal :=
  let s := s.taking (.linkRailEdit before after)
  let r := railOf after.toNat
  if before = after then .next s
  else .next { s with link := s.link.evaluate r s.rails[r] }

end Sys2Proof.Machine
end

