-- ==== Sys2Proof/Machine/Rails.lean ====
section
/-! DEFINITION. Power-good changes and rail drops (R50, R51), with their delivery to waiting channels (R59), to the link
port (R52, R138) and to the supervisor (R80). -/

namespace Sys2Proof.Machine

open Sys2Proof Host

/-- A rail's record after a PG change (R50, R51): on a rail commanded ON a good level begins or keeps the watch and a fall
ends it; "In every other case the event changes the good state alone." -/
def Rail.takeLevel (r : Rail) (level : Bool) : Rail :=
  { r with good := level, watched := if r.commanded then level else r.watched }

/-- The PG change is a drop (R50). -/
def Rail.drops (r : Rail) (level : Bool) : Bool := r.commanded && r.watched && !level

/-- The busy channel whose captured mask holds a rail, as the RAIL DROP report carries it: 0xFF for none (R51, R169). -/
def State.channelOf (s : State) (r : Fin 6) : Nat :=
  match (indices 4).find? fun c => s.channels[c].busy && s.channels[c].mask.getLsbD r.val with
  | some c => c.val
  | none => 255

/-- A rail drop counted and reported (R51). -/
def State.reportDrop (s : State) (r : Fin 6) : State :=
  (s.count .railDrops).report .railDrop 0 true r.val
    { w0 := flagWord ((hostMask s.mem).getLsbD r.val), w1 := natWord (s.channelOf r), w2 := s.sup.word }

/-- The waiting channels in turn: one whose WAIT names this rail and level is satisfied and proceeds (R59). -/
def State.satisfyWaits (s : State) (r : Fin 6) (level : Bool) : State :=
  (indices 4).foldl (fun s c =>
    match s.channels[c].activity with
    | .wait rail good next _ => if rail = r ∧ good = level then s.proceed c next else s
    | _ => s) s

/-- A PG input's new level taken (R50, R51). -/
def State.takePg (s : State) (r : Fin 6) (level : Bool) : State :=
  let old := s.rails[r]
  let drops := old.drops level
  let s := { s with rails := put s.rails r (old.takeLevel level) }
  let s := if drops then s.reportDrop r else s
  let s := (s.deliverRail r).satisfyWaits r level
  if drops && (hostMask s.mem).getLsbD r.val then s.railDropCause r else s

/-- PG_CHANGE (R50): `us` after the event before, rail r's PG input takes a level, true for good. A level it already has is
no change. While RESET is held the part stays at step 1, which takes the level up to the release. -/
def execPgChange (us : Nat) (r : Fin 6) (level : Bool) (s : State) : Outcome State Fault Refusal :=
  let s := s.elapse us
  if s.rails[r].good = level then .next s else .next (s.takePg r level)

end Sys2Proof.Machine
end

