-- ==== Sys2Proof/Machine/Sensors.lean ====
section
/-! DEFINITION. The sensor front end (R1 to R4) and the S4 hand-off to the keypad scanner (R94). -/

namespace Sys2Proof.Machine

open Sys2Proof Host

/-- A sample's value when it is valid (R1): -880 to +2000 for a temperature, 0 to 100 for humidity; `none` is a sample
the converter could not complete. -/
def validSample (ch : Fin 9) (raw : Option Int) : Option Int :=
  raw.bind fun v =>
    if ch = 8 then (if 0 ≤ v ∧ v ≤ 100 then some v else none)
    else if -880 ≤ v ∧ v ≤ 2000 then some v else none

/-- An invalid sample (R2). -/
def Sensor.takeInvalid (c : Sensor) : Sensor :=
  let run := min (c.invalidRun + 1) 40
  let state := match c.state with
    | .ok => if 4 ≤ run then Validity.holding else .ok
    | .holding => if 40 ≤ run then .failed else .holding
    | .failed => .failed
  { c with state := state, invalidRun := run, validRun := 0 }

/-- A valid sample (R3): published in OK at once, in HOLDING and FAILED when the valid run reaches 8. -/
def Sensor.takeValid (c : Sensor) (v : Int) : Sensor :=
  let run := min (c.validRun + 1) 8
  if c.state = .ok ∨ run = 8 then { c with state := .ok, held := v, sampled := true, validRun := run, invalidRun := 0 }
  else { c with validRun := run, invalidRun := 0 }

/-- A channel after a sample. -/
def Sensor.takeSample (c : Sensor) (ch : Fin 9) (raw : Option Int) : Sensor :=
  match validSample ch raw with
  | some v => c.takeValid v
  | none => c.takeInvalid

/-- The reports a sample's change of state posts: FAILED counted and reported (R2), RESTORED from FAILED (R3). -/
def State.reportSensor (s : State) (ch : Fin 9) (old new : Sensor) : State :=
  if old.state ≠ .failed ∧ new.state = .failed then
    (s.count (.sensorFailures ch)).report .zoneSensor 1 true ch.val { w0 := new.word }
  else if old.state = .failed ∧ new.state = .ok then s.report .zoneSensor 2 true ch.val { w0 := new.word }
  else s

/-- SENSOR_SAMPLE (R1 to R4): the sample of one channel at its sample instant; before READY none falls. After an S4
sample the front end hands S4 on to the keypad scanner (R94). -/
def execSensorSample (ch : Fin 9) (raw : Option Int) (s : State) : Outcome State Fault Refusal :=
  match s.sensors[ch].nextSample with
  | none => .next s
  | some due =>
    let s := s.reachTime due
    let old := s.sensors[ch]
    let new := { old.takeSample ch raw with nextSample := some (due + Config.samplePeriod) }
    let s := { s with sensors := put s.sensors ch new }
    let s := s.reportSensor ch old new
    .next (if ch = 4 then s.send (.s4ColdModeUpdate new.state new.held new.sampled) else s)

/-- Cold mode after the event of R94's table. -/
def coldModeAfter (cold : Bool) (threshold : Int) (state : Validity) (held : Int) (sampled : Bool) : Bool :=
  if state = .failed ∨ !sampled then cold
  else if held < threshold then true
  else if threshold + 32 ≤ held then false
  else cold

/-- S4_COLD_MODE_UPDATE (R94), with the cold threshold read at this event. -/
def execS4ColdModeUpdate (state : Validity) (held : Int) (sampled : Bool) (s : State) : Outcome State Fault Refusal :=
  let s := s.taking (.s4ColdModeUpdate state held sampled)
  let cold := coldModeAfter s.keypad.coldMode (coldThreshold s.mem) state held sampled
  .next { s with keypad := { s.keypad with coldMode := cold } }

end Sys2Proof.Machine
end

