-- ==== Sys2Proof/Machine/Factory.lean ====
section
/-! DEFINITION. The factory defaults (R164, 11.5), field by field from the chapters 11.5 names, laid out by 12.8. -/

namespace Sys2Proof.Machine

open Sys2Proof

/-- A two-byte field. -/
def f16 (v : Int) : List Byte := bytes16 (BitVec.ofInt 16 v)

/-- A one-byte field. -/
def f8 (n : Nat) : Byte := BitVec.ofNat 8 n

/-- The factory zone records (1.2.1). -/
def factoryZones : List (Nat × List Byte) := [
  (0x1000, [2, 0xFF] ++ f16 160 ++ f16 0 ++ f16 (-400) ++ f16 1440 ++ f16 300 ++ f16 400 ++ [8, 60, 32, 0, 1, 30]),
  (0x1020, [1, 6] ++ f16 160 ++ f16 0 ++ f16 (-400) ++ f16 1440 ++ f16 300 ++ f16 300 ++ [16, 40, 16, 1, 1, 30]),
  (0x1040, [0, 5] ++ f16 80 ++ f16 0 ++ f16 (-160) ++ f16 1440 ++ f16 500 ++ f16 600 ++ [0, 50, 16, 2, 0, 30])]

/-- A factory fan record (2.1): references all 0. F0's stir duty belongs to no fan and is 0. -/
def factoryFan (stir : Int) : List Byte :=
  f16 48 ++ f16 560 ++ f16 50 ++ f16 300 ++ f16 stir ++ f16 150 ++ f16 120 ++ [3, 0] ++ f16 600 ++ f16 80 ++ f16 120

/-- A factory sequence head: run count 1, no then-sequence (3.5). -/
def factoryHead (first mask : Byte) : List Byte := [first, mask, 1, 0xFF, 0, 0, 0, 0]

/-- The factory sequence heads (3.5). -/
def factoryHeads : List Byte :=
  factoryHead 1 0x0F ++ factoryHead 12 0x0F ++ factoryHead 19 0 ++ factoryHead 12 0x0F ++ factoryHead 12 0x0F
    ++ (List.replicate 11 (factoryHead 0 0)).flatten

/-- The factory supervisor profile (4.1). -/
def factoryProfile : List Byte :=
  [1, 0, 1, 3] ++ (List.replicate 16 (f16 300)).flatten ++ f16 30 ++ f16 15 ++ f16 30 ++ f16 240 ++ f16 60 ++ [0, 0]
    ++ [2, 0, 2, 0] ++ f16 0 ++ [3, 1, 2, 0] ++ f16 10 ++ [4, 1, 1, 0] ++ f16 300
    ++ (List.replicate 3 ([0, 0, 1, 0] ++ f16 0)).flatten

/-- An ACTION step of the factory table, repeat 1. -/
def factoryAction (next operation target : Byte) : List Byte := [1, next, operation, target, 1, 0, 0, 0]

/-- A DELAY step. -/
def factoryDelay (next : Byte) (ms : Int) : List Byte := [2, next] ++ f16 ms ++ [0, 0, 0, 0]

/-- A WAIT step. -/
def factoryWait (next rail polarity : Byte) (ms : Int) : List Byte := [3, next, rail, polarity] ++ f16 ms ++ [0, 0]

/-- The factory steps 1 to 21 (3.5). -/
def factorySteps : List Byte :=
  factoryAction 2 1 0 ++ factoryWait 3 0 1 200 ++ factoryAction 4 1 1 ++ factoryWait 5 1 1 200
    ++ factoryAction 6 1 2 ++ factoryAction 7 1 3 ++ factoryDelay 8 50 ++ factoryWait 9 2 1 200
    ++ factoryWait 10 3 1 200 ++ factoryAction 11 3 2 ++ factoryAction 0 4 0
    ++ factoryAction 13 3 0 ++ factoryAction 14 4 2 ++ factoryAction 15 2 3 ++ factoryAction 16 2 2
    ++ factoryAction 17 2 1 ++ factoryAction 18 2 0 ++ factoryWait 0 0 0 1000
    ++ factoryAction 20 3 0 ++ factoryDelay 21 100 ++ factoryAction 0 4 0

/-- Every factory table with its address, addresses rising; "Settings bytes that belong to no field are 0x00" (11.5). -/
def factoryTables : List (Nat × List Byte) :=
  factoryZones ++ [
  (0x1060, f16 32 ++ [30] ++ f16 120 ++ [90, 0]),
  (0x1080, f16 1200 ++ f16 450),
  (0x10A0, factoryFan 0),
  (0x10C0, factoryFan 400),
  (0x10E0, [0x0F, 1]),
  (0x1100, factoryHeads),
  (0x1180, factoryProfile),
  (0x1200, f16 10 ++ [10, 10, 10, 6, 10, 6, 24]),
  (0x1210, (List.replicate 32 ([0, 0, 1, 0, 3, 0] ++ f16 0)).flatten),
  (0x1408, factorySteps),
  (0x18C0, [0, 0, 24, 0, 48, 0, 63, 0]),
  (0x18C8, [7, 0, 0, 0, 0, 0, 0, 0, 0xFF]),
  (0x1900, (List.replicate 8 ([0, 0, 0, 30, 8, 0] ++ f16 0)).flatten),
  (0x1940, f16 20 ++ f16 80),
  (0x1980, [5, 3, 4, 20] ++ f16 (-160) ++ [50, 10, 1]),
  (0x19A0, [30, 4, 20, 1])]

/-- The cells of a run of bytes: those that are not 0x00. -/
def cellsFrom : Nat → List Byte → Memory
  | _, [] => []
  | a, b :: t => if b = 0#8 then cellsFrom (a + 1) t else (a, b) :: cellsFrom (a + 1) t

/-- The factory image. -/
def factoryImage : Memory := factoryTables.flatMap fun t => cellsFrom t.1 t.2

end Sys2Proof.Machine
end

