-- ==== Sys2Proof/Machine/Counters.lean ====
section
/-! DEFINITION. The counter unit (R162) and the desk requests it owns (R153). -/

namespace Sys2Proof.Machine

open Sys2Proof Host

/-- "The increment adds one to the counter, unless the counter already holds 4,294,967,295"; while the frozen flag is
set "the increment is disregarded" (R162). -/
def Counters.bump (u : Counters) (c : Counter) : Counters :=
  if u.frozen then u else { u with values := upd u.values (counterPosition c) fun n => satSucc n Config.top32 }

/-- Every counter of a group set to 0, frozen or not (R153, R162). -/
def Counters.clear (u : Counters) (group : Nat) : Counters :=
  { u with values := Vector.ofFn fun i =>
      if (groupSpan group).1 ≤ i.val ∧ i.val < (groupSpan group).1 + (groupSpan group).2 then 0 else u.values[i] }

/-- COUNTER_INCREMENT (R162). -/
def execCounterIncrement (c : Counter) (s : State) : Outcome State Fault Refusal :=
  let s := s.taking (.counterIncrement c)
  .next { s with counters := s.counters.bump c }

/-- CLEAR_COUNTERS (R153): word 0 names the group (12.3), which the desk has checked (R146). -/
def execClearCounters (slot : Fin 8) (group : Word) (s : State) : Outcome State Fault Refusal :=
  let s := s.taking (.clearCounters slot group)
  if 6 < group.toNat then .next (s.answer slot .badArgument)
  else .next ({ s with counters := s.counters.clear group.toNat }.answer slot .done)

/-- FREEZE_COUNTERS (R153): data word 0 is the frozen flag as it now stands. -/
def execFreezeCounters (slot : Fin 8) (on : Word) (s : State) : Outcome State Fault Refusal :=
  let s := s.taking (.freezeCounters slot on)
  if 1 < on.toNat then .next (s.answer slot .badArgument)
  else
    .next ({ s with counters := { s.counters with frozen := decide (on = 1#16) } }.answer slot .done
      { w0 := if on = 1#16 then 1 else 0 })

end Sys2Proof.Machine
end

