-- ==== Sys2Proof/Machine/Notice.lean ====
section
/-! DEFINITION. The notice unit (R140, R141). The NOTICE line is State.noticeLine (R142), so it follows at once. -/

namespace Sys2Proof.Machine

open Sys2Proof Host

/-- "A request to set a mark is an event at the notice unit, and it sets the mark" (R140). -/
def Notice.set (n : Notice) (m : Mark) : Notice := { n with marks := n.marks ||| markBit m }

/-- "Each mark named in the written byte is cleared" (R141). -/
def Notice.acknowledge (n : Notice) (a : Byte) : Notice := { n with marks := n.marks &&& ~~~a }

/-- NOTICE_MARK_SET (R140). -/
def execNoticeMarkSet (m : Mark) (s : State) : Outcome State Fault Refusal :=
  let s := s.taking (.noticeMarkSet m)
  .next { s with notice := s.notice.set m }

/-- NOTICE_ENABLE (R141): the enable byte is taken as the write left it; a write that touched the acknowledge too is
taken in the same event. -/
def execNoticeEnable (enable : Byte) (acknowledge : Option Byte) (s : State) : Outcome State Fault Refusal :=
  let s := s.taking (.noticeEnable enable acknowledge)
  let n := { s.notice with enable := enable }
  .next { s with notice := match acknowledge with | some a => n.acknowledge a | none => n }

/-- NOTICE_ACKNOWLEDGE (R141). -/
def execNoticeAcknowledge (acknowledge : Byte) (s : State) : Outcome State Fault Refusal :=
  let s := s.taking (.noticeAcknowledge acknowledge)
  .next { s with notice := s.notice.acknowledge acknowledge }

end Sys2Proof.Machine
end

