-- ==== Sys2Proof/Machine/Pool.lean ====
section
/-! DEFINITION. The report pool (R155 to R161). -/

namespace Sys2Proof.Machine

open Sys2Proof Host

/-! ### Cells and order -/

/-- Cell c is empty. -/
def Pool.isEmpty (p : Pool) (c : Fin 64) : Bool := p.cells[c].isNone

/-- Cell c holds a NORMAL report. -/
def Pool.holdsNormal (p : Pool) (c : Fin 64) : Bool :=
  match p.cells[c] with
  | some x => !x.report.urgent
  | none => false

/-- The lowest-numbered empty cell (R156). -/
def Pool.lowestEmpty (p : Pool) : Option (Fin 64) := (indices 64).find? p.isEmpty

/-- The cell whose report carries a number. -/
def Pool.cellOf (p : Pool) (n : Word) : Option (Fin 64) :=
  p.order.find? fun c => match p.cells[c] with
    | some x => decide (x.number = n)
    | none => false

/-- The oldest NORMAL report in the posting order. -/
def Pool.oldestNormal (p : Pool) : Option (Fin 64) := p.order.find? p.holdsNormal

/-- "The timer is stopped whenever the pool becomes empty" (R161). -/
def Pool.stopIfEmpty (p : Pool) : Pool := if p.order.isEmpty then { p with coalesceTimer := none } else p

/-- A cell reclaimed, or emptied by a collection: its 32 bytes to 0x00, out of the posting order (R155, R157). -/
def Pool.reclaim (p : Pool) (c : Fin 64) : Pool :=
  { p with cells := put p.cells c none, order := p.order.filter fun x => decide (x ≠ c) }.stopIfEmpty

/-- Cells reclaimed in order. -/
def Pool.reclaimAll : Pool → List (Fin 64) → Pool
  | p, [] => p
  | p, c :: t => Pool.reclaimAll (p.reclaim c) t

/-- The pool as State holds it, changed. -/
def State.setPool (s : State) (p : Pool) : State := { s with pool := p }

/-! ### Posting (R156) -/

/-- "If no cell is empty, the report is NORMAL, and every filled cell holds an URGENT report, the report is dropped." -/
def Pool.drops (p : Pool) (r : Posting) : Bool := p.lowestEmpty.isNone && !r.urgent && p.oldestNormal.isNone

/-- The generator moves on by one, from 65535 to 1. -/
def nextNumber (n : Word) : Word := if n = 65535#16 then 1#16 else n + 1

/-- Step 3: a report that still carries the issued number is reclaimed and the collision counted. -/
def State.postCollide (s : State) (n : Word) : State :=
  match s.pool.cellOf n with
  | some c => (s.setPool (s.pool.reclaim c)).count .sequenceCollisions
  | none => s

/-- The report displaced when no cell is empty: the oldest NORMAL report, or, for an URGENT report, the oldest of all. -/
def Pool.victim (p : Pool) (r : Posting) : Option (Fin 64) :=
  match p.oldestNormal with
  | some c => some c
  | none => if r.urgent then p.order.head? else none

/-- Step 4: the cell the report takes, after the report displaced, if any, is reclaimed and counted. -/
def State.postPlace (s : State) (r : Posting) : State × Option (Fin 64) :=
  match s.pool.lowestEmpty with
  | some c => (s, some c)
  | none =>
    match s.pool.victim r with
    | some c => ((s.setPool (s.pool.reclaim c)).count .overwritten, some c)
    | none => (s, none)

/-- Step 5: the cell is written and joins the end of the posting order with its age mark clear; a posting into a pool
that holds no report starts the coalesce timer (R161). A pool whose only report step 3 has just reclaimed holds none, so
the timer is stopped and started afresh (log 49). -/
def State.postWrite (s : State) (r : Posting) (n : Word) (c : Fin 64) : State :=
  let p := s.pool
  let timer := if p.order.isEmpty then some (s.inMs (coalesceTime s.mem)) else p.coalesceTimer
  (s.setPool { p with
    cells := put p.cells c (some { report := r, number := n, shown := n, aged := false })
    order := p.order ++ [c]
    coalesceTimer := timer }).count .reportsPosted

/-- Step 6: the marks of R160 and R161. -/
def State.postMarks (s : State) (r : Posting) : State :=
  let s := if r.urgent then s.mark .urgent else s
  if noticeThreshold s.mem ≤ s.pool.order.length then s.mark .reports else s

/-- A posting, decided by the pool as it stands (R156). -/
def State.post (s : State) (r : Posting) : State :=
  if s.pool.drops r then s.count .dropped
  else
    let n := s.pool.generator
    let s := s.setPool { s.pool with generator := nextNumber n, newest := n }
    let s := s.postCollide n
    match s.postPlace r with
    | (s, some c) => (s.postWrite r n c).postMarks r
    | (s, none) => s

/-- REPORT_POSTING (R156). -/
def execReportPosting (report : Posting) (s : State) : Outcome State Fault Refusal :=
  .next ((s.taking (.reportPosting report)).post report)

/-! ### Collection, aging, flushes -/

/-- One collected cell, with the sequence word's value before the write (R157). -/
def Pool.collect (p : Pool) (c : Fin 64) (before : Word) : Pool :=
  match p.cells[c] with
  | none => p
  | some x =>
    if before = x.number then p.reclaim c
    else if before = 0#16 then (if x.shown = 0#16 then p.reclaim c else p)
    else { p with cells := put p.cells c (some { x with shown := 0 }) }

/-- The cells of one delivery, in order. -/
def Pool.collectAll : Pool → List (Fin 64 × Word) → Pool
  | p, [] => p
  | p, (c, w) :: t => Pool.collectAll (p.collect c w) t

/-- COLLECTION (R157). -/
def execCollection (cells : List (Fin 64 × Word)) (s : State) : Outcome State Fault Refusal :=
  let s := s.taking (.collection cells)
  .next (s.setPool (s.pool.collectAll cells))

/-- Cell c's age mark is set. -/
def Pool.isAged (p : Pool) (c : Fin 64) : Bool :=
  match p.cells[c] with
  | some x => x.aged
  | none => false

/-- Every filled cell's age mark set. -/
def Pool.markAll (p : Pool) : Pool :=
  { p with cells := Vector.ofFn fun c => p.cells[c].map fun x => { x with aged := true } }

/-- AGE_TICK (R158). The timer runs from READY; with it stopped no tick falls. -/
def execAgeTick (s : State) : Outcome State Fault Refusal :=
  match s.pool.ageTimer with
  | none => .next s
  | some due =>
    let s := s.reachTime due
    let old := s.pool.order.filter s.pool.isAged
    let p := (s.pool.reclaimAll old).markAll
    let s := s.setPool { p with ageTimer := some (s.inMs (agePeriod s.mem * 1000)) }
    .next (s.sendAll (old.map fun _ => .counterIncrement .aged))

/-- The cells a flush reclaims: every NORMAL report, or every report (R159). -/
def Pool.flushed (p : Pool) (all : Bool) : List (Fin 64) := if all then p.order else p.order.filter p.holdsNormal

/-- A flush (R159). -/
def Pool.flush (p : Pool) (all : Bool) : Pool := p.reclaimAll (p.flushed all)

/-- FLUSH_REPORTS (R153, R159): word 0 is the class (12.3); data word 0 is the number flushed. -/
def execFlushReports (slot : Fin 8) (cls : Word) (s : State) : Outcome State Fault Refusal :=
  let s := s.taking (.flushReports slot cls)
  if 1 < cls.toNat then .next (s.answer slot .badArgument)
  else
    let all := decide (cls = 1#16)
    .next ((s.setPool (s.pool.flush all)).answer slot .done { w0 := BitVec.ofNat 16 (s.pool.flushed all).length })

/-- RESTART_FLUSH (R159): the restart flush policy is read at this moment. -/
def execRestartFlush (s : State) : Outcome State Fault Refusal :=
  let s := s.taking .restartFlush
  .next (if flushesNormal s.mem then s.setPool (s.pool.flush false) else s)

/-- COALESCE_TIMER_EXPIRY (R161). -/
def execCoalesceTimerExpiry (s : State) : Outcome State Fault Refusal :=
  match s.pool.coalesceTimer with
  | none => .next s
  | some due =>
    let s := s.reachTime due
    let again := if s.pool.order.isEmpty then none else some (s.inMs (coalesceTime s.mem))
    .next ((s.setPool { s.pool with coalesceTimer := again }).mark .reports)

end Sys2Proof.Machine
end

