-- ==== Sys2Proof/Machine/Schedule.lean ====
section
/-! DEFINITION. The schedule: tick phases, entries, reloads, actions and snapshots (R121 to R130). -/

namespace Sys2Proof.Machine

open Sys2Proof Host

/-! ### Tick phases (R121, R122) -/

/-- The tick part of the schedule status entry rewritten, "at each phase restart and at each advance" (R130). -/
def State.publishTicks (s : State) : State :=
  { s with shown := { s.shown with ticks :=
    { lengths := s.sched.lengths, left := Vector.ofFn fun k => s.msLeft s.sched.nextAdvance[k] } } }

/-- A phase restart: the lengths recomputed and the phase origin set to this moment (R122). -/
def State.phaseRestart (s : State) : State :=
  let lengths : Vector Nat 8 := Vector.ofFn fun k => tickLength s.mem k.val
  { s with sched := { s.sched with
    lengths := lengths
    nextAdvance := Vector.ofFn fun k => some (s.inMs lengths[k]) } }.publishTicks

/-! ### Actions (R127, R128) -/

/-- A zone's word of a HEAT snapshot (R169). -/
def Zone.heatWord (z : Zone) : DWord := natWord (z.lastDemand + z.lastGrant * 65536)

/-- The payload of each of a SNAPSHOT's four reports, by its subkind (R128, R169). -/
def State.snapshotPayload (s : State) (subkind : Nat) : Payload :=
  let w (ch : Fin 9) : DWord := s.sensors[ch].word
  match subkind with
  | 1 => { w0 := w 0, w1 := w 1, w2 := w 2, w3 := w 3 }
  | 2 => { w0 := w 4, w1 := w 5, w2 := w 6, w3 := w 7 }
  | 3 =>
    { w0 := w 8, w1 := s.zones[(0 : Fin 3)].heatWord, w2 := s.zones[(1 : Fin 3)].heatWord
      w3 := s.zones[(2 : Fin 3)].heatWord }
  | _ =>
    { w0 := s.fans[(0 : Fin 2)].word, w1 := s.fans[(1 : Fin 2)].word, w2 := s.sup.word
      w3 := natWord (gateCode s.gate.state) }

/-- A report of a SNAPSHOT as it stands when the snapshot is taken (R128). -/
def State.snapshotPosting (s : State) (e : Fin 32) (subkind : Nat) : Posting :=
  { kind := .snapshot, subkind := BitVec.ofNat 8 subkind, urgent := false, stamp := s.uptime
    source := BitVec.ofNat 8 e.val, payload := s.snapshotPayload subkind }

/-- The four reports of a SNAPSHOT, one request to the pool, which answers at once (R127): they are posted in order within
the entry's event, so that their numbers are consecutive (R128). -/
def State.snapshot (s : State) (e : Fin 32) : State :=
  [1, 2, 3, 4].foldl (fun t subkind => t.post (s.snapshotPosting e subkind)) s

/-- An entry's action sent to its owner, which answers at once: a refusal, and the channel of a start (R127). -/
def State.entrySend (s : State) (e : Fin 32) : State × Option AnswerCode × Option (Fin 4) :=
  let argument := entryArgument s.mem e
  match entryAction s.mem e with
  | 1 =>
    let r := s.startSequence (headOf argument) .schedule
    match r.2 with
    | .ok c => (r.1, none, some c)
    | .error code => (r.1, some code, none)
  | 2 =>
    let r := s.startSweep ⟨min argument 1, by omega⟩ .test .schedule none
    (r.1, r.2, none)
  | 3 => (s.snapshot e, none, none)
  | 4 =>
    let r := s.takeBoost (boostTargetOf argument) (entrySeconds s.mem e)
    (r.1, r.2, none)
  | _ => (s, some .badKind, none)

/-- An entry acts: a refused action is counted as a skip, and the outcome is shown (R127, R130). -/
def State.entryAct (s : State) (e : Fin 32) : State :=
  let r := s.entrySend e
  let o : EntryOutcome := { refusal := r.2.1, channel := r.2.2, stamp := s.uptime }
  let s := if r.2.1.isSome then r.1.count .scheduleSkips else r.1
  { s with sched := { s.sched with outcomes := put s.sched.outcomes e (some o) } }

/-! ### Counting and reloading (R123 to R126) -/

/-- The least reload of a jitter mode, "A range whose lower bound works out to 0 uses 1 in its place" (R125). -/
def reloadFloor (mode period : Nat) : Nat :=
  max 1 (match mode with
    | 0 => period
    | 1 => 3 * period / 4
    | 2 => period / 2
    | _ => 1)

/-- A draw from the range of R125 by the generator's value. -/
def reloadFrom (mode period draw : Nat) : Nat :=
  reloadFloor mode period + draw % (period - reloadFloor mode period + 1)

/-- A live countdown or a period written by the part (R124, R126): one byte of the settings region. -/
def State.writeEntry (s : State) (e : Fin 32) (offset v : Nat) : State :=
  { s with mem := s.mem.write (entryBase e + offset) (BitVec.ofNat 8 v) }

/-- The reload of a periodic entry that has acted (R125), with the generator's next number (log 3). -/
def State.reloadEntry (s : State) (e : Fin 32) : State :=
  let g := s.sched
  let v := reloadFrom (entryJitter s.mem e) (entryPeriod s.mem e) (Config.jitterDraw g.genSeed g.genCount)
  { s with sched := { g with genCount := g.genCount + 1 } }.writeEntry e 2 v

/-- One entry at an advance of tick k (R123, R124, R126). -/
def State.takeEntry (k : Fin 8) (s : State) (e : Fin 32) : State :=
  if entryTick s.mem e ≠ k.val then s
  else
    let period := entryPeriod s.mem e
    if period = 0 then s
    else if period = 255 then (s.entryAct e).writeEntry e 1 0
    else
      let n := entryCountdown s.mem e - 1
      if 0 < n then s.writeEntry e 2 n else (s.entryAct e).reloadEntry e

/-- TICK_ADVANCE (R124): the entries that count this tick, in ascending number; before READY no tick advances. -/
def execTickAdvance (k : Fin 8) (s : State) : Outcome State Fault Refusal :=
  match s.sched.nextAdvance[k] with
  | none => .next s
  | some due =>
    let s := s.reachTime due
    let again := some (due + s.sched.lengths[k] * 1000)
    let s := { s with sched := { s.sched with nextAdvance := put s.sched.nextAdvance k again } }.publishTicks
    .next ((indices 32).foldl (State.takeEntry k) s)

/-- TICK_LADDER_EDIT (R122): the ladder's nine bytes before and after the write; unchanged values restart nothing. -/
def execTickLadderEdit (before after : List Byte) (s : State) : Outcome State Fault Refusal :=
  let s := s.taking (.tickLadderEdit before after)
  .next (if before = after then s else s.phaseRestart)

end Sys2Proof.Machine
end

