-- ==== Sys2Proof/Machine/Store.lean ====
section
/-! DEFINITION. The settings store: image and CRC, start-up, STORE SETTINGS and RELOAD SETTINGS (R163 to R167). -/

namespace Sys2Proof.Machine

open Sys2Proof Host

/-! ### The CRC (R163) -/

/-- One bit of the CRC register: the polynomial x^16 + x^12 + x^5 + 1. -/
def crcShift (c : Word) : Word := if c.msb then (c <<< 1) ^^^ 0x1021#16 else c <<< 1

/-- One byte fed in, most significant bit first. -/
def crcByte (c : Word) (b : Byte) : Word :=
  crcShift (crcShift (crcShift (crcShift (crcShift (crcShift (crcShift (crcShift (c ^^^ (b.setWidth 16 <<< 8)))))))))

/-- n bytes of an image from an address on, fed in order. -/
def crcFrom (m : Memory) : Nat → Nat → Word → Word
  | 0, _, c => c
  | n + 1, a, c => crcFrom m n (a + 1) (crcByte c (m.read a))

/-- The CRC over the 8192 bytes of an image. -/
def imageCrc (m : Memory) : Word := crcFrom m 8192 0x1000 0xFFFF#16

/-- The image matches (R163); one left invalid by a failed or interrupted store does not (R164). -/
def NvStore.isMatch (nv : NvStore) : Bool := nv.valid && decide (imageCrc nv.image = nv.crc)

/-- What a load or a reload writes over the settings region: the image, or the factory defaults (R164, R166). -/
def NvStore.loads (nv : NvStore) : Memory := if nv.isMatch then nv.image else factoryImage

/-! ### Power-on and start-up (R164) -/

/-- The state step 1 of start-up leaves: every block at its power-on values, the nonvolatile memory as it then is, each
rail's good state the level of its PG input (R49), the schedule's generator afresh (R130). The commands that wait stay;
events inside the part end with it. -/
def State.powerOn1 (s : State) (resetLow : Bool) (pg : Vector Bool 6) : State :=
  { State.reset with
    pending := s.pending
    freeCount := s.freeCount + 1
    resetHeld := resetLow
    nv := s.nvNow
    sched := { genSeed := s.freeCount }
    rails := Vector.ofFn fun r => { good := pg[r] } }

/-- POWER_ON_RESET (R164): the standby supply rises, or RESET is held low, with the PG levels as they stand. -/
def execPowerOnReset (reset : ResetEvent) (pg : BitVec 6) (s : State) : Outcome State Fault Refusal :=
  .next ((s.elapse reset.us).powerOn1 reset.held (Vector.ofFn fun r => pg.getLsbD r.val))

/-- RESET_RELEASE (R164): "A RESET held low keeps the part at step 1 until RESET is released, and the steps then run from
step 1 again." -/
def execResetRelease (s : State) : Outcome State Fault Refusal :=
  if s.resetHeld then .next (s.powerOn1 false (Vector.ofFn fun r => s.rails[r].good)) else .next s

/-- A SETTINGS report (R164 to R166): it carries the store count. -/
def State.settingsPosting (s : State) (subkind : Nat) (urgent : Bool) : Posting :=
  { kind := .settings, subkind := BitVec.ofNat 8 subkind, urgent := urgent, stamp := s.uptime, source := 0
    payload := { w0 := natWord s.nv.count } }

/-- A SETTINGS report posted, with its mark: "Each SETTINGS report sets the SETTINGS mark" (R165). -/
def State.reportSettings (s : State) (subkind : Nat) (urgent : Bool) : State :=
  (s.send (.reportPosting (s.settingsPosting subkind urgent))).mark .settings

/-- What begins at READY: sampling, passes, scans, tachometer updates, the schedule's phases and the age timer (R164). -/
def State.startRhythms (s : State) : State :=
  let now := some s.clock
  let t := { s with
    sensors := Vector.ofFn fun ch => { s.sensors[ch] with nextSample := now }
    nextPass := some (s.clock + Config.passPeriod)
    keypad := { s.keypad with nextScan := now }
    fans := Vector.ofFn fun f => { s.fans[f] with nextUpdate := now }
    pool := { s.pool with ageTimer := some (s.inMs (agePeriod s.mem * 1000)) } }
  t.phaseRestart

/-- A defaulted start: the SETTINGS mark set and the DEFAULTED report posted before the part state becomes READY-DEFAULTED,
within the step (R164 step 4). -/
def State.noteDefaulted (s : State) : State :=
  let t := { s with notice := s.notice.set .settings }
  t.post (s.settingsPosting 3 true)

/-- Steps 2 to 4 of start-up (R164), with auto-start (R70) and the ladder copy and link rail as the load left them (R69,
R138). -/
def State.startUp (s : State) : State :=
  let defaulted := !s.nv.isMatch
  let t := { s with mem := s.mem.loadSettings s.nv.loads }
  let t := if defaulted then t.noteDefaulted else t
  let t := { t with partState := if defaulted then PartState.defaulted else PartState.ready }
  let t := (t.setSup (t.sup.refreshLadder t.mem)).deliverLink.startRhythms
  if autoStart t.mem then t.powerOn.1 else t

/-- START_UP_LOAD_COMPLETE (R164): only while the part is STARTING with RESET not held. -/
def execStartUpLoadComplete (us : Nat) (s : State) : Outcome State Fault Refusal :=
  let s := s.elapse us
  if s.partState = .starting ∧ !s.resetHeld then .next s.startUp else .next s

/-! ### STORE SETTINGS (R165) -/

/-- The store as State holds it, changed. -/
def State.setStore (s : State) (op : StoreOp) : State := { s with store := op }

/-- The moment the erase of a store taken now begins: any within the 300 ms of R165 (log 24). -/
def State.eraseMoment (s : State) : Nat := s.clock + min (Config.eraseDelay s.freeCount) Config.storeLimit

/-- STORE_SETTINGS (R165, R152): taken only in IDLE, it snapshots the region and enters STORING; the erase follows. -/
def execStoreSettings (slot : Fin 8) (s : State) : Outcome State Fault Refusal :=
  let s := s.taking (.storeSettings slot)
  match s.store with
  | .idle =>
    let snapshot := s.mem.settings
    .next (s.setStore (.storing slot snapshot (imageCrc snapshot) s.eraseMoment)).drawFree
  | _ => .next (s.answer slot .busy)

/-- STORE_COMPLETE (R165): the verify's outcome, in one event; the erase lies before it. -/
def execStoreComplete (us : Nat) (verified : Bool) (s : State) : Outcome State Fault Refusal :=
  let s := s.elapse us
  match s.store with
  | .storing slot snapshot crc _ =>
    let s := { s with store := .idle, nv := s.nv.erase }
    if verified then
      let s := { s with
        nv := { s.nv with image := snapshot, crc := crc, valid := true }
        partState := if s.partState = PartState.defaulted then PartState.ready else s.partState }
      .next ((s.reportSettings 1 false).answer slot .done)
    else .next ((s.reportSettings 4 true).answer slot .failed)
  | _ => .next s

/-! ### RELOAD SETTINGS (R166) -/

/-- RELOAD_SETTINGS (R166, R152): taken only in IDLE with no sweep running. -/
def execReloadSettings (slot : Fin 8) (s : State) : Outcome State Fault Refusal :=
  let s := s.taking (.reloadSettings slot)
  match s.store with
  | .idle => if s.sweep.isSome then .next (s.answer slot .busy) else .next (s.setStore (.reloading slot))
  | _ => .next (s.answer slot .busy)

/-- The apply of a reload (R166): the region written as one update, the report, the answer, then the new settings delivered
to the schedule, the supervisor and the link port. -/
def State.applyReload (s : State) (slot : Fin 8) : State :=
  let isMatch := s.nv.isMatch
  let before := s.mem.read 0x10E0
  let t := { s with
    mem := s.mem.loadSettings s.nv.loads
    partState := if isMatch then s.partState else PartState.defaulted
    store := .idle }
  let t := if isMatch then t.reportSettings 2 false else t.reportSettings 3 true
  let t := (t.answer slot .done { w0 := if isMatch then 0 else 1 }).phaseRestart
  (t.hostMaskEdited before (t.mem.read 0x10E0)).deliverLink

/-- RELOAD_APPLY (R166): the end of the read. -/
def execReloadApply (us : Nat) (s : State) : Outcome State Fault Refusal :=
  let s := s.elapse us
  match s.store with
  | .reloading slot => .next (s.applyReload slot)
  | _ => .next s

end Sys2Proof.Machine
end

