-- ==== Sys2Proof/Machine/Dispatch.lean ====
section
/-! DEFINITION. The dispatch: one arm per command, each one call of its meaning. -/

namespace Sys2Proof.Machine

open Sys2Proof Host

/-- The effect of a command on everything but the queue. -/
def exec (i : Instr) (s : State) : Host.Outcome State Fault Refusal :=
  match i with
  | .powerOnReset reset pg => Sys2Proof.Machine.execPowerOnReset reset pg s
  | .resetRelease => Sys2Proof.Machine.execResetRelease s
  | .startUpLoadComplete us => Sys2Proof.Machine.execStartUpLoadComplete us s
  | .sensorSample ch raw => Sys2Proof.Machine.execSensorSample ch raw s
  | .s4ColdModeUpdate state held sampled => Sys2Proof.Machine.execS4ColdModeUpdate state held sampled s
  | .climatePass supplyLow => Sys2Proof.Machine.execClimatePass supplyLow s
  | .heaterOutputOff z => Sys2Proof.Machine.execHeaterOutputOff z s
  | .gateReport gate rearm => Sys2Proof.Machine.execGateReport gate rearm s
  | .gateRearm => Sys2Proof.Machine.execGateRearm s
  | .boostRequest target seconds => Sys2Proof.Machine.execBoostRequest target seconds s
  | .tachometerUpdate f => Sys2Proof.Machine.execTachometerUpdate f s
  | .tachometerPulse us f => Sys2Proof.Machine.execTachometerPulse us f s
  | .spinUpLimitExpiry f => Sys2Proof.Machine.execSpinUpLimitExpiry f s
  | .sweepSettleEnd => Sys2Proof.Machine.execSweepSettleEnd s
  | .pgChange us r level => Sys2Proof.Machine.execPgChange us r level s
  | .actionPerformanceEnd ch => Sys2Proof.Machine.execActionPerformanceEnd ch s
  | .delayEnd ch => Sys2Proof.Machine.execDelayEnd ch s
  | .waitMatchedComplete ch => Sys2Proof.Machine.execWaitMatchedComplete ch s
  | .waitTimeout ch => Sys2Proof.Machine.execWaitTimeout ch s
  | .channel0Outcome start fault => Sys2Proof.Machine.execChannel0Outcome start fault s
  | .wakeTimerExpiry => Sys2Proof.Machine.execWakeTimerExpiry s
  | .heldRetryExpiry => Sys2Proof.Machine.execHeldRetryExpiry s
  | .stageDeadlineExpiry => Sys2Proof.Machine.execStageDeadlineExpiry s
  | .checkpoint value heartbeat => Sys2Proof.Machine.execCheckpoint value heartbeat s
  | .heartbeatKick value => Sys2Proof.Machine.execHeartbeatKick value s
  | .heartbeatTimerExpiry => Sys2Proof.Machine.execHeartbeatTimerExpiry s
  | .graceExpiry => Sys2Proof.Machine.execGraceExpiry s
  | .pauseTimerExpiry => Sys2Proof.Machine.execPauseTimerExpiry s
  | .settleExpiry => Sys2Proof.Machine.execSettleExpiry s
  | .holdOffExpiry => Sys2Proof.Machine.execHoldOffExpiry s
  | .haltDelayExpiry => Sys2Proof.Machine.execHaltDelayExpiry s
  | .hostRailMaskEdit before after => Sys2Proof.Machine.execHostRailMaskEdit before after s
  | .keypadScan reading => Sys2Proof.Machine.execKeypadScan reading s
  | .forcedOffTimerExpiry => Sys2Proof.Machine.execForcedOffTimerExpiry s
  | .lightTestEnd => Sys2Proof.Machine.execLightTestEnd s
  | .lightTableWrite => Sys2Proof.Machine.execLightTableWrite s
  | .tickAdvance k => Sys2Proof.Machine.execTickAdvance k s
  | .tickLadderEdit before after => Sys2Proof.Machine.execTickLadderEdit before after s
  | .status cs inbound => Sys2Proof.Machine.execStatus cs inbound s
  | .read cs inbound => Sys2Proof.Machine.execRead cs inbound s
  | .write cs inbound => Sys2Proof.Machine.execWrite cs inbound s
  | .badCommand cs command inbound => Sys2Proof.Machine.execBadCommand cs command inbound s
  | .noticeEnable enable acknowledge => Sys2Proof.Machine.execNoticeEnable enable acknowledge s
  | .noticeAcknowledge acknowledge => Sys2Proof.Machine.execNoticeAcknowledge acknowledge s
  | .noticeMarkSet m => Sys2Proof.Machine.execNoticeMarkSet m s
  | .linkRailEdit before after => Sys2Proof.Machine.execLinkRailEdit before after s
  | .restartHost slot rung => Sys2Proof.Machine.execRestartHost slot rung s
  | .shutDownHost slot halt target wake => Sys2Proof.Machine.execShutDownHost slot halt target wake s
  | .pauseHeartbeat slot seconds => Sys2Proof.Machine.execPauseHeartbeat slot seconds s
  | .startSequence slot head => Sys2Proof.Machine.execStartSequence slot head s
  | .stopChannel slot channel => Sys2Proof.Machine.execStopChannel slot channel s
  | .climateOverride slot zone duty seconds => Sys2Proof.Machine.execClimateOverride slot zone duty seconds s
  | .fanSweep slot fan mode => Sys2Proof.Machine.execFanSweep slot fan mode s
  | .storeSettings slot => Sys2Proof.Machine.execStoreSettings slot s
  | .storeComplete us verified => Sys2Proof.Machine.execStoreComplete us verified s
  | .reloadSettings slot => Sys2Proof.Machine.execReloadSettings slot s
  | .reloadApply us => Sys2Proof.Machine.execReloadApply us s
  | .clearCounters slot group => Sys2Proof.Machine.execClearCounters slot group s
  | .freezeCounters slot on => Sys2Proof.Machine.execFreezeCounters slot on s
  | .flushReports slot cls => Sys2Proof.Machine.execFlushReports slot cls s
  | .keypadLock slot lock => Sys2Proof.Machine.execKeypadLock slot lock s
  | .badKind slot => Sys2Proof.Machine.execBadKind slot s
  | .deskOverpost slot => Sys2Proof.Machine.execDeskOverpost slot s
  | .deskAnswer slot code data => Sys2Proof.Machine.execDeskAnswer slot code data s
  | .reportPosting report => Sys2Proof.Machine.execReportPosting report s
  | .collection cells => Sys2Proof.Machine.execCollection cells s
  | .ageTick => Sys2Proof.Machine.execAgeTick s
  | .coalesceTimerExpiry => Sys2Proof.Machine.execCoalesceTimerExpiry s
  | .restartFlush => Sys2Proof.Machine.execRestartFlush s
  | .counterIncrement c => Sys2Proof.Machine.execCounterIncrement c s

end Sys2Proof.Machine
end

