-- ==== Sys2Proof/Machine/Step.lean ====
section
/-! DEFINITION. The step, and the host's way of putting a table word in front of the queue. -/

namespace Sys2Proof.Machine

open Sys2Proof Host

/-- The part idles for a millisecond: what an empty queue leaves to do when nothing is in transit (log 19). -/
def State.idle (s : State) : State := s.elapse 1000

/-- One step: the command at the front of the queue is taken and run with the queue's rest; on an empty queue the oldest
event in transit is taken, and with none the part idles (log 19). -/
def step (s : State) : Host.Outcome State Fault Refusal :=
  match s.pending with
  | c :: rest => exec c { s with pending := rest }
  | [] =>
    match s.transit with
    | c :: _ => exec c s
    | [] => .next s.idle

/-- s with the command a table word spells put at the front of its queue; no table word spells one (Decode.lean). -/
def State.withFetchWord (s : State) (nbits w : Nat) : State :=
  match decodeTableWord nbits w with
  | some c => { s with pending := c :: s.pending }
  | none => s

end Sys2Proof.Machine
end

