-- ==== Sys2Proof/Safety.lean ====
section
/-! DEFINITION. What holds of every state a run can reach, in the terms statements use. -/

namespace Sys2Proof.Machine

open Sys2Proof

/-- The exchange memory is in its canonical form, and so are the stored image and a store's snapshot, which lie within the
settings region (R163). -/
def State.MemoryOk (s : State) : Prop :=
  s.mem.wf ∧ s.nv.image.imageWf ∧ ∀ slot snapshot crc eraseAt, s.store = .storing slot snapshot crc eraseAt → snapshot.imageWf

/-- The report pool (R155, R156, R161): the posting order lists exactly the filled cells, each once; no two reports carry
one number and none carries 0; the memory shows a cell's number, or the 0 of a collection taken too late (R157); and the
coalesce timer runs exactly while a report waits. -/
def Pool.Ok (p : Pool) : Prop :=
  p.order.Nodup ∧ (∀ c : Fin 64, c ∈ p.order ↔ p.cells[c].isSome) ∧
  (∀ (c d : Fin 64) x y, p.cells[c] = some x → p.cells[d] = some y → x.number = y.number → c = d) ∧
  (∀ (c : Fin 64) x, p.cells[c] = some x → x.number ≠ 0 ∧ (x.shown = x.number ∨ x.shown = 0)) ∧
  p.generator ≠ 0 ∧ (p.coalesceTimer = none ↔ p.order = [])

/-- "No two channels that are RUNNING or WAITING have overlapping rail masks" (R62), and a channel that is not busy does
nothing (R65, R66). -/
def State.ChannelsOk (s : State) : Prop :=
  (∀ c d : Fin 4, c ≠ d → s.channels[c].busy → s.channels[d].busy → s.channels[c].mask &&& s.channels[d].mask = 0) ∧
  ∀ c : Fin 4, s.channels[c].activity ≠ .none → s.channels[c].busy

/-- "While the supervisor is in OFF, WARMING or HELD, every rail in the host rail mask is commanded off" (R72). -/
def State.HostRailsOff (s : State) : Prop :=
  s.sup.state.hostOff → ∀ r : Fin 6, (hostMask s.mem).getLsbD r.val → s.rails[r].commanded = false

/-- "The current rung index is always less than the rung count, and the attempts recorded at the current rung never exceed
that rung's attempt limit, both taken from the ladder copy" (R81), whose figures lie in their ranges (R68). -/
def Sup.LadderOk (u : Sup) : Prop :=
  u.rung.val < u.ladder.rungCount ∧ u.attempts ≤ u.ladder.limits[u.rung] ∧ u.ladder.rungCount ≤ 6 ∧
  ∀ r : Fin 6, 1 ≤ u.ladder.limits[r] ∧ u.ladder.limits[r] ≤ 15

/-- The nonvolatile memory once a store has begun its erase (R165): the count one higher, up to 4,294,967,295, and the
stored image invalid. -/
def NvStore.Erased (nv : NvStore) : NvStore :=
  { nv with valid := false, count := if nv.count < 4294967295 then nv.count + 1 else nv.count }

/-- t is what step 1 of start-up leaves of s, with the PG levels given (R164): every block at its power-on values, and
the stored image invalid with the count raised if a store had begun its erase (R165). The zeros of the settings region
until the load, which R132 leaves out (log 6), the events inside the part ending with it (log 41), and a discarded soak
remaining held as none (log 53) are the model's. -/
def PoweredOn (s t : State) (pg : Fin 6 → Bool) : Prop :=
  t.partState = .starting ∧ t.clock = 0 ∧ t.store = .idle ∧ t.pending = s.pending ∧
  (∀ slot image crc eraseAt, s.store = .storing slot image crc eraseAt → eraseAt ≤ s.clock → t.nv = s.nv.Erased) ∧
  ((∀ slot image crc eraseAt, s.store = .storing slot image crc eraseAt → s.clock < eraseAt) → t.nv = s.nv) ∧
  (∀ a : Nat, t.mem.read a = if a = 8 then 0x3F#8 else 0#8) ∧
  (∀ ch : Fin 9, t.sensors[ch].state = .ok ∧ t.sensors[ch].held = 0 ∧ t.sensors[ch].invalidRun = 0 ∧
    t.sensors[ch].validRun = 0 ∧ t.sensors[ch].sampled = false ∧ t.sensors[ch].nextSample = none) ∧
  (∀ z : Fin 3, t.zones[z].setpoint = none ∧ t.zones[z].integrator = 0 ∧ t.zones[z].lastDemand = 0 ∧
    t.zones[z].lastGrant = 0 ∧ t.zones[z].boost = 0 ∧ t.zones[z].override = none ∧ t.zones[z].rearmTemp = none ∧
    t.budget.tripped[z] = false ∧ t.heaters[z].on = false ∧ t.heaters[z].offAt = none) ∧
  t.budget.inEpisode = false ∧ t.budget.shortRun = 0 ∧ t.budget.clearRun = 0 ∧ t.nextPass = none ∧
  t.gate.state = .closed ∧ t.gate.rearmPending = true ∧ t.gate.sinceRearm = 0 ∧ t.gate.soakRemaining = none ∧
  t.gate.limitExpired = false ∧
  (∀ f : Fin 2, t.fans[f].state = .resting ∧ t.fans[f].demand = 0 ∧ t.driven f = 0 ∧ t.fans[f].rpm = 0 ∧
    t.fans[f].lateTries = 0 ∧ t.fans[f].restCount = 0 ∧ t.fans[f].clogged = false ∧ t.fans[f].sweepPending = false ∧
    t.fans[f].lastResult = none ∧ t.fans[f].spinLimit = none ∧ t.fans[f].lastPulse = none ∧
    t.fans[f].pulseBefore = none ∧ t.fans[f].nextUpdate = none) ∧ t.sweep = none ∧
  (∀ r : Fin 6, t.rails[r].commanded = false ∧ t.rails[r].watched = false ∧ t.rails[r].good = pg r) ∧
  t.lines = { hrst := true, hpwr := false, pnl := false, aux := false } ∧
  (∀ c : Fin 4, t.channels[c].state = .idle ∧ t.channels[c].sequence = 0 ∧ t.channels[c].mask = 0 ∧
    t.channels[c].step = 0 ∧ t.channels[c].repeatLeft = 0 ∧ t.channels[c].runs = .none ∧ t.channels[c].starter = none ∧
    t.channels[c].endedBy = none ∧ t.channels[c].fault = none ∧ t.channels[c].activity = .none) ∧
  t.sup.state = .off ∧ t.sup.sub = .none ∧ t.sup.bootStage = 0 ∧ t.sup.checkpointCopy = none ∧ t.sup.heartbeatCopy = 0 ∧
  t.sup.lastKick = 0 ∧ t.sup.stageTimer = none ∧ t.sup.heartbeatTimer = none ∧ t.sup.graceTimer = none ∧
  t.sup.pauseTimer = none ∧ t.sup.settleTimer = none ∧ t.sup.holdOffTimer = none ∧ t.sup.haltTimer = none ∧
  t.sup.wakeTimer = none ∧ t.sup.heldRetryTimer = none ∧ t.sup.rung = 0 ∧ t.sup.attempts = 0 ∧ t.sup.restart = none ∧
  t.sup.target = none ∧ t.sup.wakeAfter = none ∧ t.sup.gateWait = false ∧ t.sup.stageReached = none ∧ t.sup.serial = 0 ∧
  t.sup.history = [] ∧ t.sup.reservation = false ∧
  (∀ e : Fin 32, t.sched.outcomes[e] = none) ∧ (∀ k : Fin 8, t.sched.nextAdvance[k] = none) ∧
  t.sched.genSeed = s.freeCount ∧ t.sched.genCount = 0 ∧ t.freeCount = s.freeCount + 1 ∧
  (∀ p : Fin 64, t.keypad.keys[p].state = .up ∧ t.keypad.keys[p].run = 0 ∧ t.keypad.keys[p].latched = none ∧
    t.keypad.keys[p].downTime = none ∧ t.keypad.keys[p].nextRepeat = none ∧ t.keypad.keys[p].unreported = false) ∧
  t.keypad.coldMode = false ∧ t.keypad.deskLock = false ∧ t.keypad.stuckCount = 0 ∧ t.keypad.faultArmed = true ∧
  t.keypad.nextScan = none ∧ t.keypad.published = .off ∧
  (∀ n : Fin 8, t.chords.chords[n].armed = true ∧ t.chords.chords[n].matchStart = none) ∧ t.chords.press = none ∧
  t.chords.forcedOffTimer = none ∧ t.chords.openExpiry = none ∧ t.chords.progress = 0 ∧ t.chords.testEnds = none ∧
  t.chords.elapsedAtScan = none ∧
  t.chords.rearmAwaited = false ∧ t.chords.published = .off ∧ t.chords.publishedSub = .none ∧
  (∀ k : Fin 8, t.slots[k].taken = none ∧ t.slots[k].answerCode = none ∧ t.slots[k].answerToggle = 0 ∧
    t.slots[k].data = {}) ∧
  (∀ c : Fin 64, t.pool.cells[c] = none) ∧ t.pool.order = [] ∧ t.pool.generator = 1 ∧ t.pool.newest = 0 ∧
  t.pool.coalesceTimer = none ∧ t.pool.ageTimer = none ∧ (∀ n : Fin 54, t.counters.values[n] = 0) ∧
  t.counters.frozen = false ∧ t.notice.marks = 0 ∧ t.notice.enable = 0x3F ∧ t.link.isOpen = false ∧
  t.link.transfer = none ∧ t.transit = []

/-- A sample's value lies within its span (R1): a temperature channel's within -880 to +2000, humidity's within 0 to
100. -/
def inSpan (ch : Fin 9) (v : Int) : Prop := if ch = 8 then 0 ≤ v ∧ v ≤ 100 else -880 ≤ v ∧ v ≤ 2000

/-- A channel gives a value: it is OK or HOLDING, and sampled (R4). -/
abbrev Sensor.Live (c : Sensor) : Prop := c.state ≠ .failed ∧ c.sampled = true

/-- The posting of a report stamped with an uptime (R155, R156). -/
def posting (stamp : DWord) (kind : ReportKind) (subkind : Byte) (urgent : Bool) (source : Byte) (payload : Payload) :
    Instr :=
  .reportPosting { kind := kind, subkind := subkind, urgent := urgent, stamp := stamp, source := source, payload := payload }

/-- The command the next step takes: the front of the queue, or on an empty queue the oldest event in transit. -/
def State.taken (s : State) : Option Instr :=
  match s.pending with
  | c :: _ => some c
  | [] => s.transit.head?

/-- The port is OPEN (R138). -/
abbrev State.PortOpen (s : State) : Prop := s.link.commanded = true ∧ s.link.good = true

/-- The port is OPEN and serves a transaction that began at a falling edge and no fence has discarded (R133, R138). -/
abbrev State.Serves (s : State) (x : Transfer) : Prop := s.PortOpen ∧ s.link.transfer = some x

/-- The port has evaluated rail r (R138): its copy is the rail's record, and FENCED it discards the transaction in
progress. -/
def LinkEvaluated (s t : State) (r : Fin 6) : Prop :=
  t.link = { s.link with
    rail := r, commanded := t.rails[r].commanded, good := t.rails[r].good
    transfer := if t.rails[r].commanded = true ∧ t.rails[r].good = true then s.link.transfer else none }

/-! ### What a channel does, as chapter 3 tells it -/

/-- What channel c's entry into a terminal state at an uptime sends (R66): the state's counter, the CHANNEL report, and
for channel 0, unless aborted, its outcome. -/
def endEvents (stamp : DWord) (c : Fin 4) (y : Channel) : List Instr :=
  [.counterIncrement (match y.state with
      | .finished => .channelsFinished
      | .faulted => .channelsFaulted
      | _ => .channelsAborted),
    posting stamp .channel (BitVec.ofNat 8 (chanCode y.state))
      (decide (y.state = .faulted) && decide (y.starter = some .supervisor)) (BitVec.ofNat 8 c.val)
      { w0 := natWord y.sequence.val, w1 := natWord (starterCode y.starter), w2 := natWord (endedCode y.endedBy)
        w3 := natWord (faultCode y.fault + y.faultStep.toNat * 256) }]
  ++ (if c = 0 ∧ y.state ≠ .aborted then [.channel0Outcome y.startId y.fault] else [])

/-- Channel c has entered a terminal state with the record y (R66): nothing in progress, the events of the ending sent;
nothing else changes. -/
def EndsAs (s t : State) (c : Fin 4) (y : Channel) : Prop :=
  t.channels[c] = { y with activity := .none } ∧ (∀ d : Fin 4, d ≠ c → t.channels[d] = s.channels[d]) ∧
  t.transit = s.transit ++ endEvents s.uptime c y ∧ t = { s with channels := t.channels, transit := t.transit }

/-- A channel's record aborted by the supervisor (R54, R63, R66). -/
def Channel.abortedRecord (x : Channel) : Channel :=
  { x with state := .aborted, endedBy := some .supervisor, activity := .none }

/-- The busy channels named have been aborted, each with its ABORTED count and CHANNEL report, the supervisor as its ender
(R54, R63, R66), in some order; nothing else changes. -/
def ChannelsAborted (s t : State) (named : Fin 4 → Prop) : Prop :=
  ∃ order : List (Fin 4), order.Nodup ∧ (∀ c, c ∈ order ↔ s.channels[c].busy = true ∧ named c) ∧
    (∀ c, c ∈ order → t.channels[c] = s.channels[c].abortedRecord) ∧ (∀ c, c ∉ order → t.channels[c] = s.channels[c]) ∧
    t.transit = s.transit ++ order.flatMap (fun c => endEvents s.uptime c s.channels[c].abortedRecord) ∧
    t = { s with channels := t.channels, transit := t.transit }

/-- Channel c, with the record x, has faulted with a code at a step (R65). -/
def FaultsWith (s t : State) (c : Fin 4) (x : Channel) (code : FaultCode) (step : Byte) : Prop :=
  EndsAs s t c { x with state := .faulted, fault := some code, faultStep := step }

/-- Channel c, with the record x, begins a performance of a (R56): its checks in order, then its effect at once, the
repeat left decreased, and 1 ms in RUNNING. -/
def Performs (s t : State) (c : Fin 4) (x : Channel) (a : Action) : Prop :=
  let op := a.operation.toNat
  let n := a.target.toNat
  let known : Prop := ((op = 1 ∨ op = 2) ∧ n < 6) ∨ ((op = 3 ∨ op = 4 ∨ op = 5) ∧ n < 4) ∨ op = 6 ∨
    (op = 7 ∧ (n < 3 ∨ n = 255))
  let outside : Prop := (op = 1 ∨ op = 2) ∧ x.mask.getLsbD n = false
  let locked : Prop := op = 1 ∧ (hostMask s.mem).getLsbD n = true ∧
    (s.sup.state = .off ∨ s.sup.state = .warming ∨ s.sup.state = .held)
  (¬ known → FaultsWith s t c x .badStep a.index) ∧
  (known → outside → FaultsWith s t c x .outOfMask a.index) ∧
  (known → ¬ outside → locked → FaultsWith s t c x .railLocked a.index) ∧
  (known → ¬ outside → ¬ locked →
    t.channels[c] = { x with
      state := .running, step := a.index, repeatLeft := x.repeatLeft - 1
      activity := .performing a (s.clock + 1000) } ∧
    (∀ d : Fin 4, d ≠ c → t.channels[d] = s.channels[d]) ∧
    (∀ r : Fin 6, op = 1 → r.val = n → t.rails[r] =
      if s.rails[r].commanded = true then s.rails[r]
      else { s.rails[r] with commanded := true, watched := s.rails[r].good }) ∧
    (∀ r : Fin 6, op = 2 → r.val = n → t.rails[r] =
      if s.rails[r].commanded = true then { s.rails[r] with commanded := false, watched := false } else s.rails[r]) ∧
    (∀ r : Fin 6, ¬ ((op = 1 ∨ op = 2) ∧ r.val = n) → t.rails[r] = s.rails[r]) ∧
    t.lines =
      { hrst := if n ≠ 0 then s.lines.hrst else if op = 3 then true else if op = 4 then false
          else if op = 5 then !s.lines.hrst else s.lines.hrst
        hpwr := if n ≠ 1 then s.lines.hpwr else if op = 3 then true else if op = 4 then false
          else if op = 5 then !s.lines.hpwr else s.lines.hpwr
        pnl := if n ≠ 2 then s.lines.pnl else if op = 3 then true else if op = 4 then false
          else if op = 5 then !s.lines.pnl else s.lines.pnl
        aux := if n ≠ 3 then s.lines.aux else if op = 3 then true else if op = 4 then false
          else if op = 5 then !s.lines.aux else s.lines.aux } ∧
    t.transit = s.transit
      ++ (if op = 2 ∧ c = 0 ∧ n = (linkRail s.mem).val ∧ s.rails[linkRail s.mem].commanded = true then [.restartFlush]
          else if op = 6 then [posting s.uptime .mark 0 false (BitVec.ofNat 8 c.val)
            { w0 := natWord (a.argument.toNat % 256), w1 := natWord x.sequence.val, w2 := natWord a.index.toNat }]
          else if op = 7 then [.boostRequest (if n = 255 then .all else .zone n) a.argument]
          else []) ∧
    (t.rails ≠ s.rails → n = (linkRail s.mem).val → LinkEvaluated s t (linkRail s.mem)) ∧
    (t.rails = s.rails ∨ n ≠ (linkRail s.mem).val → t.link = s.link) ∧
    t = { s with channels := t.channels, rails := t.rails, lines := t.lines, transit := t.transit, link := t.link })

/-- Channel c, with the record x, reaches the step at an index (R55 to R59). -/
def Reaches (s t : State) (c : Fin 4) (x : Channel) (i : Byte) : Prop :=
  let b := 0x1400 + 8 * i.toNat
  let kind := if 127 < i.toNat then 0 else s.mem.byte b
  let only (y : Channel) : Prop := t = { s with channels := put s.channels c y }
  (kind = 1 → Performs s t c
    { x with state := .running, step := i, repeatLeft := max 1 (s.mem.byte (b + 4)) }
    { index := i, next := s.mem.read (b + 1), operation := s.mem.read (b + 2), target := s.mem.read (b + 3)
      argument := s.mem.read16 (b + 6) }) ∧
  (kind = 2 → only { x with
    state := .running, step := i
    activity := .delay (s.mem.read (b + 1)) (s.clock + max 1 (s.mem.nat16 (b + 2)) * 1000) }) ∧
  (kind = 3 →
    (5 < s.mem.byte (b + 2) → FaultsWith s t c { x with state := .waiting, step := i } .badStep i) ∧
    ∀ r : Fin 6, r.val = s.mem.byte (b + 2) →
      let good := decide (s.mem.read (b + 3) ≠ 0#8)
      (s.rails[r].good = good → only { x with
        state := .waiting, step := i, activity := .matchedWait (s.mem.read (b + 1)) (s.clock + 1000) }) ∧
      (s.rails[r].good ≠ good → only { x with
        state := .waiting, step := i
        activity := .wait r good (s.mem.read (b + 1)) (s.clock + max 1 (s.mem.nat16 (b + 4)) * 1000) })) ∧
  (kind ≠ 1 → kind ≠ 2 → kind ≠ 3 →
    FaultsWith s t c { x with step := if i.toNat < 128 then i else x.step } .badStep i)

/-- Channel c, with the record x, begins a run (R60). -/
def BeginsRun (s t : State) (c : Fin 4) (x : Channel) : Prop :=
  let first := s.mem.read (0x1100 + 8 * x.sequence.val)
  (first = 0#8 → FaultsWith s t c x .badStep 0) ∧ (first ≠ 0#8 → Reaches s t c x first)

/-- Channel c, with the record x, proceeds to an index; at 0 its run ends (R64). -/
def Proceeds (s t : State) (c : Fin 4) (x : Channel) (i : Byte) : Prop :=
  let head := 0x1100 + 8 * x.sequence.val
  let last : Prop := x.runs = .none ∨ x.runs = .left 0 ∨ x.runs = .left 1
  (i ≠ 0#8 → Reaches s t c x i) ∧
  (i = 0#8 →
    (x.runs = .untilStopped → BeginsRun s t c x) ∧
    (∀ n : Nat, x.runs = .left (n + 2) → BeginsRun s t c { x with runs := .left (n + 1) }) ∧
    (last → 15 < s.mem.byte (head + 3) → EndsAs s t c { x with state := .finished }) ∧
    (last → ∀ h : Fin 16, h.val = s.mem.byte (head + 3) →
      let shared : Prop := ∃ d : Fin 4, d ≠ c ∧ s.channels[d].busy = true ∧ s.channels[d].mask &&& headMask s.mem h ≠ 0#6
      (shared → FaultsWith s t c { x with sequence := h } .conflict 0) ∧
      (¬ shared → BeginsRun s t c { x with sequence := h, mask := headMask s.mem h, runs := headRuns s.mem h })))

/-- A PG level of rail r has been delivered to channel c (R59): a WAIT it satisfies proceeds, any other channel stands. -/
def WaitServed (s t : State) (c : Fin 4) (r : Fin 6) (level : Bool) : Prop :=
  (∀ next due, s.channels[c].activity = .wait r level next due → Proceeds s t c s.channels[c] next) ∧
  ((∀ next due, s.channels[c].activity ≠ .wait r level next due) → t = s)

/-- A start of a head on channels 1 to 3 has been taken (R62): NO_CHANNEL, then CONFLICT, each changing nothing; else the
lowest-numbered free channel is set up, counted and begins its first run. -/
def SequenceRequested (s t : State) (h : Fin 16) (starter : Starter) (refusal : Option AnswerCode)
    (channel : Option (Fin 4)) : Prop :=
  let free (c : Fin 4) : Prop := c ≠ 0 ∧ s.channels[c].busy = false
  let shared : Prop := ∃ d : Fin 4, s.channels[d].busy = true ∧ s.channels[d].mask &&& headMask s.mem h ≠ 0#6
  ((∀ c, ¬ free c) → t = s ∧ refusal = some .noChannel ∧ channel = none) ∧
  ((∃ c, free c) → shared → t = s ∧ refusal = some .conflict ∧ channel = none) ∧
  (∀ c, free c → (∀ d, free d → c ≤ d) → ¬ shared → refusal = none ∧ channel = some c ∧
    BeginsRun { s with transit := s.transit ++ [.counterIncrement .channelsStarted] } t c
      { state := .running, sequence := h, mask := headMask s.mem h, runs := headRuns s.mem h, starter := some starter })

/-- The rails of a mask stand cut (R54): commanded OFF and not watched, HRST asserted, PNL released, channel 0 and every
busy channel sharing a rail with the mask aborted with its count and report (R66), all else of the four as it was; a link
rail switched off fences the port and tells the pool (R52). -/
def CutUnder (s t : State) (mask : BitVec 6) : Prop :=
  (∀ r : Fin 6, mask.getLsbD r.val = true → t.rails[r] = { s.rails[r] with commanded := false, watched := false }) ∧
  (∀ r : Fin 6, mask.getLsbD r.val = false → t.rails[r] = s.rails[r]) ∧
  t.lines = { s.lines with hrst := true, pnl := false } ∧
  (∀ c : Fin 4, s.channels[c].busy = true → (c = 0 ∨ s.channels[c].mask &&& mask ≠ 0#6) →
    t.channels[c] = s.channels[c].abortedRecord ∧
    ∀ e ∈ endEvents t.uptime c s.channels[c].abortedRecord, e ∈ t.transit) ∧
  (∀ c : Fin 4, s.channels[c].busy = false ∨ (c ≠ 0 ∧ s.channels[c].mask &&& mask = 0#6) →
    t.channels[c] = s.channels[c]) ∧
  (s.rails[linkRail t.mem].commanded = true → mask.getLsbD (linkRail t.mem).val = true →
    .restartFlush ∈ t.transit ∧ t.link.commanded = false ∧ t.link.transfer = none)

/-! ### What the fan controller does, as chapter 2 tells it -/

/-- A sweep start has been taken (R42): the first case that refuses it, changing nothing; or an acceptance, which counts
the sweep, records its engine fields and moves the fan by its state. -/
def SweepRequested (s t : State) (f : Fin 2) (mode : SweepMode) (starter : Starter) (slot : Option (Fin 8))
    (refusal : Option AnswerCode) : Prop :=
  let x := s.fans[f]
  let y := t.fans[f]
  let busy : Prop := s.sweep ≠ none ∨ ∃ k, s.store = .reloading k
  let wrong : Prop := (f = 1 ∧ s.gate.state ≠ .opened) ∨
    (s.sensors[(0 : Fin 9)].Live ∧ coolStart s.mem f + 160 < s.sensors[(0 : Fin 9)].held)
  (busy → t = s ∧ refusal = some .busy) ∧
  (¬ busy → wrong → t = s ∧ refusal = some .wrongState) ∧
  (¬ busy → ¬ wrong → refusal = none ∧
    (∃ w, t.sweep = some w ∧ w.fan = f ∧ w.mode = mode ∧ w.starter = starter ∧ w.slot = slot ∧
      (w.wasFailed = true ↔ x.state = .failed) ∧ w.point = 0 ∧ (∀ k : Fin 4, w.measured[k] = 0) ∧
      (x.state = .running → w.phase = .settling (s.clock + 3000000)) ∧
      (x.state = .spinningUp ∨ x.state = .resting ∨ x.state = .failed → w.phase = .spinningUp)) ∧
    (x.state = .running → y = { x with state := .sweeping, sweepPending := false, spinLimit := none } ∧
      t.transit = s.transit ++ [.counterIncrement .sweepsRun]) ∧
    (x.state = .spinningUp → y = { x with sweepPending := true } ∧
      t.transit = s.transit ++ [.counterIncrement .sweepsRun]) ∧
    (x.state = .resting ∨ x.state = .failed → y = { x with
        sweepPending := true, state := .spinningUp, lateTries := 0
        spinLimit := some (s.clock + spinUpLimit s.mem f * 1000000) } ∧
      t.transit = s.transit ++ [.counterIncrement .sweepsRun, .counterIncrement (.spinUps f)]) ∧
    (∀ g : Fin 2, g ≠ f → t.fans[g] = s.fans[g]) ∧
    t = { s with
      transit := t.transit, fans := t.fans, sweep := t.sweep, shown := { s.shown with fans := t.shown.fans } })

/-- What the desk is sent at the end of a sweep that a slot started, and nothing for any other (R47, R151): a deviation
wider than the data word is answered by a word left free (log 20). -/
def AnswersSweep (sent : List Instr) (slot : Option (Fin 8)) (r : SweepRecord) : Prop :=
  (slot = none → sent = []) ∧
  ∀ k, slot = some k → ∃ d : Words,
    sent = [.deskAnswer k (if r.result = .aborted then .failed else .done) d] ∧
    d.w0 = BitVec.ofNat 16 (sweepCode r.result) ∧ d.w1 = BitVec.ofNat 16 r.worst ∧
    (-32768 ≤ r.deviation → r.deviation ≤ 32767 → d.w2 = BitVec.ofInt 16 r.deviation) ∧
    (r.worst = 0 → d.w3 = 0#16) ∧ ∀ p : Fin 4, r.worst = p.val + 1 → d.w3 = BitVec.ofNat 16 r.measured[p]

/-- The sweep w has ended with the record r, its fan going to the state given (R47): the record stored, the clog state
and its count, the sweep-pending mark, the FAN report and the desk's answer, in that order; nothing else changes. -/
def SweepEnded (s t : State) (w : Sweep) (r : SweepRecord) (state : FanState) : Prop :=
  let x := s.fans[w.fan]
  r.mode = w.mode ∧ r.starter = w.starter ∧
  t.fans[w.fan] = { x with
    lastResult := some r, state := state, sweepPending := false, spinLimit := none
    clogged := match r.result with | .clogged => true | .normal => false | _ => x.clogged
    restCount := if state = .running then 0 else x.restCount } ∧
  (∀ g : Fin 2, g ≠ w.fan → t.fans[g] = s.fans[g]) ∧
  (∃ sent, AnswersSweep sent w.slot r ∧ t.transit = s.transit
    ++ (if r.result = .clogged then [.counterIncrement .sweepsClogged] else [])
    ++ [posting s.uptime .fan 2 false (BitVec.ofNat 8 w.fan.val)
      { w0 := natWord (sweepCode r.result), w1 := natWord r.worst, w2 := signedWord r.deviation }] ++ sent) ∧
  t = { s with
    transit := t.transit, fans := t.fans, sweep := none, shown := { s.shown with fans := t.shown.fans } }

/-! ### What the supervisor does, as chapter 4 tells it -/

/-- What an order to the supervisor can move: the supervisor, the rails, lines and channels of the sequences it starts,
the link port's copy, and the states published; it sends events and takes none. -/
def HostFrame (s t : State) : Prop :=
  (∃ sent, t.transit = s.transit ++ sent) ∧
  t = { s with
    transit := t.transit, channels := t.channels, rails := t.rails, lines := t.lines, link := t.link, sup := t.sup
    keypad := { s.keypad with published := t.keypad.published }
    chords := { s.chords with
      published := t.chords.published, publishedSub := t.chords.publishedSub, progress := t.chords.progress
      rearmAwaited := t.chords.rearmAwaited, forcedOffTimer := t.chords.forcedOffTimer
      openExpiry := t.chords.openExpiry }
    shown := { s.shown with chords := t.shown.chords } }

/-- Channel 0 has taken a supervisor start of a head (R63), made with the state and substate that t has: it and each
busy channel sharing a rail with the head's mask, or with `also`, are aborted, the others left as they were; the start
is counted, numbered and its outcome awaited (R66), and channel 0's first run begins (R60). `after` is what the
supervisor sends after it. -/
def SupervisorStarted (s t : State) (h : Fin 16) (also : BitVec 6) (after : List Instr) : Prop :=
  let mask := headMask s.mem h
  ∃ u v : State,
    ChannelsAborted { s with sup := t.sup } u
      (fun c => c = 0 ∨ s.channels[c].mask &&& mask ≠ 0#6 ∨ s.channels[c].mask &&& also ≠ 0#6) ∧
    BeginsRun { u with transit := u.transit ++ [.counterIncrement .channelsStarted] } v 0
      { state := .running, sequence := h, mask := mask, runs := headRuns s.mem h, starter := some .supervisor
        startId := s.sup.starts + 1 } ∧
    t.sup.starts = s.sup.starts + 1 ∧ t.sup.awaiting = some (s.sup.starts + 1) ∧
    t.channels = v.channels ∧ t.rails = v.rails ∧ t.lines = v.lines ∧ t.link = v.link ∧ t.transit = v.transit ++ after

/-- Channel 0 alone has been aborted, if it was busy (R83, R87); the other channels, the rails, lines and link port
stand. -/
def Channel0Aborted (s t : State) (after : List Instr) : Prop :=
  ∃ u : State, ChannelsAborted s u (fun c => c = 0) ∧ t.channels = u.channels ∧ t.rails = s.rails ∧ t.lines = s.lines ∧
    t.link = s.link ∧ t.transit = u.transit ++ after

/-- A start order taken (R70): the gate re-armed, WARMING with the gate-wait mark set, the wake and held-retry timers
stopped, the state published (R69). -/
def StartOrdered (s t : State) : Prop :=
  t.sup.state = .warming ∧ t.sup.sub = .none ∧ t.sup.gateWait = true ∧ t.sup.wakeTimer = none ∧
  t.sup.heldRetryTimer = none ∧ .gateRearm ∈ t.transit ∧ t.keypad.published = .warming ∧ t.chords.published = .warming ∧
  t.chords.progress = 0 ∧ t.chords.rearmAwaited = true ∧ t.chords.forcedOffTimer = none ∧ t.mem = s.mem

/-- A publication of s's moment has stopped the forced-off timer; the expiry of a timer due by then may still have been the
first of the two, and stays open with the supervisor word published before (R115, log 51). -/
def ForcedOffStopped (s t : State) : Prop :=
  t.chords.forcedOffTimer = none ∧ ∀ due, s.chords.forcedOffTimer = some due →
    (due ≤ s.clock → t.chords.openExpiry =
      some { moment := s.clock, word := supWordOf s.chords.published s.chords.publishedSub }) ∧
    (s.clock < due → t.chords.openExpiry = none)

/-- RESTARTING is entered with a rung (R83): the watch timers and the forced-off timer (R115) stop and channel 0 is aborted;
with a hold-off it waits, and else the rung's head starts on channel 0. -/
def RestartBegun (s t : State) (rung : Fin 6) (origin : Origin) (after : List Instr) : Prop :=
  t.sup.state = .restarting ∧ t.chords.published = .restarting ∧ ForcedOffStopped s t ∧ t.sup.stageTimer = none ∧ t.sup.heartbeatTimer = none ∧ t.sup.graceTimer = none ∧
  t.sup.pauseTimer = none ∧ t.sup.settleTimer = none ∧
  (0 < rungHoldOff s.mem rung → t.sup.sub = .holdOff ∧
    t.sup.restart = some { rung := rung, mode := none, origin := origin } ∧
    t.sup.holdOffTimer = some (s.clock + rungHoldOff s.mem rung * 1000000) ∧ Channel0Aborted s t after) ∧
  (rungHoldOff s.mem rung = 0 → t.sup.sub = .sequence ∧
    t.sup.restart = some { rung := rung, mode := some (rungMode s.mem rung), origin := origin } ∧
    SupervisorStarted s t (rungHead s.mem rung) (if rungMode s.mem rung = .rewarm then hostMask s.mem else 0) after)

/-- SHUTTING is entered with a target (R87): the watch timers, the hold-off and the forced-off timer (R115) stop, and with no
halt delay the off-sequence starts on channel 0. -/
def ShutdownBegun (s t : State) (target : ShutTarget) : Prop :=
  t.sup.state = .shutting ∧ t.chords.published = .shutting ∧ ForcedOffStopped s t ∧ t.sup.sub = .none ∧ t.sup.target = some target ∧ t.sup.stageTimer = none ∧
  t.sup.heartbeatTimer = none ∧ t.sup.graceTimer = none ∧ t.sup.pauseTimer = none ∧ t.sup.settleTimer = none ∧
  t.sup.holdOffTimer = none

/-- The cause serial after one more cause (R80). -/
def State.nextSerial (s : State) : Nat := if s.sup.serial < 4294967295 then s.sup.serial + 1 else s.sup.serial

/-- The RESTART report of a cause (R80, R169). -/
def causeReport (s : State) (cause : Cause) (rung : Option (Fin 6)) (attempt detail : Nat) : Instr :=
  posting s.uptime .restart (BitVec.ofNat 8 (causeCode cause)) true 0
    { w0 := natWord s.nextSerial, w1 := natWord (match rung with | some r => r.val | none => 255), w2 := natWord attempt
      w3 := natWord detail }

/-- The cause counted (R80 step 2). -/
def State.counted (s : State) (cause : Cause) : State :=
  { s with transit := s.transit ++ [.counterIncrement (.cause cause)] }

/-- A cause has been written into the history, oldest first and at most eight (R90), counted and reported (R80). -/
def CauseRecorded (s t : State) (cause : Cause) (rung : Option (Fin 6)) (attempt detail : Nat) : Prop :=
  let entry : HistoryEntry :=
    { serial := s.nextSerial, cause := cause, rung := rung, attempt := attempt, stageReached := s.sup.stageReached
      stateAt := s.sup.state, subAt := s.sup.sub, stamp := s.uptime
      s0 := s.sensors[(0 : Fin 9)].word, s2 := s.sensors[(2 : Fin 9)].word }
  t.sup.serial = s.nextSerial ∧ .counterIncrement (.cause cause) ∈ t.transit ∧
  t.sup.history = (s.sup.history ++ [entry]).drop (s.sup.history.length - 7) ∧
  causeReport s cause rung attempt detail ∈ t.transit

/-- A ladder cause has been taken (R80 to R83, R87): the copy refreshed and the position brought within it, one attempt
more, and the rung chosen, the next rung with one attempt, or the ladder exhausted. -/
def LadderTaken (s t : State) (cause : Cause) (detail : Nat) : Prop :=
  ∃ (cur : Fin 6) (rung : Option (Fin 6)) (attempt : Nat),
    let n := rungCount s.mem
    let limit := rungLimit s.mem cur
    let a := min s.sup.attempts limit
    cur.val = (if s.sup.rung.val < n then s.sup.rung.val else n - 1) ∧ t.sup.ladder = ladderOf s.mem ∧
    (a < limit → rung = some cur ∧ attempt = a + 1 ∧ t.sup.rung = cur ∧ t.sup.attempts = a + 1) ∧
    (a = limit → cur.val + 1 < n → attempt = 1 ∧ t.sup.attempts = 1 ∧
      ∃ next : Fin 6, next.val = cur.val + 1 ∧ rung = some next ∧ t.sup.rung = next) ∧
    (a = limit → n ≤ cur.val + 1 → rung = none ∧ attempt = limit ∧ t.sup.rung = cur ∧ t.sup.attempts = limit) ∧
    let report := causeReport s cause rung attempt detail
    (∀ r, rung = some r → RestartBegun (s.counted cause) t r .ladder [report]) ∧
    (rung = none → ShutdownBegun s t .heldByLadder ∧
      SupervisorStarted (s.counted cause) t (offHead s.mem) (hostMask s.mem) [report]) ∧
    CauseRecorded s t cause rung attempt detail ∧ HostFrame s t

/-- A restart has been ordered with a rung of the ladder copy (R85): BAD_ARGUMENT, then WRONG_STATE, each changing
nothing; else RESTARTING with the rung, the cause recorded with attempt 0, and the ladder position as it was. -/
def RestartOrdered (s t : State) (rung : Nat) (cause : Cause) (origin : Origin) (refusal : Option AnswerCode) : Prop :=
  let allowed : Prop := s.sup.state = .booting ∨ s.sup.state = .running
  (s.sup.ladder.rungCount ≤ rung → t = s ∧ refusal = some .badArgument) ∧
  (rung < s.sup.ladder.rungCount → ¬ allowed → t = s ∧ refusal = some .wrongState) ∧
  (rung < s.sup.ladder.rungCount → allowed → refusal = none ∧ ∀ r : Fin 6, r.val = rung →
    RestartBegun (s.counted cause) t r origin [causeReport s cause (some r) 0 0] ∧
    CauseRecorded s t cause (some r) 0 0 ∧ t.sup.rung = s.sup.rung ∧ t.sup.attempts = s.sup.attempts ∧ t.sup.ladder = s.sup.ladder ∧ HostFrame s t)

/-- POWER ON has been ordered (R70): WRONG_STATE outside OFF, changing nothing; else a start order. -/
def PowerOnOrdered (s t : State) (refusal : Option AnswerCode) : Prop :=
  (s.sup.state ≠ .off → t = s ∧ refusal = some .wrongState) ∧
  (s.sup.state = .off → refusal = none ∧ StartOrdered s t ∧ HostFrame s t)

/-- A release of the hold has been ordered (R89): WRONG_STATE outside HELD, changing nothing; else the ladder copy
refreshed, the position at rung 0 with 0 attempts, and a start order. -/
def ReleaseOrdered (s t : State) (refusal : Option AnswerCode) : Prop :=
  (s.sup.state ≠ .held → t = s ∧ refusal = some .wrongState) ∧
  (s.sup.state = .held → refusal = none ∧ StartOrdered s t ∧ t.sup.ladder = ladderOf s.mem ∧ t.sup.rung = 0 ∧
    t.sup.attempts = 0 ∧ HostFrame s t)

/-- A forced shutdown has been ordered (R87): disregarded in OFF and HELD; in SHUTTING the target is OFF and a halt
delay in progress ends at once; from any other state SHUTTING is entered with target OFF. -/
def ForcedDown (s t : State) : Prop :=
  (s.sup.state = .off ∨ s.sup.state = .held → t = s) ∧
  (s.sup.state = .shutting → t.sup.state = .shutting ∧ t.sup.target = some .off ∧ t.sup.wakeAfter = none ∧
    t.sup.haltTimer = none ∧ (s.sup.haltTimer = none → t.channels = s.channels ∧ t.transit = s.transit) ∧
    (s.sup.haltTimer ≠ none → SupervisorStarted s t (offHead s.mem) (hostMask s.mem) [])) ∧
  (s.sup.state ≠ .off → s.sup.state ≠ .held → s.sup.state ≠ .shutting →
    ShutdownBegun s t .off ∧ t.sup.wakeAfter = none ∧ SupervisorStarted s t (offHead s.mem) (hostMask s.mem) []) ∧
  HostFrame s t

/-- BOOTING entered at stage 0 (R74): the checkpoint copy absent and the stage deadline started for boot table entry 0. -/
def BootBegun (s t : State) : Prop :=
  t.sup.state = .booting ∧ t.sup.sub = .none ∧ t.sup.bootStage = 0 ∧ t.sup.stageReached = some 0 ∧
  t.sup.checkpointCopy = none ∧ t.sup.stageTimer = some (s.clock + max 1 (s.mem.nat16 0x1184) * 100000)

/-! ### Keys, entries and bytes -/

/-- Position p reads closed and completes a rectangle of closed positions with another row and another column (R95). -/
def Ghosted (reading : BitVec 64) (p : Fin 64) : Prop :=
  ∃ r c : Nat, r < 8 ∧ c < 8 ∧ r ≠ p.val / 8 ∧ c ≠ p.val % 8 ∧ reading.getLsbD (8 * (p.val / 8) + c) = true ∧
    reading.getLsbD (8 * r + p.val % 8) = true ∧ reading.getLsbD (8 * r + c) = true

/-- The keypad is locked (R104). -/
abbrev State.Locked (s : State) : Prop :=
  s.keypad.deskLock = true ∨ (lockPolicy s.mem = true ∧ s.keypad.published ≠ .running)

/-- The host's own bytes (R131): the five host-writable header words, the desk's request halves, settings and scratch. -/
abbrev HostByte (a : Nat) : Prop := (8 ≤ a ∧ a < 16) ∨ (0x100 ≤ a ∧ a < 0x200 ∧ a % 32 < 10) ∨ 0x1000 ≤ a

/-- A byte of a report cell's sequence word (R131). -/
abbrev SequenceByte (a : Nat) : Prop := 0x200 ≤ a ∧ a < 0xA00 ∧ a % 32 < 2

/-! ### What the schedule does, as chapter 7 tells it -/

/-- A report has been posted into the pool, as the command REPORT_POSTING posts it (R156). -/
def Posted (s t : State) (r : Posting) : Prop :=
  exec (.reportPosting r) { s with transit := .reportPosting r :: s.transit } = .next t

/-- The payload of a SNAPSHOT's report by its subkind (R128, R169). -/
def State.snapshotWords (s : State) (sub : Nat) : Payload :=
  let w (ch : Fin 9) : DWord := sensorWord s.sensors[ch].state s.sensors[ch].held s.sensors[ch].sampled
  let heat (z : Fin 3) : DWord := natWord (s.zones[z].lastDemand + s.zones[z].lastGrant * 65536)
  let fan (f : Fin 2) : DWord := natWord (s.fans[f].rpm + fanCode s.fans[f].state * 65536)
  if sub = 1 then { w0 := w 0, w1 := w 1, w2 := w 2, w3 := w 3 }
  else if sub = 2 then { w0 := w 4, w1 := w 5, w2 := w 6, w3 := w 7 }
  else if sub = 3 then { w0 := w 8, w1 := heat 0, w2 := heat 1, w3 := heat 2 }
  else { w0 := fan 0, w1 := fan 1, w2 := supWordOf s.sup.state s.sup.sub, w3 := natWord (gateCode s.gate.state) }

/-- A SNAPSHOT has been taken for entry e (R128): its four NORMAL reports posted one after another with nothing between.
-/
def SnapshotTaken (s t : State) (e : Fin 32) : Prop :=
  let report (sub : Nat) : Posting :=
    { kind := .snapshot, subkind := BitVec.ofNat 8 sub, urgent := false, stamp := s.uptime, source := BitVec.ofNat 8 e.val
      payload := s.snapshotWords sub }
  ∃ a b c : State, Posted s a (report 1) ∧ Posted a b (report 2) ∧ Posted b c (report 3) ∧ Posted c t (report 4)

/-- A boost has been requested (R13): each named zone's boost is the larger of its value and the seconds, and 0 ends it; a
zone above 2 is refused with BAD_ARGUMENT, changing nothing. -/
def BoostRequested (s t : State) (target : BoostTarget) (seconds : Nat) (refusal : Option AnswerCode) : Prop :=
  (∀ z : Fin 3, t.zones[z] =
    if target = .all ∨ target = .zone z.val then
      { s.zones[z] with boost := if seconds = 0 then 0 else max s.zones[z].boost seconds }
    else s.zones[z]) ∧
  refusal = (match target with
    | .all => none
    | .zone n => if n < 3 then none else some .badArgument) ∧
  t = { s with zones := t.zones }

/-- Entry e has acted (R127, R130): its action sent to the owner, which answers at once, a refused one counted as a
skip, and the outcome shown with the uptime. -/
def EntryActs (s t : State) (e : Fin 32) : Prop :=
  let b := 0x1210 + 8 * e.val
  let action := s.mem.byte (b + 4)
  let argument := s.mem.byte (b + 5)
  ∃ (u : State) (refusal : Option AnswerCode) (channel : Option (Fin 4)),
    (action = 1 → ∀ h : Fin 16, h.val = min argument 15 → SequenceRequested s u h .schedule refusal channel) ∧
    (action = 2 → channel = none ∧ ∀ f : Fin 2, f.val = min argument 1 →
      SweepRequested s u f .test .schedule none refusal) ∧
    (action = 3 → channel = none ∧ refusal = none ∧ SnapshotTaken s u e) ∧
    (action = 4 → channel = none ∧
      BoostRequested s u (if argument = 255 then .all else .zone argument) (s.mem.nat16 (b + 6)) refusal) ∧
    (action = 0 ∨ 4 < action → channel = none ∧ refusal = some .badKind ∧ u = s) ∧
    t = { u with
      transit := u.transit ++ (if refusal = none then [] else [.counterIncrement .scheduleSkips])
      sched := { u.sched with
        outcomes := put u.sched.outcomes e (some { refusal := refusal, channel := channel, stamp := s.uptime }) } }

/-- Entry e has been taken at an advance of tick k (R123 to R126): an entry of another tick or a disabled one stands; a
periodic one counts down, or acts and reloads within its jitter range; a once-entry acts and is disabled. -/
def EntryTaken (k : Fin 8) (s t : State) (e : Fin 32) : Prop :=
  let b := 0x1210 + 8 * e.val
  let counts : Prop := min (s.mem.byte b) 7 = k.val
  let period := s.mem.byte (b + 1)
  let n := max 1 (min 254 (s.mem.byte (b + 2)))
  let mode := min (s.mem.byte (b + 3)) 3
  let least := max 1 (if mode = 0 then period else if mode = 1 then 3 * period / 4
    else if mode = 2 then period / 2 else 1)
  let others (a : Nat) : Prop := ∀ i : Nat, i ≠ a → t.mem.read i = s.mem.read i
  (¬ counts ∨ period = 0 → t = s) ∧
  (counts → period = 255 → t.mem.read (b + 1) = 0#8 ∧ others (b + 1) ∧
    ∃ u, EntryActs s u e ∧ t = { u with mem := t.mem }) ∧
  (counts → 0 < period → period < 255 → 1 < n → t.mem.byte (b + 2) = n - 1 ∧ others (b + 2) ∧
    t = { s with mem := t.mem }) ∧
  (counts → 0 < period → period < 255 → n = 1 →
    least ≤ t.mem.byte (b + 2) ∧ t.mem.byte (b + 2) ≤ period ∧ others (b + 2) ∧
    ∃ u, EntryActs s u e ∧ t = { u with mem := t.mem, sched := { u.sched with genCount := t.sched.genCount } })

/-! ### What the chord and light unit does, as chapter 6 tells it -/

/-- A code is one of the held codes (R106, R109): a key in DOWN or RELEASING has latched it, and it is not 0. -/
def State.HoldsCode (s : State) (code : Nat) : Prop :=
  code ≠ 0 ∧ ∃ p : Fin 64, (s.keypad.keys[p].state = .down ∨ s.keypad.keys[p].state = .releasing) ∧
    s.keypad.keys[p].latched.map (fun e => e.code.toNat) = some code

/-- A used key in DOWN or RELEASING carries a latched POWER flag (R113). -/
def State.HoldsPower (s : State) : Prop :=
  ∃ p : Fin 64, (s.keypad.keys[p].state = .down ∨ s.keypad.keys[p].state = .releasing) ∧
    s.keypad.keys[p].latched.map (fun e => decide (e.code ≠ 0#7) && e.power) = some true

/-- Chord n has fired (R110, R111): its action sent to the owner, the firing and a refusal counted, the CHORD report
posted. The argument an action does not use is shown as the table has it (log 45). -/
def ChordFired (s t : State) (n : Fin 8) : Prop :=
  let b := 0x1900 + 8 * n.val
  let word := s.mem.nat16 (b + 6)
  let action := if 1 ≤ s.mem.byte (b + 4) ∧ s.mem.byte (b + 4) ≤ 8 then s.mem.byte (b + 4) else 8
  let argument := if action = 1 then min word 5 else if action = 5 then min word 1
    else if action = 6 then min word 15 else word
  ∃ (u : State) (refusal : Option AnswerCode) (channel : Option (Fin 4)),
    (action = 1 → RestartOrdered s u argument .chord .chord refusal) ∧
    (action = 2 → PowerOnOrdered s u refusal) ∧
    (action = 3 → ReleaseOrdered s u refusal) ∧
    (action = 4 → BoostRequested s u .all argument refusal) ∧
    (action = 5 → ∀ f : Fin 2, f.val = argument → SweepRequested s u f .test .chord none refusal) ∧
    (action = 6 → ∀ h : Fin 16, h.val = argument → SequenceRequested s u h .chord refusal channel) ∧
    (action = 7 → refusal = none ∧ u = { s with
      chords := { s.chords with testEnds := some (s.clock + 5000000) }
      shown := { s.shown with chords := u.shown.chords } }) ∧
    (action = 8 → refusal = none ∧ u = s) ∧
    (action ≠ 6 → channel = none) ∧
    t = { u with transit := u.transit ++ [.counterIncrement .chordsFired]
      ++ (if refusal = none then [] else [.counterIncrement .chordsRefused])
      ++ [posting s.uptime .chord (BitVec.ofNat 8 action) false (BitVec.ofNat 8 n.val)
        { w0 := natWord argument, w1 := if refusal = none then 0 else 1
          w2 := natWord (match refusal with | some code => answerCode code | none => 0)
          w3 := natWord (match channel with | some c => c.val | none => 0) }] }

/-- Chord n has been treated at a hand-off (R108, R109): an entry that is disabled or displaced loses its match start;
one that takes part re-arms when a code of its own is not held, loses its match start when the held codes are not its
key set, and armed and matched takes its start, and fires once its hold time has run. -/
def ChordTaken (s t : State) (n : Fin 8) : Prop :=
  let keyOf (m : Fin 8) (c : Nat) : Prop := c ≠ 0 ∧ ∃ i : Fin 3, c = min (s.mem.byte (0x1900 + 8 * m.val + i.val)) 127
  let takesPart : Prop := (∃ c : Fin 128, keyOf n c.val) ∧
    ¬ ∃ m : Fin 8, m < n ∧ ∀ c : Fin 128, keyOf m c.val ↔ keyOf n c.val
  let isMatch : Prop := ∀ c : Fin 128, keyOf n c.val ↔ s.HoldsCode c.val
  let x := s.chords.chords[n]
  let isArmed : Prop := x.armed = true ∨ ∃ c : Fin 128, keyOf n c.val ∧ ¬ s.HoldsCode c.val
  let start := x.matchStart.getD s.uptime
  let ripe : Prop := 100 * max 1 (min 100 (s.mem.byte (0x1900 + 8 * n.val + 3))) ≤ (s.uptime - start).toNat
  let changed (y : Chord) : State := { s with chords := { s.chords with chords := put s.chords.chords n y } }
  (¬ takesPart → t = changed { x with matchStart := none }) ∧
  (takesPart → ¬ isMatch → isArmed → t = changed { armed := true, matchStart := none }) ∧
  (takesPart → ¬ isMatch → ¬ isArmed → t = changed { armed := false, matchStart := none }) ∧
  (takesPart → isMatch → ¬ isArmed → t = s) ∧
  (takesPart → isMatch → isArmed → ¬ ripe → t = changed { armed := true, matchStart := some start }) ∧
  (takesPart → isMatch → isArmed → ripe → ChordFired (changed { armed := false, matchStart := none }) t n)

/-- A long press has been taken by the state most recently published (R114): the start order or the release with the press
disarmed and its report, refused or not; the forced-off timer started; or ignored and counted. -/
def LongPressed (s t : State) : Prop :=
  let st := s.chords.published
  let word := supWordOf st s.chords.publishedSub
  let seconds := max 1 (min 600 (s.mem.nat16 0x11AC))
  let reported (u : State) (sub : Byte) (refusal : Option AnswerCode) : Prop := t = { u with
    chords := { u.chords with press := u.chords.press.map fun p => { p with disarmed := true } }
    transit := u.transit ++ (if refusal = none then [] else [.counterIncrement .chordsRefused])
      ++ [posting s.uptime .powerKey sub true 0 { w0 := word, w1 := if refusal = none then 0 else 1 }] }
  let ignored : Prop := t = { s with transit := s.transit ++ [.counterIncrement .chordsRefused] }
  (st = .off → ∃ u refusal, PowerOnOrdered s u refusal ∧ reported u 1 refusal) ∧
  (st = .held → ∃ u refusal, ReleaseOrdered s u refusal ∧ reported u 2 refusal) ∧
  (st = .booting ∨ st = .running →
    (s.chords.forcedOffTimer = none → t = { s with
      chords := { s.chords with forcedOffTimer := some (s.clock + seconds * 1000000) }
      shown := { s.shown with chords := t.shown.chords }
      transit := s.transit ++ [posting s.uptime .powerKey 3 true 0 { w0 := word, w2 := natWord seconds }] }) ∧
    (s.chords.forcedOffTimer ≠ none → ignored)) ∧
  (st = .warming ∨ st = .powering ∨ st = .restarting ∨ st = .shutting → ignored)

/-- A forced hold has been taken (R116): nothing for a disarmed press, or in OFF and HELD; else the forced-off timer
stopped, a forced shutdown ordered and the urgent report posted, with the state the unit acted on (log 36). -/
def ForcedHeld (s t : State) (disarmed : Bool) : Prop :=
  let idle : Prop := disarmed = true ∨ s.chords.published = .off ∨ s.chords.published = .held
  (idle → t = s) ∧
  (¬ idle → ∃ stopped u : State,
    stopped = { s with
      chords := { s.chords with forcedOffTimer := none }, shown := { s.shown with chords := stopped.shown.chords } } ∧
    ForcedDown stopped u ∧
    t = { u with transit := u.transit ++
      [posting s.uptime .powerKey 5 true 0 { w0 := supWordOf s.chords.published s.chords.publishedSub }] })

/-- The power key has been treated at a hand-off (R112, R113): the press started or ended with its elapsed time, then
the long press and then the forced hold, each taken once at the first hand-off that reaches its time. -/
def PowerTaken (s t : State) : Prop :=
  let p := s.chords.press.getD { start := s.uptime }
  let elapsed := s.uptime - p.start
  let pressed (q : PowerPress) : State :=
    { s with chords := { s.chords with press := some q, elapsedAtScan := some elapsed } }
  let isLong : Prop := p.longDone = false ∧ 100 * max 5 (min 100 (s.mem.nat16 0x1940)) ≤ elapsed.toNat
  (¬ s.HoldsPower → t = { s with chords := { s.chords with press := none, elapsedAtScan := none } }) ∧
  (s.HoldsPower → ∃ u : State,
    (¬ isLong → u = pressed p) ∧ (isLong → LongPressed (pressed { p with longDone := true }) u) ∧
    ∀ q, u.chords.press = some q →
      let isForced : Prop := q.forcedDone = false ∧ 100 * max 10 (min 300 (s.mem.nat16 0x1942)) ≤ elapsed.toNat
      (¬ isForced → t = u) ∧
      (isForced → ForcedHeld { u with chords := { u.chords with press := some { q with forcedDone := true } } } t
        q.disarmed))

/-- The chord and light unit's record x as it stands once the supervisor's change from `before` to `after` has been
published to it at a moment (R69): WARMING begins a progress of 0 and awaits the re-arm (R118), and any state but BOOTING
and RUNNING stops the forced-off timer (R115), leaving the expiry of one due by then open (log 51). -/
def PublicationTaken (x y : ChordUnit) (moment : Nat) (before after : Sup) : Prop :=
  let stops : Prop := before.state ≠ after.state ∧ after.state ≠ .booting ∧ after.state ≠ .running
  (before.state = after.state → y = x) ∧
  (¬ stops → y.openExpiry = x.openExpiry) ∧ (stops → x.forcedOffTimer = none → y.openExpiry = x.openExpiry) ∧
  (∀ due, stops → x.forcedOffTimer = some due → y.openExpiry =
    if due ≤ moment then some { moment := moment, word := supWordOf x.published x.publishedSub } else none) ∧
  (before.state ≠ after.state → y = { x with
    openExpiry := y.openExpiry
    published := after.state, publishedSub := after.sub
    progress := if after.state = .warming then 0 else x.progress
    rearmAwaited := if after.state = .warming then true else x.rearmAwaited
    forcedOffTimer := if after.state = .booting ∨ after.state = .running then x.forcedOffTimer else none })

/-! ### What the desk does, as chapter 9 tells it -/

/-- A slot has been taken and dispatched (R144, R146): an unknown kind, the desk's own refusals, and each of the
thirteen kinds sent to its owner with the captured arguments. -/
def SlotTaken (s t : State) (slot : Fin 8) : Prop :=
  let b := 0x100 + 32 * slot.val
  let w0 := s.mem.read16 (b + 2)
  let w1 := s.mem.read16 (b + 4)
  let w2 := s.mem.read16 (b + 6)
  let kind := s.mem.byte b
  let request : Request := { kind := s.mem.read b, toggle := s.mem.read (b + 1)
                             args := { w0 := w0, w1 := w1, w2 := w2, w3 := s.mem.read16 (b + 8) } }
  let sent (c : Instr) : Prop := t = { s with
    slots := put s.slots slot { s.slots[slot] with taken := some request }, transit := s.transit ++ [c] }
  let refused (code : AnswerCode) : Prop := t = { s with
    slots := put s.slots slot { taken := none, answerCode := some code, answerToggle := request.toggle, data := {} }
    transit := s.transit ++ [.noticeMarkSet .desk] }
  let checked (ok : Prop) (c : Instr) : Prop := (ok → sent c) ∧ (¬ ok → refused .badArgument)
  (kind = 0 ∨ 13 < kind → sent (.badKind slot)) ∧
  (kind = 1 → sent (.restartHost slot w0)) ∧
  (kind = 2 → sent (.shutDownHost slot w0 w1 w2)) ∧
  (kind = 3 → sent (.pauseHeartbeat slot w0)) ∧
  (kind = 4 → checked (w0.toNat ≤ 15) (.startSequence slot w0)) ∧
  (kind = 5 → (3 < w0.toNat → refused .badArgument) ∧ (w0.toNat = 0 → refused .wrongState) ∧
    (0 < w0.toNat → w0.toNat ≤ 3 → sent (.stopChannel slot w0))) ∧
  (kind = 6 → checked (w0.toNat ≤ 2 ∧ w1.toNat ≤ 1000) (.climateOverride slot w0 w1 w2)) ∧
  (kind = 7 → checked (w0.toNat ≤ 1 ∧ w1.toNat ≤ 1) (.fanSweep slot w0 w1)) ∧
  (kind = 8 → sent (.storeSettings slot)) ∧
  (kind = 9 → sent (.reloadSettings slot)) ∧
  (kind = 10 → checked (w0.toNat ≤ 6) (.clearCounters slot w0)) ∧
  (kind = 11 → checked (w0.toNat ≤ 1) (.freezeCounters slot w0)) ∧
  (kind = 12 → checked (w0.toNat ≤ 1) (.flushReports slot w0)) ∧
  (kind = 13 → checked (w0.toNat ≤ 1) (.keypadLock slot w0))

/-- A delivered write has been dealt with at a slot it touched (R144, R145), `before` being the post toggle before the
write: a taken slot keeps its request, a changed toggle being an overpost; a free one is taken if it is then posted. -/
def SlotDelivered (s t : State) (slot : Fin 8) (before : Byte) : Prop :=
  let x := s.slots[slot]
  let toggle := s.mem.read (0x101 + 32 * slot.val)
  (x.taken ≠ none → t = { s with transit := s.transit ++ (if toggle = before then [] else [.deskOverpost slot]) }) ∧
  (x.taken = none → toggle = x.answerToggle → t = s) ∧
  (x.taken = none → toggle ≠ x.answerToggle → SlotTaken s t slot)

/-! ### What a READ shows, as chapter 12 lays it out -/

/-- Byte i of a word, byte 0 the least significant (R168). -/
def byteAt {n : Nat} (w : BitVec n) (i : Nat) : Byte := (w >>> (8 * i)).setWidth 8

/-- The nine status blocks whose items the part places itself (State.statusItems): all but the channel block (R170). -/
abbrev HasItems (k : Nat) : Prop := k < 10 ∧ k ≠ 6

/-- In every state every item stands whole in its block, item i of block k from p k i on, and no two in one place (R170;
log 15). -/
def ItemsPlaced (d : Nat → Nat) (p : Nat → Nat → Nat) : Prop :=
  ∀ (s : State) (k i : Nat) (item : List Byte), HasItems k → (s.statusItems k)[i]? = some item →
    d k ≤ p k i ∧ p k i + item.length ≤ d (k + 1) ∧
    ∀ (j : Nat) (other : List Byte), j < i → (s.statusItems k)[j]? = some other →
      p k j + other.length ≤ p k i ∨ p k i + item.length ≤ p k j

/-- v is the byte at the address a of the exchange memory (R131, 12.2 to 12.9), with the status blocks at d 0 to d 9. Of
the blocks the channel block alone is laid out (R170); item i of another block k stands from p k i on, its bytes in rising
order (R168; log 15). -/
def ShowsByte (d : Nat → Nat) (p : Nat → Nat → Nat) (s : State) (a : Nat) (v : Byte) : Prop :=
  let o := a % 32
  let ready : Prop := s.partState ≠ .starting
  -- the header (12.2)
  (a = 0 → v = 0x60#8) ∧ (a = 1 → v = 0x32#8) ∧
  (a = 2 → v = match s.partState with | .starting => 0#8 | .ready => 1#8 | .defaulted => 2#8) ∧
  (a = 3 → v = s.notice.marks &&& 0x3F#8) ∧ (4 ≤ a → a < 8 → v = byteAt s.uptime (a - 4)) ∧ (a = 9 → v = 0#8) ∧
  (a = 8 ∨ (10 ≤ a ∧ a < 16) → v = s.mem.read a) ∧ (a = 16 ∨ a = 17 → v = byteAt s.pool.newest (a - 16)) ∧
  (a = 18 → v = BitVec.ofNat 8 s.pool.order.length) ∧ (a = 19 → v = if s.keypad.deskLock = true then 1#8 else 0#8) ∧
  (20 ≤ a → a < 0x100 → v = 0#8) ∧
  -- the desk slots (12.3)
  (0x100 ≤ a → a < 0x200 → ∀ k : Fin 8, k.val = (a - 0x100) / 32 →
    let x := s.slots[k]
    (o < 10 → v = s.mem.read a) ∧ ((10 ≤ o ∧ o < 16) ∨ 26 ≤ o → v = 0#8) ∧
    (o = 16 → v = match x.answerCode with | none => 0#8 | some c => BitVec.ofNat 8 (answerCode c)) ∧
    (o = 17 → v = x.answerToggle) ∧
    (18 ≤ o → o < 26 → v = byteAt (x.data.w3 ++ x.data.w2 ++ x.data.w1 ++ x.data.w0) (o - 18))) ∧
  -- the report cells (12.4)
  (0x200 ≤ a → a < 0xA00 → ∀ c : Fin 64, c.val = (a - 0x200) / 32 →
    (s.pool.cells[c] = none → v = 0#8) ∧
    ∀ x, s.pool.cells[c] = some x →
      let r := x.report
      (o < 2 → v = byteAt x.shown o) ∧ (o = 2 → v = BitVec.ofNat 8 (kindCode r.kind)) ∧ (o = 3 → v = r.subkind) ∧
      (o = 4 → v = if r.urgent = true then 1#8 else 0#8) ∧ (o = 5 → v = r.source) ∧
      (8 ≤ o → o < 12 → v = byteAt r.stamp (o - 8)) ∧
      (12 ≤ o → o < 28 → v = byteAt (r.payload.w3 ++ r.payload.w2 ++ r.payload.w1 ++ r.payload.w0) (o - 12)) ∧
      (o = 6 ∨ o = 7 ∨ 28 ≤ o → v = 0#8)) ∧
  -- the directory and the channel block (12.5, 12.6)
  (0xA00 ≤ a → a < 0xC00 → ¬ ready → v = 0#8) ∧
  (0xA00 ≤ a → a < 0xA14 → ready → v = byteAt (BitVec.ofNat 16 (d ((a - 0xA00) / 2))) (a % 2)) ∧
  (d 6 ≤ a → a < d 6 + 48 → ready → ∀ c : Fin 4, c.val = (a - d 6) / 12 →
    let x := s.channels[c]
    let i := (a - d 6) % 12
    (i = 0 → v = BitVec.ofNat 8 (chanCode x.state)) ∧ (i = 1 → v = BitVec.ofNat 8 x.sequence.val) ∧
    (i = 2 → v = x.mask.setWidth 8) ∧ (i = 3 → v = x.step) ∧ (i = 4 → v = BitVec.ofNat 8 x.repeatLeft) ∧
    (i = 5 → v = match x.runs with | .left n => BitVec.ofNat 8 n | _ => 0#8) ∧
    (i = 6 → v = BitVec.ofNat 8 (starterCode x.starter)) ∧ (i = 7 → v = BitVec.ofNat 8 (endedCode x.endedBy)) ∧
    (i = 8 → v = BitVec.ofNat 8 (faultCode x.fault)) ∧ (i = 9 → v = x.faultStep) ∧ (10 ≤ i → v = 0#8)) ∧
  -- the items of the other blocks, and the bytes of none (R131)
  (ready → ∀ k i j : Nat, HasItems k → a = p k i + j →
    ∀ item, (s.statusItems k)[i]? = some item → ∀ b, item[j]? = some b → v = b) ∧
  (0xA14 ≤ a → a < 0xC00 → ready → ¬ (d 6 ≤ a ∧ a < d 6 + 48) →
    (∀ (k i : Nat) (item : List Byte), HasItems k → (s.statusItems k)[i]? = some item →
      a < p k i ∨ p k i + item.length ≤ a) → v = 0#8) ∧
  -- the counters (12.9) and the restart history (12.7)
  (0xC00 ≤ a → a < 0xD00 →
    (∀ n : Fin 54, n.val = (a - 0xC00) / 4 → v = byteAt (natWord s.counters.values[n]) (a % 4)) ∧
    (0xCD8 ≤ a → a < 0xCFC → v = 0#8) ∧ (a = 0xCFC → v = if s.counters.frozen = true then 1#8 else 0#8) ∧
    (0xCFC < a → v = 0#8)) ∧
  (a = 0xDF0 → v = BitVec.ofNat 8 s.sup.history.length) ∧ (0xDF0 < a → a < 0xE00 → v = 0#8) ∧
  (0xD00 ≤ a → a < 0xDF0 →
    let i := (a - 0xD00) % 30
    (s.sup.history[(a - 0xD00) / 30]? = none → v = 0#8) ∧
    ∀ e, s.sup.history[(a - 0xD00) / 30]? = some e →
      (i < 4 → v = byteAt (natWord e.serial) i) ∧ (i = 4 → v = BitVec.ofNat 8 (causeCode e.cause)) ∧
      (i = 5 → v = match e.rung with | some r => BitVec.ofNat 8 r.val | none => 0xFF#8) ∧
      (i = 6 → v = BitVec.ofNat 8 e.attempt) ∧
      (i = 7 → v = match e.stageReached with | some n => BitVec.ofNat 8 n | none => 0xFF#8) ∧
      (i = 8 → v = BitVec.ofNat 8 (supCode e.stateAt)) ∧ (i = 9 → v = BitVec.ofNat 8 (subCode e.subAt)) ∧
      (10 ≤ i → i < 14 → v = byteAt e.stamp (i - 10)) ∧ (14 ≤ i → i < 18 → v = byteAt e.s0 (i - 14)) ∧
      (18 ≤ i → i < 22 → v = byteAt e.s2 (i - 18)) ∧ (22 ≤ i → v = 0#8)) ∧
  -- the unassigned bytes, the settings and scratch (R131)
  (0xE00 ≤ a → a < 0x1000 → v = 0#8) ∧ (0x1000 ≤ a → v = s.mem.read a)

end Sys2Proof.Machine
end

