-- ==== Sys2Proof/Certificates/Slice0/Obligations.lean ====
section
/-! DEFINITION. The statements for the provers. Each docstring names the rules of spec/ a statement formalises, and the
log entries it rests on where the model chose. In every statement the moment a timed command moves the clock to (log
16), and the commands in transit that stand for the events 95 makes steps of their own (log 1), are the model's choice.
-/

open Sys2Proof Sys2Proof.Machine Host

/-! ### The queue and start-up -/

/-- A step takes the command at the front of the queue and runs its meaning with the queue's rest. On an empty queue the
model's choice (log 19): the oldest event in transit is taken, and with none a millisecond passes. -/
def Obligations.StepRunsFront : Prop :=
  (∀ (c : Instr) (rest : List Instr) (s : State), s.pending = c :: rest → step s = exec c { s with pending := rest }) ∧
  (∀ s : State, s.pending = [] →
     (∀ c rest, s.transit = c :: rest → step s = exec c s) ∧
     (s.transit = [] → step s = .next { s with clock := s.clock + 1000 }))

/-- Step 1 of start-up (R164), from any state: every block at its power-on values (R4, R20, R36, R49, R53, R61, R69,
R107, R130, R132, R143, R155, R162), the nonvolatile memory kept, erased where a store had begun its erase (R165), no
wake-after time kept, each rail's good state its PG level. That the generator starts from a value of its own is the
model's reading (log 3). A released RESET runs it again with the levels as they then stand; a RESET not held has nothing
to release. The model's are also the zeros the settings region reads until the load, which R132 leaves out (log 6), the
clock at 0, the queue kept, the events inside the part gone, and the levels at a release (logs 5 and 41), and the soak
remaining held as none (log 53). -/
def Obligations.PowerOnReset : Prop :=
  ∀ s : State,
    (∀ (e : ResetEvent) (pg : BitVec 6), ∃ t, exec (.powerOnReset e pg) s = .next t ∧ t.resetHeld = e.held ∧
      PoweredOn { s with clock := s.clock + e.us } t fun r => pg.getLsbD r.val) ∧
    (s.resetHeld = true → ∃ t, exec .resetRelease s = .next t ∧ t.resetHeld = false ∧
      PoweredOn s t fun r => s.rails[r].good) ∧
    (s.resetHeld = false → exec .resetRelease s = .next s)

/-- The end of the load (R164): the settings region as the image, or the factory defaults on a mismatch, every other
byte as it was; sampling, passes, scans, tachometer updates, tick phases and the age timer begin; a defaulted start sets
the SETTINGS mark and posts the DEFAULTED report, which in an empty pool takes number 1 and cell 0; the supervisor takes
its ladder copy, and auto-start is POWER ON's start order. The first moments and the defaulted start's report in this
event are the model's reading (logs 43 and 44). -/
def Obligations.StartUpLoad : Prop :=
  ∀ (us : Nat) (s : State), s.partState = .starting → s.resetHeld = false → s.nv.image.imageWf = true →
    ∃ t, exec (.startUpLoadComplete us) s = .next t ∧
      let ok := s.nv.valid = true ∧ imageCrc s.nv.image = s.nv.crc
      t.clock = s.clock + us ∧ t.partState = (if ok then .ready else .defaulted) ∧
      (∀ a : Nat, 0x1000 ≤ a → a < 0x3000 → t.mem.read a = (if ok then s.nv.image else factoryImage).read a) ∧
      (∀ a : Nat, a < 0x1000 ∨ 0x3000 ≤ a → t.mem.read a = s.mem.read a) ∧
      (∀ ch : Fin 9, t.sensors[ch] = { s.sensors[ch] with nextSample := some t.clock }) ∧
      t.nextPass = some (t.clock + 1000000) ∧ t.keypad.nextScan = some t.clock ∧
      (∀ f : Fin 2, t.fans[f] = { s.fans[f] with nextUpdate := some t.clock }) ∧
      (∀ k : Fin 8, t.sched.lengths[k] = tickLength t.mem k.val ∧
        t.sched.nextAdvance[k] = some (t.clock + tickLength t.mem k.val * 1000) ∧
        t.shown.ticks.lengths[k] = tickLength t.mem k.val ∧ t.shown.ticks.left[k] = some (tickLength t.mem k.val)) ∧
      t.pool.ageTimer = some (t.clock + agePeriod t.mem * 1000000) ∧
      (ok → t.notice = s.notice ∧ t.pool.cells = s.pool.cells ∧ t.pool.order = s.pool.order) ∧
      (¬ ok → t.notice.marks = s.notice.marks ||| 0x20#8 ∧
        (s.pool = {} → t.pool.order = [0] ∧ t.pool.newest = 1 ∧
          t.pool.cells[(0 : Fin 64)] = some
            { report := { kind := .settings, subkind := 3, urgent := true, stamp := t.uptime, source := 0
                          payload := { w0 := natWord s.nv.count } }
              number := 1, shown := 1, aged := false })) ∧
      LinkEvaluated s t (linkRail t.mem) ∧
      ∃ (u : State) (sent : List Instr) (refusal : Option AnswerCode),
        (ok → sent = []) ∧
        (¬ ok → ∃ p : State,
          Posted { s with clock := t.clock, mem := t.mem, notice := t.notice } p
            { kind := .settings, subkind := 3, urgent := true, stamp := t.uptime, source := 0
              payload := { w0 := natWord s.nv.count } } ∧
          p.transit = s.transit ++ sent ∧ t.pool = { p.pool with ageTimer := t.pool.ageTimer }) ∧
        u.sup = { s.sup with ladder := ladderOf t.mem, rung := u.sup.rung, attempts := u.sup.attempts } ∧
        u.sup.rung.val = (if s.sup.rung.val < rungCount t.mem then s.sup.rung.val else rungCount t.mem - 1) ∧
        u.sup.attempts = min s.sup.attempts (rungLimit t.mem u.sup.rung) ∧
        u = { s with
          clock := t.clock, transit := s.transit ++ sent, partState := t.partState, mem := t.mem, sensors := t.sensors
          nextPass := t.nextPass, fans := t.fans, sup := u.sup
          keypad := { s.keypad with nextScan := some t.clock }
          sched := { s.sched with lengths := t.sched.lengths, nextAdvance := t.sched.nextAdvance }
          pool := t.pool, notice := { s.notice with marks := t.notice.marks }, link := t.link
          shown := { s.shown with ticks := t.shown.ticks } } ∧
        (autoStart t.mem = true → PowerOnOrdered u t refusal ∧
          (u.sup.state = .off → t.transit = u.transit ++ [.gateRearm] ∧ t.sup = { u.sup with
            state := .warming, sub := .none, gateWait := true, wakeTimer := none, heldRetryTimer := none
            awaiting := none })) ∧
        (autoStart t.mem = false → t = u)

/-! ### Sensors -/

/-- An invalid sample (R2): the runs, the channel's state, the report and the count on entry to FAILED, with S4 handed
on to the scanner. A channel's sample leaves every other channel as it was (R1). -/
def Obligations.InvalidSample : Prop :=
  ∀ (ch : Fin 9) (raw : Option Int) (s : State) (due : Nat), s.sensors[ch].nextSample = some due →
    (∀ v, raw = some v → ¬ inSpan ch v) →
    ∃ t, exec (.sensorSample ch raw) s = .next t ∧
      let c := s.sensors[ch]
      let d := t.sensors[ch]
      d.invalidRun = min (c.invalidRun + 1) 40 ∧ d.validRun = 0 ∧ d.held = c.held ∧ d.sampled = c.sampled ∧
      d.nextSample = some (due + 250000) ∧
      (c.state = .ok → d.state = if 4 ≤ c.invalidRun + 1 then .holding else .ok) ∧
      (c.state = .holding → d.state = if 40 ≤ c.invalidRun + 1 then .failed else .holding) ∧
      (c.state = .failed → d.state = .failed) ∧
      (∀ e : Fin 9, e ≠ ch → t.sensors[e] = s.sensors[e]) ∧ t.clock = max s.clock due ∧
      t.transit = s.transit
        ++ (if c.state ≠ .failed ∧ d.state = .failed then
              [.counterIncrement (.sensorFailures ch),
               posting t.uptime .zoneSensor 1 true (BitVec.ofNat 8 ch.val) { w0 := sensorWord .failed c.held c.sampled }]
            else [])
        ++ (if ch = 4 then [.s4ColdModeUpdate d.state d.held d.sampled] else []) ∧
      t = { s with clock := t.clock, sensors := t.sensors, transit := t.transit }

/-- A valid sample (R3): published at once in OK, and in HOLDING or FAILED at the eighth valid sample in a row; a return
from FAILED posts RESTORED, a return from HOLDING nothing. -/
def Obligations.ValidSample : Prop :=
  ∀ (ch : Fin 9) (v : Int) (s : State) (due : Nat), s.sensors[ch].nextSample = some due → inSpan ch v →
    ∃ t, exec (.sensorSample ch (some v)) s = .next t ∧
      let c := s.sensors[ch]
      let d := t.sensors[ch]
      d.validRun = min (c.validRun + 1) 8 ∧ d.invalidRun = 0 ∧ d.nextSample = some (due + 250000) ∧
      (c.state = .ok ∨ 8 ≤ c.validRun + 1 → d.state = .ok ∧ d.held = v ∧ d.sampled = true) ∧
      (c.state ≠ .ok → c.validRun + 1 < 8 → d.state = c.state ∧ d.held = c.held ∧ d.sampled = c.sampled) ∧
      (∀ e : Fin 9, e ≠ ch → t.sensors[e] = s.sensors[e]) ∧ t.clock = max s.clock due ∧
      t.transit = s.transit
        ++ (if c.state = .failed ∧ d.state = .ok then
              [posting t.uptime .zoneSensor 2 true (BitVec.ofNat 8 ch.val) { w0 := sensorWord .ok v true }]
            else [])
        ++ (if ch = 4 then [.s4ColdModeUpdate d.state d.held d.sampled] else []) ∧
      t = { s with clock := t.clock, sensors := t.sensors, transit := t.transit }

/-- R94's table, with the cold threshold read at the event. -/
def Obligations.ColdModeFollowsS4 : Prop :=
  ∀ (state : Validity) (held : Int) (sampled : Bool) (s : State),
    ∃ t, exec (.s4ColdModeUpdate state held sampled) s = .next t ∧
      let limit := coldThreshold s.mem
      (state = .failed ∨ sampled = false → t.keypad.coldMode = s.keypad.coldMode) ∧
      (state ≠ .failed → sampled = true →
        (held < limit → t.keypad.coldMode = true) ∧ (limit + 32 ≤ held → t.keypad.coldMode = false) ∧
        (limit ≤ held → held ≤ limit + 31 → t.keypad.coldMode = s.keypad.coldMode)) ∧
      t = { s with
        transit := s.transit.erase (.s4ColdModeUpdate state held sampled)
        keypad := { s.keypad with coldMode := t.keypad.coldMode } }

/-! ### The climate pass -/

/-- A zone's demand in a pass (R5, R8 to R12, R14 to R16): the effective setpoint, the integrator with its two hold
conditions, the demand with its overrides in order, and the boost and override counting down. -/
def Obligations.ZoneDemand : Prop :=
  ∀ (low : Bool) (s : State) (due : Nat) (z : Fin 3), s.nextPass = some due →
    ∃ t, exec (.climatePass low) s = .next t ∧
      let cfg := zoneCfg s.mem z
      let c := s.sensors[cfg.control]
      let x := s.zones[z]
      let y := t.zones[z]
      y.boost = x.boost - 1 ∧
      y.override = (match x.override with
        | some o => if 1 < o.remaining then some { o with remaining := o.remaining - 1 } else none
        | none => none) ∧
      (cfg.rated = 0 → y.setpoint = some cfg.target ∧ y.integrator = 0 ∧ y.lastDemand = 0) ∧
      (cfg.rated ≠ 0 → ∃ e : Int, y.setpoint = some e ∧
        (s.gate.rearmPending = true ∨ x.setpoint = none →
          (c.Live → e = min c.held cfg.target) ∧ (¬ c.Live → e = cfg.target)) ∧
        (∀ e₀, s.gate.rearmPending = false → x.setpoint = some e₀ →
          e = if cfg.ramp = 0 then cfg.target else min cfg.target (e₀ + cfg.ramp)) ∧
        (¬ c.Live → y.integrator = x.integrator) ∧
        (c.Live →
          let err := max (-640) (min 640 (e - c.held))
          y.integrator =
            if ((x.lastDemand = 1000 ∨ x.lastGrant < x.lastDemand) ∧ 0 < err) ∨ (x.lastDemand = 0 ∧ err < 0) then
              x.integrator
            else max 0 (min 16000 (x.integrator + (cfg.ki * err).tdiv 16))) ∧
        (∀ o, x.override = some o → y.lastDemand = o.duty) ∧
        (x.override = none → 0 < x.boost → y.lastDemand = 1000) ∧
        (x.override = none → x.boost = 0 → ¬ c.Live → y.lastDemand = cfg.failSafe) ∧
        (x.override = none → x.boost = 0 → c.Live → c.held < cfg.boostBelow → y.lastDemand = 1000) ∧
        (x.override = none → x.boost = 0 → c.Live → cfg.boostBelow ≤ c.held →
          (y.lastDemand : Int) =
            max 0 (min 1000 ((cfg.kp * max (-640) (min 640 (e - c.held))).tdiv 16 + y.integrator / 16))))

/-- The dew check of a pass (R17, R18), in the order of its cases, as the gate status block shows it. The minimum margin
and the fallback time are read as the model's choice has it (log 52): a negative margin as 0, and 241 to 255 minutes as
240. -/
def Obligations.DewCheck : Prop :=
  ∀ (low : Bool) (s : State) (due : Nat), s.nextPass = some due →
    ∃ t, exec (.climatePass low) s = .next t ∧
      let air := s.sensors[(0 : Fin 9)]
      let hum := s.sensors[(8 : Fin 9)]
      let td := t.shown.gate.dewPoint
      let fallenBack := dewFallback s.mem ≤ t.gate.sinceRearm
      let passes (c : Sensor) : Prop := if c.Live then dewMargin s.mem ≤ c.held - td else fallenBack
      (hum.Live → td = air.held - ((100 - hum.held) * 16).tdiv 5) ∧ (¬ hum.Live → td = air.held) ∧
      (s.sensors[(1 : Fin 9)].Live → t.shown.gate.boardMargin = some (s.sensors[(1 : Fin 9)].held - td)) ∧
      (¬ s.sensors[(1 : Fin 9)].Live → t.shown.gate.boardMargin = none) ∧
      (s.sensors[(2 : Fin 9)].Live → t.shown.gate.glassMargin = some (s.sensors[(2 : Fin 9)].held - td)) ∧
      (¬ s.sensors[(2 : Fin 9)].Live → t.shown.gate.glassMargin = none) ∧
      (t.shown.gate.dewMet = true ↔
        if ¬ air.Live then fallenBack
        else if hum.Live ∧ hum.held < 50 then True
        else passes s.sensors[(1 : Fin 9)] ∧ passes s.sensors[(2 : Fin 9)])

/-- The gate in a pass (R20 to R25): the re-arm work with each zone's T0 and a direct move to OPEN or CLOSED, the second
that passes, the moves of R22 with the soak, the warm-up limit, the progress, and the reports and counts of each move.
A soak that ends, or none that begins, leaves no soak remaining, which the model holds as none (log 53). That the limit
follows the moves, and what its report carries, is the model's reading (log 25), and so is a T0 taken only while the gate
is not OPEN (log 26). -/
def Obligations.GateMoves : Prop :=
  ∀ (low : Bool) (s : State) (due : Nat), s.nextPass = some due →
    ∃ t, exec (.climatePass low) s = .next t ∧
      let g := s.gate
      let h := t.gate
      let cfg := zoneCfg s.mem
      let control (z : Fin 3) := s.sensors[(cfg z).control]
      let met := t.shown.gate.zoneMet = true ∧ t.shown.gate.dewMet = true
      let expires (found : GateState) : Prop :=
        found ≠ .opened ∧ g.limitExpired = false ∧ warmUpLimit s.mem ≤ h.sinceRearm
      let released (found : GateState) : Prop := expires found ∧ releaseAnyway s.mem = true
      let figure (z : Fin 3) (n : Nat) : Prop :=
        (¬ (control z).Live → n = if (cfg z).fallback * 60 ≤ h.sinceRearm then 1000
          else h.sinceRearm * 1000 / ((cfg z).fallback * 60)) ∧
        ((control z).Live → ∃ b, t.zones[z].rearmTemp = some b ∧
          (n : Int) = if (cfg z).release ≤ (control z).held ∨ (cfg z).release ≤ b then 1000
            else max 0 (min 1000 ((((control z).held - b) * 1000).tdiv ((cfg z).release - b))))
      let warmUp (sub : Byte) (state : Nat) (byLimit : DWord) : Instr :=
        posting t.uptime .warmUp sub false 0 { w0 := natWord state, w1 := natWord h.progress, w2 := byLimit }
      let opened : List Instr := [warmUp 3 2 0, .counterIncrement .warmUpsCompleted]
      let limit (found : Nat) : List Instr := [.counterIncrement .warmUpLimitExpiries,
        posting t.uptime .warmUpLimit 0 true 0 { w0 := natWord found, w1 := natWord h.progress
                                                 w2 := flagWord t.shown.gate.zoneMet, w3 := flagWord t.shown.gate.dewMet }]
      (t.shown.gate.zoneMet = true ↔ ∀ z : Fin 3, (cfg z).rated ≠ 0 → (cfg z).gating = true →
        if (control z).Live then (cfg z).release ≤ (control z).held else (cfg z).fallback * 60 ≤ h.sinceRearm) ∧
      h.rearmPending = false ∧ (g.state ≠ .opened → h.state = .opened → h.soakRemaining = none) ∧
      (g.rearmPending = true → h.sinceRearm = 0 ∧ h.limitExpired = false ∧ h.soakRemaining = none ∧
        h.state = if met then .opened else .closed) ∧
      (g.rearmPending = false → h.sinceRearm = min (g.sinceRearm + 1) 65535 ∧
        (g.state = .opened → h.state = .opened ∧ h.limitExpired = g.limitExpired) ∧
        (g.state = .closed → ¬ met →
          h.state = (if released .closed then .opened else .closed) ∧
          (h.limitExpired = true ↔ g.limitExpired = true ∨ expires .closed)) ∧
        (g.state = .closed → met → soakTime s.mem = 0 → h.state = .opened ∧ h.limitExpired = g.limitExpired) ∧
        (g.state = .closed → met → soakTime s.mem ≠ 0 →
          h.state = (if released .soaking then .opened else .soaking) ∧
          h.soakRemaining = (if released .soaking then none else some (soakTime s.mem)) ∧
          (h.limitExpired = true ↔ g.limitExpired = true ∨ expires .soaking)) ∧
        (∀ n, g.state = .soaking → g.soakRemaining = some n →
          (met → n ≤ 1 → h.state = .opened ∧ h.limitExpired = g.limitExpired) ∧
          (met → 1 < n → h.state = (if released .soaking then .opened else .soaking) ∧
            h.soakRemaining = (if released .soaking then none else some (n - 1)) ∧
            (h.limitExpired = true ↔ g.limitExpired = true ∨ expires .soaking)) ∧
          (¬ met → h.soakRemaining = none ∧ h.state = (if released .closed then .opened else .closed) ∧
            (h.limitExpired = true ↔ g.limitExpired = true ∨ expires .closed)))) ∧
      (∀ z : Fin 3, t.zones[z].rearmTemp =
        if (g.rearmPending = true ∨ (h.state ≠ .opened ∧ s.zones[z].rearmTemp = none)) ∧ (cfg z).rated ≠ 0 ∧
          (cfg z).gating = true ∧ (control z).Live then some (control z).held
        else if g.rearmPending = true then none else s.zones[z].rearmTemp) ∧
      (h.state = .opened → h.progress = 1000) ∧
      (h.state ≠ .opened → h.progress ≤ 1000 ∧
        (∀ z n, (cfg z).rated ≠ 0 → (cfg z).gating = true → figure z n → h.progress ≤ n) ∧
        (h.progress = 1000 ∨ ∃ z, (cfg z).rated ≠ 0 ∧ (cfg z).gating = true ∧ figure z h.progress)) ∧
      ∃ moves limits rest, t.transit = s.transit ++ moves ++ limits ++ rest ∧
        (g.rearmPending = true → moves = if met then opened else []) ∧
        (g.rearmPending = false →
          (g.state = .opened → moves = []) ∧
          (g.state = .closed → moves = if ¬ met then [] else if soakTime s.mem = 0 then opened else [warmUp 1 1 0]) ∧
          (∀ n, g.state = .soaking → g.soakRemaining = some n →
            moves = if ¬ met then [warmUp 2 0 0] else if n ≤ 1 then opened else [])) ∧
        (g.rearmPending = true → limits = []) ∧
        (h.limitExpired = g.limitExpired → limits = []) ∧
        (g.rearmPending = false → h.limitExpired = true → g.limitExpired = false → ∃ found : Nat,
          (found = if met then 1 else 0) ∧
          limits = limit found ++ if releaseAnyway s.mem = true then [warmUp 3 2 1] else []) ∧
        ∀ c ∈ rest, c ≠ .counterIncrement .warmUpsCompleted ∧ c ≠ .counterIncrement .warmUpLimitExpiries ∧
          ∀ r, c = .reportPosting r → r.kind ≠ .warmUp ∧ r.kind ≠ .warmUpLimit

/-- Budget, requests and grants of a pass (R27 to R30): the zones are served in ascending priority, equal priorities in
ascending number, each granted the smaller of its request and what is left; the sum of the grants is at most the heater
budget; every granted duty lies between 0 and the demand and becomes the zone's last grant. -/
def Obligations.GrantsWithinBudget : Prop :=
  ∀ (low : Bool) (s : State) (due : Nat), s.nextPass = some due →
    ∃ t, exec (.climatePass low) s = .next t ∧
      let cfg := zoneCfg s.mem
      let req (z : Fin 3) := t.shown.zones[z].request
      let grant (z : Fin 3) := t.shown.zones[z].grant
      let ah := t.shown.budget.available
      let draw := fanRated s.mem 0 * t.driven 0 / 1000 + fanRated s.mem 1 * t.driven 1 / 1000
      let before (y z : Fin 3) : Prop :=
        (cfg y).priority < (cfg z).priority ∨ ((cfg y).priority = (cfg z).priority ∧ y < z)
      ah = (if low = true then 0
        else supplyBudget s.mem - (if s.sup.reservation = true then hostReservation s.mem else 0) - draw) ∧
      grant 0 + grant 1 + grant 2 ≤ ah ∧
      ∀ z : Fin 3,
        req z = (if (cfg z).rated = 0 ∨ t.budget.tripped[z] = true then 0
          else t.zones[z].lastDemand * (cfg z).rated / 1000) ∧
        grant z = min (req z) (ah - (((indices 3).filter fun y => decide (before y z)).map grant).sum) ∧
        t.zones[z].lastGrant ≤ t.zones[z].lastDemand ∧
        (t.budget.tripped[z] = true → t.zones[z].lastGrant = 0) ∧
        (t.budget.tripped[z] = false → grant z = req z → t.zones[z].lastGrant = t.zones[z].lastDemand) ∧
        (t.budget.tripped[z] = false → grant z < req z → t.zones[z].lastGrant = grant z * 1000 / (cfg z).rated)

/-- Plate interlocks by R31's table, each entry into TRIPPED counted; the heater windows a pass begins (R32): on for the
granted duty's milliseconds, the whole window for 1000, off for 0; and budget-short episodes (R33): a pass is short when
a zone's grant is below its request; thirty short passes in a row begin an episode, thirty that are not short end it. -/
def Obligations.InterlocksAndWindows : Prop :=
  (∀ (low : Bool) (s : State) (due : Nat) (z : Fin 3), s.nextPass = some due →
     ∃ t, exec (.climatePass low) s = .next t ∧
       let cfg := zoneCfg s.mem z
       let g := t.zones[z].lastGrant
       (cfg.plate = none → t.budget.tripped[z] = false) ∧
       (∀ p, cfg.plate = some p →
         (¬ s.sensors[p].Live → t.budget.tripped[z] = true) ∧
         (s.sensors[p].Live → cfg.plateLimit ≤ s.sensors[p].held → t.budget.tripped[z] = true) ∧
         (s.sensors[p].Live → s.sensors[p].held ≤ cfg.plateLimit - 80 → t.budget.tripped[z] = false) ∧
         (s.sensors[p].Live → cfg.plateLimit - 80 < s.sensors[p].held → s.sensors[p].held < cfg.plateLimit →
           t.budget.tripped[z] = s.budget.tripped[z])) ∧
       (g = 0 → t.heaters[z] = { on := false, offAt := none }) ∧
       (0 < g → g < 1000 → t.heaters[z] = { on := true, offAt := some (t.clock + g * 1000) }) ∧
       (1000 ≤ g → t.heaters[z] = { on := true, offAt := none })) ∧
  (∀ (low : Bool) (s : State) (due : Nat), s.nextPass = some due →
     ∃ t, exec (.climatePass low) s = .next t ∧
       let trips := (indices 3).countP fun z => t.budget.tripped[z] && !s.budget.tripped[z]
       let short := ∃ z : Fin 3, t.shown.zones[z].grant < t.shown.zones[z].request
       let cut (z : Fin 3) : Nat := if t.shown.zones[z].grant < t.shown.zones[z].request then 1 else 0
       let b := s.budget
       let d := t.budget
       t.transit.count (.counterIncrement .plateTrips) = s.transit.count (.counterIncrement .plateTrips) + trips ∧
       (b.inEpisode = false → ¬ short → d.inEpisode = false ∧ d.shortRun = 0 ∧ d.clearRun = b.clearRun) ∧
       (b.inEpisode = false → short → d.shortRun = b.shortRun + 1 ∧
         (b.shortRun + 1 < 30 → d.inEpisode = false ∧ d.clearRun = b.clearRun) ∧
         (30 ≤ b.shortRun + 1 → d.inEpisode = true ∧ d.clearRun = 0 ∧
           .counterIncrement .budgetShortEpisodes ∈ t.transit ∧
           posting t.uptime .budgetShort 0 false 0
             { w0 := natWord t.shown.budget.available
               w1 := natWord (t.shown.zones[(0 : Fin 3)].request + t.shown.zones[(1 : Fin 3)].request
                 + t.shown.zones[(2 : Fin 3)].request)
               w2 := natWord (t.shown.zones[(0 : Fin 3)].grant + t.shown.zones[(1 : Fin 3)].grant
                 + t.shown.zones[(2 : Fin 3)].grant)
               w3 := natWord (cut 0 + cut 1 * 2 + cut 2 * 4) } ∈ t.transit)) ∧
       (b.inEpisode = true → short → d.inEpisode = true ∧ d.clearRun = 0 ∧ d.shortRun = b.shortRun) ∧
       (b.inEpisode = true → ¬ short → d.clearRun = b.clearRun + 1 ∧
         (b.clearRun + 1 < 30 → d.inEpisode = true ∧ d.shortRun = b.shortRun) ∧
         (30 ≤ b.clearRun + 1 → d.inEpisode = false ∧ d.shortRun = 0)))

/-- Fan demands (R34), the fans' wakes and rests (R36, R39), and the abort of a sweep by hot cabinet air with what its
end does (R44, R47): m is the fan's record before that. The zeros of an aborted sweep's record, and the abort after both
fans' own work, are the model's reading (log 28). -/
def Obligations.FanDemands : Prop :=
  ∀ (low : Bool) (s : State) (due : Nat) (f : Fin 2), s.nextPass = some due →
    ∃ t m, exec (.climatePass low) s = .next t ∧
      let air := s.sensors[(0 : Fin 9)]
      let x := s.fans[f]
      let y := t.fans[f]
      let lo := min (minimumRun s.mem f + if x.clogged = true then clogSurcharge s.mem f else 0) 1000
      let aborts (w : Sweep) : Prop := s.sweep = some w ∧ air.Live ∧ coolStart s.mem w.fan + 160 < air.held
      y.demand = m.demand ∧
      (air.Live → coolStart s.mem f < air.held →
        (m.demand : Int) = max (lo : Int) (min 1000 (lo + (fanGain s.mem f * (air.held - coolStart s.mem f)).tdiv 16))) ∧
      (¬ air.Live ∨ air.held ≤ coolStart s.mem f →
        m.demand = if f = 1 ∧ t.gate.state ≠ .opened then stirDuty s.mem else 0) ∧
      (x.state = .resting → 0 < m.demand → .counterIncrement (.spinUps f) ∈ t.transit ∧ m = { x with
        demand := m.demand, state := .spinningUp, lateTries := 0
        spinLimit := some (t.clock + spinUpLimit s.mem f * 1000000) }) ∧
      (x.state = .resting → m.demand = 0 → m = { x with demand := 0 }) ∧
      (x.state = .running → 0 < m.demand → m = { x with demand := m.demand, restCount := 0 }) ∧
      (x.state = .running → m.demand = 0 → m = { x with
        demand := 0, restCount := x.restCount + 1
        state := if restDelay s.mem f ≤ x.restCount + 1 then .resting else .running }) ∧
      (x.state = .spinningUp ∨ x.state = .sweeping ∨ x.state = .failed → m = { x with demand := m.demand }) ∧
      ((∀ w, ¬ aborts w) → t.sweep = s.sweep ∧ y = m) ∧
      (∀ w, aborts w → t.sweep = none ∧ (w.fan ≠ f → y = m) ∧
        (w.fan = f → y = { m with
            lastResult := some { mode := w.mode, starter := w.starter, result := .aborted, worst := 0, deviation := 0
                                 measured := w.measured }
            sweepPending := false, spinLimit := none
            state := if w.wasFailed = true then .failed else .running
            restCount := if w.wasFailed = true then m.restCount else 0 } ∧
          posting t.uptime .fan 2 false (BitVec.ofNat 8 f.val) { w0 := 6 } ∈ t.transit ∧
          ∀ slot, w.slot = some slot → .deskAnswer slot .failed { w0 := 6 } ∈ t.transit))

/-- The end of a pass and its frame (R7, R71): the next pass a second later, the passes counter, and the gate state of the
pass handed to the supervisor with its re-arm mark; nothing outside the climate, budget, fan and light units changes. -/
def Obligations.PassEnd : Prop :=
  ∀ (low : Bool) (s : State) (due : Nat), s.nextPass = some due →
    ∃ t, exec (.climatePass low) s = .next t ∧ t.nextPass = some (due + 1000000) ∧ t.clock = max s.clock due ∧
      (∃ sent, t.transit = s.transit ++ sent
        ++ [.counterIncrement .passes, .gateReport t.gate.state s.gate.rearmPending]) ∧
      (s.chords.rearmAwaited = true → s.gate.rearmPending = false → t.chords = s.chords) ∧
      (s.chords.rearmAwaited = false ∨ s.gate.rearmPending = true →
        t.chords = { s.chords with rearmAwaited := false, progress := t.gate.progress }) ∧
      (t.gate.state = .opened → t.gate.progress = 1000) ∧
      t = { s with
        clock := t.clock, transit := t.transit, nextPass := t.nextPass, zones := t.zones, gate := t.gate
        budget := t.budget, heaters := t.heaters, fans := t.fans, sweep := t.sweep, chords := t.chords
        shown := t.shown }

/-- The end of a heater window's on time (R32); a re-arm's mark for the next pass (R20); a boost request (R13): the
larger of the present value and the seconds, 0 ends it, a zone above 2 is refused and changes nothing but the outcome
handed back; and CLIMATE OVERRIDE and KEYPAD LOCK as their owners take them (R15, R104, R150). The field of the outcome
handed back, and the owner's check of the desk's arguments, are the model's (logs 4 and 30). -/
def Obligations.ClimateRequests : Prop :=
  (∀ s : State,
     (∀ (z : Fin 3) (due : Nat), s.heaters[z].offAt = some due →
       ∃ t, exec (.heaterOutputOff z) s = .next t ∧ t.heaters[z] = { on := false, offAt := none } ∧
         (∀ y : Fin 3, y ≠ z → t.heaters[y] = s.heaters[y]) ∧
         t = { s with clock := max s.clock due, heaters := t.heaters }) ∧
     ∃ t, exec .gateRearm s = .next t ∧ t.gate = { s.gate with rearmPending := true } ∧
       t = { s with gate := t.gate, transit := s.transit.erase .gateRearm }) ∧
  (∀ (target : BoostTarget) (seconds : Word) (s : State),
     ∃ t, exec (.boostRequest target seconds) s = .next t ∧
       BoostRequested { s with
         transit := s.transit.erase (.boostRequest target seconds), lastRefusal := t.lastRefusal } t target seconds.toNat
         t.lastRefusal) ∧
  (∀ (slot : Fin 8) (s : State),
     (∀ (zone duty seconds : Word) (h : zone.toNat < 3), duty.toNat ≤ 1000 →
       ∃ t, exec (.climateOverride slot zone duty seconds) s = .next t ∧
         t.zones[(⟨zone.toNat, h⟩ : Fin 3)] = { s.zones[(⟨zone.toNat, h⟩ : Fin 3)] with
           override := if seconds = 0#16 then none else some { duty := duty.toNat, remaining := seconds.toNat } } ∧
         (∀ z : Fin 3, z.val ≠ zone.toNat → t.zones[z] = s.zones[z]) ∧
         t.transit = s.transit.erase (.climateOverride slot zone duty seconds) ++ [.deskAnswer slot .done {}] ∧
         t = { s with zones := t.zones, transit := t.transit }) ∧
     (∀ lock : Word, lock.toNat ≤ 1 →
       ∃ t, exec (.keypadLock slot lock) s = .next t ∧ (t.keypad.deskLock = true ↔ lock = 1#16) ∧
         t.transit = s.transit.erase (.keypadLock slot lock) ++ [.deskAnswer slot .done { w0 := lock }] ∧
         t = { s with keypad := { s.keypad with deskLock := t.keypad.deskLock }, transit := t.transit }))

/-! ### Fans and sweeps -/

/-- A pulse is timestamped, and at an update the RPM is 0 with fewer than two pulses or none in the last 500 ms, and
else the quotient of R41, limited to 65535. Two pulses with one time stamp leave it free (log 17), and a pulse just 500
ms old counts (log 29). -/
def Obligations.TachometerRpm : Prop :=
  ∀ (f : Fin 2) (s : State),
    (∀ us : Nat, ∃ t, exec (.tachometerPulse us f) s = .next t ∧
      t.fans[f] = { s.fans[f] with lastPulse := some (s.clock + us), pulseBefore := s.fans[f].lastPulse } ∧
      (∀ g : Fin 2, g ≠ f → t.fans[g] = s.fans[g]) ∧ t = { s with clock := s.clock + us, fans := t.fans }) ∧
    ∀ due : Nat, s.fans[f].nextUpdate = some due →
      ∃ t, exec (.tachometerUpdate f) s = .next t ∧ t.fans[f].nextUpdate = some (due + 250000) ∧
        (s.fans[f].lastPulse = none ∨ s.fans[f].pulseBefore = none → t.fans[f].rpm = 0) ∧
        (∀ a b : Nat, s.fans[f].lastPulse = some a → s.fans[f].pulseBefore = some b →
          (500000 < t.clock - a → t.fans[f].rpm = 0) ∧
          (t.clock - a ≤ 500000 → b < a → t.fans[f].rpm = min (30000000 / (a - b)) 65535)) ∧
        t.fans[f].rpm ≤ 65535 ∧
        (∀ g : Fin 2, g ≠ f → t.fans[g] = s.fans[g]) ∧ t.clock = max s.clock due ∧
        (s.fans[f].state ≠ .spinningUp → s.fans[f].state ≠ .sweeping →
          t = { s with clock := t.clock, freeCount := s.freeCount + 1, fans := t.fans, shown := t.shown } ∧
          t.fans[f] = { s.fans[f] with rpm := t.fans[f].rpm, nextUpdate := t.fans[f].nextUpdate })

/-- A tachometer update in a spin-up (R37): below the spin-up RPM nothing ends; at or above it the fan enters RUNNING,
or, with its sweep pending, SWEEPING at the first point with a settle of 3 s (R42, R43). The spin-up limit's expiry
(R38): a late attempt is counted; the first two are reported and the limit starts afresh; the third fails the fan, and
ends the sweep it was for with STALLED (R47), answered if a slot started it (R151). A fan that was FAILED when the sweep
was accepted posts no second FAILED report and is not counted again (R47; log 27). The record's zeros are the model's
reading (log 28). -/
def Obligations.SpinUps : Prop :=
  (∀ (f : Fin 2) (s : State) (due : Nat), s.fans[f].nextUpdate = some due → s.fans[f].state = .spinningUp →
     ∃ t, exec (.tachometerUpdate f) s = .next t ∧
       let y := t.fans[f]
       let x := { s.fans[f] with rpm := y.rpm, nextUpdate := some (due + 250000) }
       (y.rpm < spinUpRpm s.mem f → y = x ∧ t.sweep = s.sweep) ∧
       (spinUpRpm s.mem f ≤ y.rpm →
         (x.sweepPending = false → t.sweep = s.sweep ∧
           y = { x with spinLimit := none, lateTries := 0, sweepPending := false, state := .running, restCount := 0 }) ∧
         (∀ w, x.sweepPending = true → s.sweep = some w → w.fan = f →
           y = { x with spinLimit := none, lateTries := 0, sweepPending := false, state := .sweeping } ∧
           t.sweep = some { w with point := 0, phase := .settling (t.clock + 3000000) })) ∧
       (∀ g : Fin 2, g ≠ f → t.fans[g] = s.fans[g]) ∧
       t = { s with
         clock := max s.clock due, freeCount := s.freeCount + 1, fans := t.fans, sweep := t.sweep
         shown := { s.shown with fans := t.shown.fans } }) ∧
  (∀ (f : Fin 2) (s : State) (due : Nat), s.fans[f].state = .spinningUp → s.fans[f].spinLimit = some due →
     ∃ t, exec (.spinUpLimitExpiry f) s = .next t ∧
       let x := s.fans[f]
       let source := BitVec.ofNat 8 f.val
       let late := { x with lateTries := x.lateTries + 1 }
       let failed (again : Bool) : State := { s with
         clock := max s.clock due, fans := put s.fans f late
         transit := s.transit ++ [.counterIncrement (.spinUpLate f)] ++ (if again = true then [] else
           [posting t.uptime .fan 3 true source { w0 := natWord x.rpm }, .counterIncrement (.fanFailures f)]) }
       t.clock = max s.clock due ∧
       (x.lateTries + 1 < 3 → t = { s with
         clock := t.clock
         fans := put s.fans f { late with spinLimit := some (t.clock + spinUpLimit s.mem f * 1000000) }
         transit := s.transit ++ [.counterIncrement (.spinUpLate f),
           posting t.uptime .fan 1 false source { w0 := natWord (x.lateTries + 1), w1 := natWord x.rpm }] }) ∧
       (3 ≤ x.lateTries + 1 →
         (x.sweepPending = false → t = { failed false with
           fans := put s.fans f { late with spinLimit := none, sweepPending := false, state := .failed }
           shown := { s.shown with fans := t.shown.fans } }) ∧
         (∀ w, x.sweepPending = true → s.sweep = some w → w.fan = f → SweepEnded (failed w.wasFailed) t w
           { mode := w.mode, starter := w.starter, result := .stalled, worst := 0, deviation := 0
             measured := w.measured } .failed)))

/-- A sweep point (R43): the settle's end opens the measuring phase; the first three updates are collected, the fourth
forms the mean and the next point begins with its own settle. -/
def Obligations.SweepPoint : Prop :=
  ∀ (s : State) (w : Sweep), s.sweep = some w →
    (∀ due : Nat, w.phase = .settling due →
      ∃ t, exec .sweepSettleEnd s = .next t ∧ t.sweep = some { w with phase := .measuring [] } ∧
        t = { s with clock := max s.clock due, sweep := t.sweep, shown := t.shown }) ∧
    ∀ (due : Nat) (taken : List Nat), w.phase = .measuring taken → s.fans[w.fan].state = .sweeping →
      s.fans[w.fan].nextUpdate = some due →
      ∃ t, exec (.tachometerUpdate w.fan) s = .next t ∧
        (taken.length < 3 → t.sweep = some { w with phase := .measuring (taken ++ [t.fans[w.fan].rpm]) }) ∧
        (∀ h : w.point.val + 1 < 4, taken.length = 3 → t.sweep = some { w with
          point := ⟨w.point.val + 1, h⟩
          measured := put w.measured w.point ((taken.sum + t.fans[w.fan].rpm) / 4)
          phase := .settling (t.clock + 3000000) }) ∧
        (w.point.val = 3 → taken.length = 3 → t.sweep = none) ∧
        (taken.length < 3 ∨ (w.point.val < 3 ∧ taken.length = 3) → t = { s with
          clock := max s.clock due, freeCount := s.freeCount + 1, sweep := t.sweep
          fans := put s.fans w.fan
            { s.fans[w.fan] with rpm := t.fans[w.fan].rpm, nextUpdate := some (due + 250000) }
          shown := { s.shown with fans := t.shown.fans } })

/-- The end of a TEST sweep's last point (R45, R47): the deviations in per mille, the first result that applies, the worst
point as the lowest of those largest in magnitude, the clog state and its count, the fan's next state, the FAN report,
and the desk's answer if a slot started the sweep (R151), its word for a deviation too wide left open (log 20). -/
def Obligations.TestSweepResult : Prop :=
  ∀ (s : State) (w : Sweep) (due : Nat) (taken : List Nat), s.sweep = some w → w.mode = .test →
    w.phase = .measuring taken → taken.length = 3 → w.point = 3 → s.fans[w.fan].state = .sweeping →
    s.fans[w.fan].nextUpdate = some due →
    ∃ (t : State) (r : SweepRecord), exec (.tachometerUpdate w.fan) s = .next t ∧
      let y := t.fans[w.fan]
      let ref (k : Fin 4) := reference s.mem w.fan k
      let dev (k : Fin 4) : Int := (((r.measured[k] : Int) - ref k) * 1000).tdiv (ref k)
      r.measured = put w.measured 3 ((taken.sum + y.rpm) / 4) ∧
      ((∃ k : Fin 4, ref k = 0) → r.result = .noReference ∧ r.worst = 0 ∧ r.deviation = 0) ∧
      ((∀ k : Fin 4, ref k ≠ 0) →
        (∃ k : Fin 4, r.worst = k.val + 1 ∧ r.deviation = dev k ∧ (∀ j, (dev j).natAbs ≤ (dev k).natAbs) ∧
          ∀ j, j < k → (dev j).natAbs < (dev k).natAbs) ∧
        ((∃ k : Fin 4, r.measured[k] = 0) → r.result = .stalled) ∧
        ((∀ k : Fin 4, r.measured[k] ≠ 0) → (∃ k, (clogLimit s.mem w.fan : Int) < dev k) → r.result = .clogged) ∧
        ((∀ k : Fin 4, r.measured[k] ≠ 0) → (∀ k, dev k ≤ clogLimit s.mem w.fan) →
          (∃ k, dev k < -(slowLimit s.mem w.fan : Int)) → r.result = .slow) ∧
        ((∀ k : Fin 4, r.measured[k] ≠ 0) → (∀ k, dev k ≤ clogLimit s.mem w.fan) →
          (∀ k, -(slowLimit s.mem w.fan : Int) ≤ dev k) → r.result = .normal)) ∧
      SweepEnded { s with
          clock := max s.clock due, freeCount := s.freeCount + 1
          fans := put s.fans w.fan { s.fans[w.fan] with rpm := y.rpm, nextUpdate := some (due + 250000) } }
        t w r (if w.wasFailed = true ∧ r.result ≠ .normal then .failed
          else if r.result = .stalled then .resting else .running)

/-- The end of a RECORD sweep's last point (R46): with a measurement of 0 the result is STALLED and the settings stand;
else the four measurements become the fan's references and no other byte of the memory changes. The clog state, the fan's
next state, the FAN report and the desk's answer follow as at any sweep's end (R47, R151). -/
def Obligations.RecordSweepResult : Prop :=
  ∀ (s : State) (w : Sweep) (due : Nat) (taken : List Nat), s.sweep = some w → w.mode = .record →
    w.phase = .measuring taken → taken.length = 3 → w.point = 3 → s.fans[w.fan].state = .sweeping →
    s.fans[w.fan].nextUpdate = some due →
    ∃ (t : State) (r : SweepRecord), exec (.tachometerUpdate w.fan) s = .next t ∧
      let y := t.fans[w.fan]
      r.measured = put w.measured 3 ((taken.sum + y.rpm) / 4) ∧ r.worst = 0 ∧ r.deviation = 0 ∧
      ((∃ k : Fin 4, r.measured[k] = 0) → r.result = .stalled ∧ t.mem = s.mem) ∧
      ((∀ k : Fin 4, r.measured[k] ≠ 0) → r.result = .normal ∧
        (∀ k : Fin 4, t.mem.read16 (referenceAddr w.fan k.val) = BitVec.ofNat 16 r.measured[k]) ∧
        ∀ a : Nat, a < referenceAddr w.fan 0 ∨ referenceAddr w.fan 0 + 8 ≤ a → t.mem.read a = s.mem.read a) ∧
      SweepEnded { s with
          clock := max s.clock due, freeCount := s.freeCount + 1, mem := t.mem
          fans := put s.fans w.fan { s.fans[w.fan] with rpm := y.rpm, nextUpdate := some (due + 250000) } }
        t w r (if r.result = .normal then .running else if w.wasFailed = true then .failed else .resting)

/-- FAN SWEEP (R42, R151): the first case that refuses it, answered at once; or an acceptance, which answers nothing,
counts the sweep, records its engine fields and moves the fan by its state. -/
def Obligations.FanSweepStart : Prop :=
  ∀ (slot : Fin 8) (fan mode : Word) (s : State) (h : fan.toNat < 2), mode.toNat < 2 →
    ∃ t, exec (.fanSweep slot fan mode) s = .next t ∧
      ∃ (refusal : Option AnswerCode) (u : State),
        SweepRequested { s with transit := s.transit.erase (.fanSweep slot fan mode) } u ⟨fan.toNat, h⟩
          (if mode = 0#16 then .test else .record) .desk (some slot) refusal ∧
        t = { u with transit := u.transit ++
          (match refusal with | some code => [.deskAnswer slot code {}] | none => []) }

/-! ### Rails, lines and channels -/

/-- A DELAY's end (R57, R58): an unbound one proceeds to its next index; a bound one performs its action again while the
repeat left is above 0, and else proceeds. A WAIT's end (R59, R65): one whose level matched when it was reached proceeds
1 ms later; one whose timeout expires faults with WAIT TIMEOUT at its own index. The current step beside a BAD STEP fault
of the step proceeded to is the model's reading (log 32). -/
def Obligations.StepTimersEnd : Prop :=
  (∀ (ch : Fin 4) (s : State) (next : Byte) (due : Nat),
     let now := { s with clock := max s.clock due }
     let x := s.channels[ch]
     (x.activity = .delay next due → ∃ t, exec (.delayEnd ch) s = .next t ∧ Proceeds now t ch x next) ∧
     ∀ a : Action, x.activity = .boundDelay a next due →
       ∃ t, exec (.delayEnd ch) s = .next t ∧
         (0 < x.repeatLeft → Performs now t ch x a) ∧ (x.repeatLeft = 0 → Proceeds now t ch x next)) ∧
  (∀ (ch : Fin 4) (s : State) (next : Byte) (due : Nat),
     let now := { s with clock := max s.clock due }
     let x := s.channels[ch]
     (x.activity = .matchedWait next due →
       ∃ t, exec (.waitMatchedComplete ch) s = .next t ∧ Proceeds now t ch x next) ∧
     ∀ (r : Fin 6) (good : Bool), x.activity = .wait r good next due →
       ∃ t, exec (.waitTimeout ch) s = .next t ∧ FaultsWith now t ch x .waitTimeout x.step)

/-- The end of a performance (R57): a DELAY at the action's next index is bound and waited; before any other step the
action is performed again while the repeat left is above 0, and else the channel proceeds. The current step beside a
fault of that performance or of the step proceeded to is the model's reading (log 32). -/
def Obligations.PerformanceEnds : Prop :=
  ∀ (ch : Fin 4) (s : State) (a : Action) (due : Nat), s.channels[ch].activity = .performing a due →
    ∃ t, exec (.actionPerformanceEnd ch) s = .next t ∧
      let now := { s with clock := max s.clock due }
      let x := s.channels[ch]
      let b := 0x1400 + 8 * a.next.toNat
      let isDelay : Prop := a.next ≠ 0#8 ∧ a.next.toNat < 128 ∧ s.mem.byte b = 2
      (isDelay → t = { now with channels := put s.channels ch { x with
        step := a.next
        activity := .boundDelay a (s.mem.read (b + 1)) (now.clock + max 1 (s.mem.nat16 (b + 2)) * 1000) } }) ∧
      (¬ isDelay → 0 < x.repeatLeft → Performs now t ch x a) ∧
      (¬ isDelay → x.repeatLeft = 0 → Proceeds now t ch x a.next)

/-- A change of a PG level (R50, R51, R52, R59): the good and watched states; on a drop the counter and the RAIL DROP
report; the link port's copy, evaluated; each waiting channel it satisfies proceeds; and a drop of a host rail is, in
POWERING, BOOTING and RUNNING, a RAIL DROP cause (R80). A level the input already has changes nothing. The order
within the event (log 31), and the current step beside a fault of the step a channel proceeds to (log 32), are the
model's reading. Entry into RESTARTING or SHUTTING stops the forced-off timer (R115), and that an expiry due at that
moment stays open is the model's form (log 51). -/
def Obligations.PgChange : Prop :=
  ∀ (us : Nat) (r : Fin 6) (level : Bool) (s : State),
    let now := { s with clock := s.clock + us }
    let old := s.rails[r]
    let drops := old.commanded = true ∧ old.watched = true ∧ level = false
    let isHost := (hostMask s.mem).getLsbD r.val = true
    let taken := s.sup.state = .powering ∨ s.sup.state = .booting ∨ s.sup.state = .running
    let rail : Rail := { old with
      good := level, watched := if old.commanded = true then level else old.watched }
    let recorded : State := { now with
      rails := put s.rails r rail
      transit := s.transit ++ (if drops then [.counterIncrement .railDrops,
        posting now.uptime .railDrop 0 true (BitVec.ofNat 8 r.val)
          { w0 := flagWord ((hostMask s.mem).getLsbD r.val), w1 := natWord (s.channelOf r), w2 := s.sup.word }] else []) }
    (old.good = level → exec (.pgChange us r level) s = .next now) ∧
    (old.good ≠ level → ∃ linked u0 u1 u2 u3 t : State, exec (.pgChange us r level) s = .next t ∧
      linked = { recorded with link := linked.link } ∧
      (r = linkRail s.mem → LinkEvaluated recorded linked r) ∧ (r ≠ linkRail s.mem → linked.link = s.link) ∧
      WaitServed linked u0 0 r level ∧ WaitServed u0 u1 1 r level ∧ WaitServed u1 u2 2 r level ∧
      WaitServed u2 u3 3 r level ∧
      (¬ (drops ∧ isHost ∧ taken) → t = u3) ∧ (drops ∧ isHost ∧ taken → LadderTaken u3 t .railDrop r.val))

/-- START SEQUENCE (R62, R149): NO_CHANNEL, then CONFLICT, each changing nothing; else the lowest-numbered free channel
among 1 to 3 is set up, the start counted, the first run begun, and the desk told the channel. STOP CHANNEL (R67, R149): a
busy channel is aborted, ended by DESK, with its ending; any other stays as it is; DONE with the state the stop left. The
record before its first step, its current step 0 among it, is the model's reading (log 32). -/
def Obligations.ChannelRequests : Prop :=
  (∀ (slot : Fin 8) (head : Word) (s : State) (h : head.toNat < 16),
     ∃ t, exec (.startSequence slot head) s = .next t ∧
       ∃ (refusal : Option AnswerCode) (channel : Option (Fin 4)) (u : State),
         SequenceRequested { s with transit := s.transit.erase (.startSequence slot head) } u ⟨head.toNat, h⟩ .desk refusal
           channel ∧
         t = { u with transit := u.transit ++ [.deskAnswer slot (refusal.getD .done)
           (match channel with | some c => { w0 := BitVec.ofNat 16 c.val } | none => {})] }) ∧
  (∀ (slot : Fin 8) (channel : Word) (s : State) (c : Fin 4), c.val = channel.toNat → c ≠ 0 →
     ∃ t, exec (.stopChannel slot channel) s = .next t ∧
       let now := { s with transit := s.transit.erase (.stopChannel slot channel) }
       let x := s.channels[c]
       (x.busy = false → t = { now with
         transit := now.transit ++ [.deskAnswer slot .done { w0 := BitVec.ofNat 16 (chanCode x.state) }] }) ∧
       (x.busy = true → ∃ u, EndsAs now u c { x with state := .aborted, endedBy := some .desk } ∧
         t = { u with transit := u.transit ++ [.deskAnswer slot .done { w0 := 5 }] }))

/-- A write that changes the host rail mask in OFF, WARMING or HELD orders a forced cut under the new mask (R72, R54).
In any other state, or unchanged, nothing happens. The edit by its byte before and after is the model's form (log 47).
-/
def Obligations.HostMaskEdit : Prop :=
  ∀ (before after : Byte) (s : State),
    ∃ t, exec (.hostRailMaskEdit before after) s = .next t ∧
      let locked := s.sup.state = .off ∨ s.sup.state = .warming ∨ s.sup.state = .held
      let changed : Prop := before &&& 0x3F#8 ≠ after &&& 0x3F#8
      (¬ (locked ∧ changed) → t = { s with transit := s.transit.erase (.hostRailMaskEdit before after) }) ∧
      (locked → changed → CutUnder s t (hostMask s.mem) ∧
        t = { s with transit := t.transit, rails := t.rails, lines := t.lines, channels := t.channels, link := t.link })

/-! ### The host supervisor -/

/-- A gate report (R71): only in WARMING; while the gate-wait mark is set only a re-arm pass's report counts, and it
clears the mark; OPEN takes the reservation, enters POWERING and starts the power-up head on channel 0. The current step
beside a fault of a started head's first step is the model's reading (log 32). -/
def Obligations.GateReport : Prop :=
  ∀ (gate : GateState) (rearm : Bool) (s : State),
    ∃ t, exec (.gateReport gate rearm) s = .next t ∧
      let base := { s with transit := s.transit.erase (.gateReport gate rearm) }
      let counts : Prop := s.sup.state = .warming ∧ (s.sup.gateWait = false ∨ rearm = true)
      (¬ counts → t = base) ∧
      (counts → gate ≠ .opened → t = { base with sup := { s.sup with gateWait := false } }) ∧
      (counts → gate = .opened →
        SupervisorStarted base t (powerUpHead s.mem) 0 [] ∧
        t.sup = { s.sup with
          gateWait := false, reservation := true, state := .powering, sub := .none, stageReached := none
          starts := s.sup.starts + 1, awaiting := some (s.sup.starts + 1) } ∧
        t.keypad.published = .powering ∧ t.chords.published = .powering ∧ t.chords.forcedOffTimer = none ∧
        t = { s with
          transit := t.transit, channels := t.channels, rails := t.rails, lines := t.lines, link := t.link, sup := t.sup
          keypad := { s.keypad with published := .powering }, chords := t.chords, shown := t.shown })

/-- Channel 0's outcome (R66, R73, R84, R87): disregarded unless it names the start awaited; in POWERING and at the end of
a DIRECT rung FINISHED begins the boot and a fault is a POWER FAULT cause; a REWARM rung ends in the cut and a start
order; SHUTTING ends in the cut and its target, OFF with its wake timer (R88) or HELD with its report and retry timer
(R89). The current step beside a fault of a started head's first step is the model's reading (log 32). Entry into
RESTARTING or SHUTTING stops the forced-off timer (R115), and that an expiry due at that moment stays open is the
model's form (log 51). -/
def Obligations.Channel0Outcome : Prop :=
  ∀ (start : Nat) (fault : Option FaultCode) (s : State),
    ∃ t, exec (.channel0Outcome start fault) s = .next t ∧
      let now := { s with
        transit := s.transit.erase (.channel0Outcome start fault), sup := { s.sup with awaiting := none } }
      let direct : Prop := s.sup.state = .powering ∨
        (s.sup.state = .restarting ∧ ∃ r o, s.sup.restart = some { rung := r, mode := some .direct, origin := o })
      (s.sup.awaiting ≠ some start → t = { s with transit := s.transit.erase (.channel0Outcome start fault) }) ∧
      (s.sup.awaiting = some start →
        (direct → fault = none → BootBegun s t ∧ t.channels = s.channels ∧ t.rails = s.rails ∧ t.lines = s.lines) ∧
        (direct → fault ≠ none → LadderTaken now t .powerFault 0) ∧
        (∀ r o, s.sup.state = .restarting → s.sup.restart = some { rung := r, mode := some .rewarm, origin := o } →
          CutUnder s t (hostMask s.mem) ∧ StartOrdered s t ∧ t.sup.reservation = false ∧ t.sup.restart = none ∧
          t.sup.rung = s.sup.rung ∧ t.sup.attempts = s.sup.attempts) ∧
        (s.sup.state = .shutting → CutUnder s t (hostMask s.mem) ∧ t.sup.reservation = false ∧ t.sup.target = none ∧
          (s.sup.target = some .off → t.sup.state = .off ∧ t.sup.wakeAfter = none ∧
            t.sup.wakeTimer = match s.sup.wakeAfter with
              | some (n + 1) => some (s.clock + (n + 1) * 60000000)
              | _ => none) ∧
          (∀ byLadder : Bool, s.sup.target = some (if byLadder = true then .heldByLadder else .heldByRequest) →
            t.sup.state = .held ∧ .counterIncrement .holdsEntered ∈ t.transit ∧
            posting s.uptime .held (if byLadder = true then 1 else 2) true 0 { w0 := natWord (heldRetry s.mem) } ∈ t.transit ∧
            t.sup.heldRetryTimer =
              if heldRetry s.mem = 0 then none else some (s.clock + heldRetry s.mem * 60000000))))

/-- The supervisor's other timers (R70, R78, R79, R83, R87 to R89): wake and held-retry are start orders, the retry with
the ladder reset; the pause's end is WATCHING; settle resets the ladder; the hold-off's end starts the rung's head and
the halt delay's end the off-sequence. The current step beside a fault of a started head's first step is the model's
reading (log 32). -/
def Obligations.SupervisorTimers : Prop :=
  ∀ (s : State) (due : Nat),
    let now := { s with clock := max s.clock due }
    let still (t : State) : Prop :=
      HostFrame now t ∧ t.channels = s.channels ∧ t.rails = s.rails ∧ t.lines = s.lines ∧ t.link = s.link
    let warming (u : Sup) : Sup :=
      { u with state := .warming, sub := .none, gateWait := true, wakeTimer := none, heldRetryTimer := none, awaiting := none }
    (s.sup.wakeTimer = some due → s.sup.state = .off → ∃ t, exec .wakeTimerExpiry s = .next t ∧ StartOrdered now t ∧
      t.transit = s.transit ++ [.gateRearm] ∧ t.sup = warming s.sup ∧ still t) ∧
    (s.sup.heldRetryTimer = some due → s.sup.state = .held → ∃ t, exec .heldRetryExpiry s = .next t ∧
      StartOrdered now t ∧ t.transit = s.transit ++ [.gateRearm] ∧
      t.sup = warming { s.sup with ladder := ladderOf s.mem, rung := 0, attempts := 0 } ∧ still t) ∧
    (s.sup.pauseTimer = some due → s.sup.state = .running → ∃ t, exec .pauseTimerExpiry s = .next t ∧
      t.sup = { s.sup with
        pauseTimer := none, sub := .watching, awaiting := none
        heartbeatTimer := if heartbeatTimeout s.mem = 0 then none
          else some (now.clock + heartbeatTimeout s.mem * 1000000) } ∧ t.transit = s.transit ∧ still t) ∧
    (s.sup.settleTimer = some due → ∃ t, exec .settleExpiry s = .next t ∧
      t = { now with sup := { s.sup with settleTimer := none, ladder := ladderOf s.mem, rung := 0, attempts := 0 } }) ∧
    (∀ r, s.sup.holdOffTimer = some due → s.sup.state = .restarting → s.sup.restart = some r →
      ∃ t, exec .holdOffExpiry s = .next t ∧ SupervisorStarted now t (rungHead s.mem r.rung)
          (if rungMode s.mem r.rung = .rewarm then hostMask s.mem else 0) [] ∧ HostFrame now t ∧
        t.sup = { s.sup with
          sub := .sequence, holdOffTimer := none, restart := some { r with mode := some (rungMode s.mem r.rung) }
          starts := s.sup.starts + 1, awaiting := some (s.sup.starts + 1) }) ∧
    (s.sup.haltTimer = some due → s.sup.state = .shutting → ∃ t, exec .haltDelayExpiry s = .next t ∧
      SupervisorStarted now t (offHead s.mem) (hostMask s.mem) [] ∧ HostFrame now t ∧
      t.sup = { s.sup with
        haltTimer := none, starts := s.sup.starts + 1, awaiting := some (s.sup.starts + 1) })

/-- A checkpoint (R75): no checkpoint if it equals the copy; in BOOTING a higher stage up to 15 advances with a fresh
deadline and 15 enters RUNNING, any other is counted as ignored; elsewhere it only becomes the copy. A heartbeat in the
same write is taken second, in the same event and in every state, as a kick alone would be (R137, R76). -/
def Obligations.BootCheckpoints : Prop :=
  ∀ (v : Byte) (s : State),
    (∀ w : DWord, ∃ m u, exec (.checkpoint v (some w)) s = .next u ∧
      exec (.checkpoint v none)
        { s with transit := .checkpoint v none :: s.transit.erase (.checkpoint v (some w)) } = .next m ∧
      exec (.heartbeatKick w) { m with transit := .heartbeatKick w :: m.transit } = .next u) ∧
    ∃ t, exec (.checkpoint v none) s = .next t ∧
      let base := s.transit.erase (.checkpoint v none)
      let stage := v.toNat
      let up : Prop := s.sup.bootStage < stage ∧ stage ≤ 15
      (s.sup.checkpointCopy = some v → t = { s with transit := base }) ∧
      (s.sup.checkpointCopy ≠ some v →
        (s.sup.state ≠ .booting → t = { s with transit := base, sup := { s.sup with checkpointCopy := some v } }) ∧
        (s.sup.state = .booting → ¬ up → t = { s with
          transit := base ++ [.counterIncrement .checkpointsIgnored]
          sup := { s.sup with checkpointCopy := some v } }) ∧
        (s.sup.state = .booting → up → stage < 15 → t = { s with
          transit := base
          sup := { s.sup with
            checkpointCopy := some v, bootStage := stage, stageReached := some stage
            stageTimer := some (s.clock + max 1 (s.mem.nat16 (0x1184 + 2 * stage)) * 100000) } }) ∧
        (s.sup.state = .booting → up → stage = 15 → t.transit = base ∧ t.keypad.published = .running ∧
          t.chords.published = .running ∧
          t.sup = { s.sup with
            checkpointCopy := some v, bootStage := 15, stageReached := some 15, stageTimer := none, state := .running
            sub := .watching, awaiting := none, lastKick := s.uptime
            heartbeatTimer := if heartbeatTimeout s.mem = 0 then none
              else some (s.clock + heartbeatTimeout s.mem * 1000000)
            settleTimer := some (s.clock + settleTime s.mem * 60000000) } ∧
          ∀ w : DWord, s.sup.heartbeatCopy ≠ w → ∃ u, exec (.checkpoint v (some w)) s = .next u ∧
            u.sup.state = .running ∧ u.sup.heartbeatCopy = w ∧ .counterIncrement .kicks ∈ u.transit))

/-- A kick (R76, R77): a value equal to the copy is none; any other becomes the copy, restarts the watch in WATCHING, ends
LATE, is only counted in PAUSED, and is a late kick in RESTARTING and SHUTTING. The heartbeat timer's expiry (R77):
LATE entered, counted, reported with the time since the last kick, the HEARTBEAT mark asked for and the grace started;
with a grace of 0 the HEARTBEAT cause follows in the same event. The last kick time follows log 33. The current step
beside a fault of a started head's first step is the model's reading (log 32). Entry into RESTARTING or SHUTTING stops
the forced-off timer (R115), and that an expiry due at that moment stays open is the model's form (log 51). -/
def Obligations.HeartbeatWatch : Prop :=
  (∀ (v : DWord) (s : State),
     ∃ t, exec (.heartbeatKick v) s = .next t ∧
       let base := s.transit.erase (.heartbeatKick v)
       let kicked : Sup := { s.sup with heartbeatCopy := v, lastKick := s.uptime }
       let fresh := if heartbeatTimeout s.mem = 0 then none else some (s.clock + heartbeatTimeout s.mem * 1000000)
       (s.sup.heartbeatCopy = v → t = { s with transit := base }) ∧
       (s.sup.heartbeatCopy ≠ v →
         (s.sup.state = .running → s.sup.sub = .watching → t = { s with
           transit := base ++ [.counterIncrement .kicks], sup := { kicked with heartbeatTimer := fresh } }) ∧
         (s.sup.state = .running → s.sup.sub = .late →
           t.transit = base ++ [.counterIncrement .kicks, .counterIncrement .lateRecovered] ∧
           t.sup = { kicked with sub := .watching, graceTimer := none, heartbeatTimer := fresh, awaiting := none } ∧
           t = { s with transit := t.transit, sup := t.sup, keypad := t.keypad, chords := t.chords, shown := t.shown }) ∧
         (s.sup.state = .running → s.sup.sub = .paused →
           t = { s with transit := base ++ [.counterIncrement .kicks], sup := kicked }) ∧
         (s.sup.state = .restarting ∨ s.sup.state = .shutting →
           t = { s with transit := base ++ [.counterIncrement .lateKicks], sup := kicked }) ∧
         (s.sup.state ≠ .running → s.sup.state ≠ .restarting → s.sup.state ≠ .shutting →
           t = { s with transit := base, sup := kicked }))) ∧
  (∀ (s : State) (due : Nat), s.sup.heartbeatTimer = some due → s.sup.state = .running →
     ∃ t, exec .heartbeatTimerExpiry s = .next t ∧
       let clock := max s.clock due
       let now := ({ s with clock := clock } : State).uptime
       let sent := s.transit ++ [.counterIncrement .heartbeatLate,
         posting now .heartbeatLate 0 true 0 { w0 := s.sup.heartbeatCopy, w1 := now - s.sup.lastKick },
         .noticeMarkSet .heartbeat]
       let late : Sup := { s.sup with heartbeatTimer := none, sub := .late, awaiting := none }
       (0 < graceTime s.mem → t.clock = clock ∧ t.transit = sent ∧
         t.sup = { late with graceTimer := some (clock + graceTime s.mem * 1000000) } ∧
         t = { s with
           clock := t.clock, transit := t.transit, sup := t.sup, keypad := t.keypad, chords := t.chords, shown := t.shown }) ∧
       (graceTime s.mem = 0 → ∃ u, LadderTaken u t .heartbeat 0 ∧
         u = { s with
           clock := clock, transit := sent, sup := late, keypad := { s.keypad with published := .running }
           chords := { s.chords with published := .running, publishedSub := .late }
           shown := { s.shown with chords := u.shown.chords } }))

/-- PAUSE HEARTBEAT (R78, R148): BAD_ARGUMENT above 3600, WRONG_STATE outside RUNNING, and the rule's table. -/
def Obligations.PauseHeartbeat : Prop :=
  ∀ (slot : Fin 8) (seconds : Word) (s : State),
    ∃ t, exec (.pauseHeartbeat slot seconds) s = .next t ∧
      let n := seconds.toNat
      let base := s.transit.erase (.pauseHeartbeat slot seconds)
      let refused (code : AnswerCode) : Prop := t = { s with transit := base ++ [.deskAnswer slot code {}] }
      (3600 < n → refused .badArgument) ∧
      (n ≤ 3600 → s.sup.state ≠ .running → refused .wrongState) ∧
      (n ≤ 3600 → s.sup.state = .running →
        t.transit = base ++ [.deskAnswer slot .done {}] ∧
        (0 < n → t.sup.sub = .paused ∧ t.sup.heartbeatTimer = none ∧ t.sup.graceTimer = none ∧
          t.sup.pauseTimer = some (s.clock + n * 1000000) ∧ t.sup.settleTimer = s.sup.settleTimer) ∧
        (n = 0 → s.sup.sub ≠ .paused → t.sup = s.sup) ∧
        (n = 0 → s.sup.sub = .paused → t.sup.sub = .watching ∧ t.sup.pauseTimer = none ∧
          t.sup.heartbeatTimer = if heartbeatTimeout s.mem = 0 then none
            else some (s.clock + heartbeatTimeout s.mem * 1000000)) ∧
        t = { s with transit := t.transit, sup := t.sup, keypad := t.keypad, chords := t.chords, shown := t.shown })

/-- The ladder causes (R74, R77, R80, R82): a stage deadline's expiry is a BOOT STALL with the stage, the grace's a
HEARTBEAT, and a drop of a host rail in POWERING, BOOTING or RUNNING a RAIL DROP with the rail; in other states the
drop moves no supervisor. The attempts limited at each refresh are the model's reading (log 34). The current step
beside a fault of a started head's first step is the model's reading (log 32). Entry into RESTARTING or SHUTTING stops
the forced-off timer (R115), and that an expiry due at that moment stays open is the model's form (log 51). -/
def Obligations.LadderCauses : Prop :=
  ∀ (s : State) (due : Nat),
    (s.sup.stageTimer = some due → ∃ t, exec .stageDeadlineExpiry s = .next t ∧
      LadderTaken { s with clock := max s.clock due, sup := { s.sup with stageTimer := none } } t .bootStall
        s.sup.bootStage) ∧
    (s.sup.graceTimer = some due → ∃ t, exec .graceExpiry s = .next t ∧
      LadderTaken { s with clock := max s.clock due, sup := { s.sup with graceTimer := none } } t .heartbeat 0) ∧
    ∀ (us : Nat) (r : Fin 6), s.rails[r].good = true → s.rails[r].commanded = true → s.rails[r].watched = true →
      (hostMask s.mem).getLsbD r.val = true →
      (∀ (c : Fin 4) next at_, s.channels[c].activity ≠ .wait r false next at_) →
      ∃ t, exec (.pgChange us r false) s = .next t ∧
        (s.sup.state = .powering ∨ s.sup.state = .booting ∨ s.sup.state = .running →
          ∃ u, LadderTaken u t .railDrop r.val ∧ u.sup = s.sup ∧ u.mem = s.mem ∧ u.clock = s.clock + us ∧
            u.channels = s.channels) ∧
        (s.sup.state ≠ .powering → s.sup.state ≠ .booting → s.sup.state ≠ .running → t.sup = s.sup)

/-- RESTART HOST (R85, R148): BAD_ARGUMENT, then WRONG_STATE, each changing nothing; else DONE at once with the rung, the
cause REQUEST with attempt 0 and the ladder position as it was, and RESTARTING with the rung named. The current step
beside a fault of a started head's first step is the model's reading (log 32). Entry into RESTARTING or SHUTTING stops
the forced-off timer (R115), and that an expiry due at that moment stays open is the model's form (log 51). -/
def Obligations.RestartHost : Prop :=
  ∀ (slot : Fin 8) (rung : Word) (s : State), s.sup.ladder.rungCount ≤ 6 →
    ∃ t, exec (.restartHost slot rung) s = .next t ∧
      let base := s.transit.erase (.restartHost slot rung)
      let busyStates : Prop := s.sup.state = .booting ∨ s.sup.state = .running
      let refused (code : AnswerCode) : Prop := t = { s with transit := base ++ [.deskAnswer slot code {}] }
      (s.sup.ladder.rungCount ≤ rung.toNat → refused .badArgument) ∧
      (rung.toNat < s.sup.ladder.rungCount → ¬ busyStates → refused .wrongState) ∧
      (rung.toNat < s.sup.ladder.rungCount → busyStates → ∀ r : Fin 6, r.val = rung.toNat →
        let now := { s with transit := base ++ [.deskAnswer slot .done { w0 := rung }] }
        RestartBegun (now.counted .request) t r .request [causeReport now .request (some r) 0 0] ∧
        CauseRecorded now t .request (some r) 0 0 ∧
        HostFrame now t ∧ t.sup.rung = s.sup.rung ∧ t.sup.attempts = s.sup.attempts ∧ t.sup.ladder = s.sup.ladder ∧
        .deskAnswer slot .done { w0 := rung } ∈ t.transit)

/-- SHUT DOWN HOST (R86, R87, R148): its refusals in order; else DONE, SHUTTING with the target, the wake-after time kept
for OFF alone, and the halt delay running or the off-sequence started. The current step beside a fault of a started
head's first step is the model's reading (log 32). Entry into RESTARTING or SHUTTING stops the forced-off timer
(R115), and that an expiry due at that moment stays open is the model's form (log 51). -/
def Obligations.ShutDownHost : Prop :=
  ∀ (slot : Fin 8) (halt target wake : Word) (s : State),
    ∃ t, exec (.shutDownHost slot halt target wake) s = .next t ∧
      let base := s.transit.erase (.shutDownHost slot halt target wake)
      let bad : Prop := 600 < halt.toNat ∨ 1 < target.toNat ∨ 10080 < wake.toNat
      let allowed : Prop := s.sup.state = .booting ∨ s.sup.state = .running
      let refused (code : AnswerCode) : Prop := t = { s with transit := base ++ [.deskAnswer slot code {}] }
      (bad → refused .badArgument) ∧ (¬ bad → ¬ allowed → refused .wrongState) ∧
      (¬ bad → allowed →
        let now := { s with transit := base ++ [.deskAnswer slot .done {}] }
        HostFrame now t ∧
        ShutdownBegun now t (if target = 0#16 then .off else .heldByRequest) ∧
        t.sup.wakeAfter = (if target = 0#16 then some wake.toNat else none) ∧
        (0 < halt.toNat → t.sup.haltTimer = some (s.clock + halt.toNat * 1000000) ∧ Channel0Aborted now t []) ∧
        (halt.toNat = 0 → SupervisorStarted now t (offHead s.mem) (hostMask s.mem) []))

/-! ### Keypad, chords and lights -/

/-- A position at a scan (R93, R95, R97 to R100): the press and release runs with the targets fixed at their first scan,
the ghost block, the stuck check, and a record cleared at entry into UP. -/
def Obligations.KeyMachines : Prop :=
  ∀ (reading : BitVec 64) (s : State) (due : Nat) (p : Fin 64), s.keypad.nextScan = some due →
    ∃ t, exec (.keypadScan reading) s = .next t ∧
      let k := s.keypad.keys[p]
      let y := t.keypad.keys[p]
      let closed := reading.getLsbD p.val = true
      let factor := if s.keypad.coldMode = true then 2 else 1
      let np := pressCount s.mem * factor
      let nr := releaseCount s.mem * factor
      let stuck := stuckTime s.mem * 1000 ≤ k.elapsed t.uptime
      let releases : Prop :=
        (k.run = 0 → 1 < nr → y = { k with run := 1, target := nr }) ∧ (k.run = 0 → nr ≤ 1 → y = {}) ∧
        (k.run ≠ 0 → k.run + 1 < k.target → y = { k with run := k.run + 1 }) ∧
        (k.run ≠ 0 → k.target ≤ k.run + 1 → y = {})
      let presses : Prop :=
        (1 < np → y.state = .pressing ∧ y.run = 1 ∧ y.target = np) ∧ (np ≤ 1 → y.state = .down)
      let held : Prop := (stuck → y.state = .stuck ∧ y.run = 0 ∧ y.nextRepeat = none ∧ y.downTime = k.downTime) ∧
        (¬ stuck → y.state = .down ∧ y.run = 0 ∧ y.latched = k.latched ∧ y.downTime = k.downTime)
      (k.state = .up →
        (¬ closed → y = k) ∧ (closed → Ghosted reading p → y.state = .blocked ∧ y.run = 0) ∧
        (closed → ¬ Ghosted reading p → presses)) ∧
      (k.state = .pressing → (¬ closed → y = {}) ∧
        (closed → k.run ≠ 0 → k.run + 1 < k.target → y = { k with run := k.run + 1 }) ∧
        (closed → k.run ≠ 0 → k.target ≤ k.run + 1 → y.state = .down)) ∧
      (k.state = .down → k.run = 0 → (closed → held) ∧
        (¬ closed → (1 < nr → y = { k with state := .releasing, run := 1, target := nr }) ∧ (nr ≤ 1 → y = {}))) ∧
      (k.state = .releasing → (closed → held) ∧ (¬ closed → releases)) ∧
      (k.state = .stuck → (closed → y = { k with run := 0, target := 0 }) ∧ (¬ closed → releases)) ∧
      (k.state = .blocked →
        (closed → Ghosted reading p → y = { k with run := 0, target := 0 }) ∧
        (closed → ¬ Ghosted reading p → presses) ∧ (¬ closed → releases))

/-- The reports and counts of a scan (R92, R96, R98 to R105): entry into DOWN latches the map entry, the down time and
the unreported mark by the lock, and posts KEY DOWN; the repeat check; a reported key that leaves posts KEY UP, from
STUCK KEY FREED; an unreported one nothing; every report carries the held count of the whole scan; and the stuck count,
the fault-armed mark and the KEYPAD FAULT report follow. -/
def Obligations.KeyReports : Prop :=
  ∀ (reading : BitVec 64) (s : State) (due : Nat), s.keypad.nextScan = some due →
    ∃ t sent, exec (.keypadScan reading) s = .next t ∧ t.transit = s.transit ++ sent ∧ t.clock = max s.clock due ∧
      t.keypad.nextScan = some (due + scanPeriod s.mem * 1000) ∧
      let keys := t.keypad.keys
      let held := (indices 64).countP fun p => decide (keys[p].state = .down ∨ keys[p].state = .releasing) &&
        keys[p].latched.any fun e => decide (e.code ≠ 0#7)
      let stuck := (indices 64).countP fun p => decide (keys[p].state = .stuck)
      (t.keypad.stuckCount = stuck ∧
        (t.keypad.faultArmed = true ↔ stuck < 3) ∧
        (s.keypad.faultArmed = true → 3 ≤ stuck → ∃ low high : DWord,
          posting t.uptime .keypadFault 0 true 0 { w0 := natWord stuck, w1 := low, w2 := high } ∈ sent ∧
          (∀ p : Fin 64, p.val < 32 → (low.getLsbD p.val = true ↔ keys[p].state = .stuck)) ∧
          ∀ p : Fin 64, 32 ≤ p.val → (high.getLsbD (p.val - 32) = true ↔ keys[p].state = .stuck)) ∧
        (s.keypad.faultArmed = false ∨ stuck < 3 → ∀ r, .reportPosting r ∈ sent → r.kind ≠ .keypadFault)) ∧
      ∀ p : Fin 64,
        let k := s.keypad.keys[p]
        let y := keys[p]
        let e := keyEntry s.mem p
        let since (n : DWord) : DWord := n - k.downTime.getD n
        let interval := natWord (repeatInterval s.mem)
        let repeats (n : DWord) : Prop := k.nextRepeat = some n ∧ (since n).toNat ≤ (since t.uptime).toNat
        let reported (sub : Byte) (g : KeyEntry) : Prop :=
          posting t.uptime .key sub false (BitVec.ofNat 8 p.val)
            { w0 := g.code.setWidth 32, w1 := g.group.setWidth 32, w2 := natWord (p.val / 8 * 256 + p.val % 8)
              w3 := natWord held } ∈ sent
        let wasHeld : Prop := k.state = .down ∨ k.state = .releasing
        (k.state = .up ∨ k.state = .pressing ∨ k.state = .blocked → y.state = .down →
          y.latched = some e ∧ y.downTime = some t.uptime ∧ (y.unreported = true ↔ s.Locked) ∧
          y.nextRepeat = (if e.rep = true then some (t.uptime + natWord (repeatDelay s.mem)) else none) ∧
          (e.code ≠ 0#7 → .counterIncrement .keyDowns ∈ sent) ∧
          (e.code ≠ 0#7 → ¬ s.Locked → reported 1 e)) ∧
        (wasHeld → y.state = .down → reading.getLsbD p.val = true →
          (∀ n, repeats n → y.nextRepeat = some
            (if (since t.uptime).toNat < (since (n + interval)).toNat then n + interval else t.uptime + interval)) ∧
          ((∀ n, k.nextRepeat = some n → ¬ repeats n) → y.nextRepeat = k.nextRepeat)) ∧
        (∀ g : KeyEntry, k.latched = some g → g.code ≠ 0#7 → k.unreported = false →
          (wasHeld → y.state = .up → reported 2 g) ∧ (k.state = .stuck → y.state = .up → reported 5 g) ∧
          (wasHeld → y.state = .stuck → reported 4 g) ∧
          (∀ n, wasHeld → y.state = .down → reading.getLsbD p.val = true → repeats n → ¬ s.Locked → reported 3 g)) ∧
        (∀ r : Posting, .reportPosting r ∈ sent → r.kind = .key → r.subkind = 3#8 → r.source = BitVec.ofNat 8 p.val →
          y.state = .down ∧ ¬ s.Locked ∧ ∃ n, k.nextRepeat = some n ∧ repeats n) ∧
        (wasHeld → y.state = .stuck → .counterIncrement .stuck ∈ sent) ∧
        (k.state = .up → y.state = .blocked → .counterIncrement .ghostBlocks ∈ sent) ∧
        (k.unreported = true → wasHeld ∨ k.state = .stuck →
          ∀ r : Posting, .reportPosting r ∈ sent → r.kind = .key → r.source ≠ BitVec.ofNat 8 p.val)

/-- A hand-off of the held set (R106, R108 to R114, R116, R119, R120): the chords in ascending order, each matched, armed
and fired; then the power key's press, its long press and its forced hold, by the supervisor state published before
the hand-off (R69); what they made the supervisor publish, taken after them; and the status entry rewritten when
anything it shows has changed. v 0 is the state the scan itself leaves, whose keys KeyMachines and KeyReports tell.
The order within the hand-off (log 21), an argument the action does not use shown as the table has it (log 45), the
state a forced hold's report carries (log 36), and the current step beside a fault of a step that a start reaches (log
32) are the model's reading. Entry into RESTARTING or SHUTTING stops the forced-off timer (R115), and that an expiry
due at that moment stays open is the model's form (log 51). -/
def Obligations.HandOff : Prop :=
  ∀ (reading : BitVec 64) (s : State) (due : Nat), s.keypad.nextScan = some due →
    ∃ (v : Fin 9 → State) (u t : State), exec (.keypadScan reading) s = .next t ∧
      (v 0).keypad = { s.keypad with
        keys := t.keypad.keys, stuckCount := t.keypad.stuckCount, faultArmed := t.keypad.faultArmed
        nextScan := t.keypad.nextScan, policyRead := t.keypad.policyRead, lockedAtScan := t.keypad.lockedAtScan } ∧
      (∃ sent, (v 0).transit = s.transit ++ sent) ∧
      v 0 = { s with clock := max s.clock due, transit := (v 0).transit, keypad := (v 0).keypad } ∧
      (∀ n : Fin 8, ChordTaken (v n.castSucc) (v n.succ) n) ∧
      (∃ (w : State) (x : ChordUnit),
        PowerTaken { v 8 with chords := { (v 8).chords with
          published := s.chords.published, publishedSub := s.chords.publishedSub, progress := s.chords.progress
          rearmAwaited := s.chords.rearmAwaited, forcedOffTimer := s.chords.forcedOffTimer
          openExpiry := s.chords.openExpiry } } w ∧
        PublicationTaken w.chords x w.clock s.sup (v 8).sup ∧ PublicationTaken x u.chords w.clock (v 8).sup w.sup ∧
        u = { w with chords := u.chords }) ∧
      t = if u.chordEntry = (v 0).chordEntry then u
        else { u with shown := { u.shown with chords := u.chordEntry } }

/-- The forced-off timer's expiry (R115, R87): the timer stops, a forced shutdown is ordered, and an urgent POWER KEY
report of subkind FORCED OFF is posted. Of an expiry and a publication of one moment either may be taken first: an expiry
taken at the moment at which a publication has stopped the timer was the first, and the supervisor, RESTARTING or SHUTTING
by then, takes its order; with the timer stopped otherwise there is no expiry. The state the report carries (log 36) and
the form in which both orders arise (log 51) are the model's reading. The current step beside a fault of a started head's
first step is the model's reading (log 32). -/
def Obligations.ForcedOffExpiry : Prop :=
  ∀ s : State,
    let expires (now t : State) (word : DWord) : Prop := ∃ stopped u : State,
      stopped = { now with
        chords := { s.chords with forcedOffTimer := none, openExpiry := none }
        shown := { s.shown with chords := stopped.shown.chords } } ∧
      ForcedDown stopped u ∧
      t = { u with transit := u.transit ++ [posting t.uptime .powerKey 4 true 0 { w0 := word }] }
    (∀ due, s.chords.forcedOffTimer = some due → ∃ t, exec .forcedOffTimerExpiry s = .next t ∧
      expires { s with clock := max s.clock due } t (supWordOf s.chords.published s.chords.publishedSub)) ∧
    (∀ x, s.chords.forcedOffTimer = none → s.chords.openExpiry = some x → s.clock ≤ x.moment →
      ∃ t, exec .forcedOffTimerExpiry s = .next t ∧ expires s t x.word) ∧
    (s.chords.forcedOffTimer = none → (∀ x, s.chords.openExpiry = some x → x.moment < s.clock) →
      exec .forcedOffTimerExpiry s = .next s)

/-- What each position shows (R117 to R119), composed from the tables at every moment: dark before READY; the light test;
the progress bar in WARMING; the HELD mask; else the light map's entry with its own blink. A write of the tables composes
afresh and moves no state; the light test's end returns every position to its layers. Dark is level 0 (log 46). -/
def Obligations.LightsComposed : Prop :=
  (∀ (s : State) (p : Fin 64),
     exec .lightTableWrite s = .next { s with transit := s.transit.erase .lightTableWrite } ∧
     let level (e : Nat) : Nat := (max 0 (min 63 ((min (s.mem.byte (0x18C0 + 2 * e)) 63 : Nat) + dimOffset s.mem))).toNat
     let lit (mode : Nat) : Prop :=
       (mode = 1 → s.uptime.toNat % 1000 < 500) ∧ (mode = 2 → s.uptime.toNat % 250 < 125)
     let shows (e mode : Nat) : Prop := (lit mode → s.light p = level e) ∧ (¬ lit mode → s.light p = 0)
     let own (e : Nat) : Nat := s.mem.byte (0x18C0 + 2 * e + 1)
     let ready := s.partState ≠ .starting
     let testing := ∃ ends, s.chords.testEnds = some ends ∧ s.clock < ends
     let inRow := p.val / 8 = min (s.mem.byte 0x18C8) 7
     let masked := (s.mem.read (0x18C9 + p.val / 8)).getLsbD (p.val % 8) = true
     (¬ ready → s.light p = 0) ∧
     (ready → testing → shows 3 0) ∧
     (ready → ¬ testing → s.chords.published = .warming → inRow →
       (p.val % 8 < s.chords.progress * 8 / 1000 → shows 2 (own 2)) ∧
       (s.chords.progress * 8 / 1000 ≤ p.val % 8 → s.light p = 0)) ∧
     (ready → ¬ testing → s.chords.published = .held → masked → shows 3 2) ∧
     (ready → ¬ testing → ¬ (s.chords.published = .warming ∧ inRow) → ¬ (s.chords.published = .held ∧ masked) →
       shows (min (s.mem.byte (0x1880 + p.val)) 3) (own (min (s.mem.byte (0x1880 + p.val)) 3)))) ∧
  (∀ (s : State) (due : Nat), s.chords.testEnds = some due →
     ∃ t, exec .lightTestEnd s = .next t ∧ t.chords = { s.chords with testEnds := none } ∧
       t.shown.chords.testRemaining = none ∧
       t = { s with clock := max s.clock due, chords := t.chords, shown := t.shown })

/-! ### The schedule -/

/-- An advance of tick k (R121, R123 to R128, R130): its next advance, the tick part of the status entry rewritten, and
the entries taken in ascending number, each as EntryTaken tells it; no byte outside the entries changes. A write that
changes a value of the tick ladder restarts the phases (R121, R122): the lengths recomputed, every advance from this
moment, the tick part rewritten; unchanged values restart nothing. The value drawn is free (log 3); a boost
taken within the entry's event (log 42) and the current step beside a fault of a sequence an entry starts (log 32) are the
model's reading. -/
def Obligations.TickAdvance : Prop :=
  (∀ (k : Fin 8) (s : State) (due : Nat), s.sched.nextAdvance[k] = some due →
     ∃ u : Fin 33 → State, exec (.tickAdvance k) s = .next (u 32) ∧
       (let v := u 0
        (∀ j : Fin 8, v.sched.nextAdvance[j] =
            if j = k then some (due + s.sched.lengths[k] * 1000) else s.sched.nextAdvance[j]) ∧
        v.shown.ticks.lengths = s.sched.lengths ∧
        (∀ j : Fin 8, v.shown.ticks.left[j] = v.sched.nextAdvance[j].map fun due => (due - v.clock) / 1000) ∧
        v = { s with
          clock := max s.clock due, sched := { s.sched with nextAdvance := v.sched.nextAdvance }
          shown := { s.shown with ticks := v.shown.ticks } }) ∧
       (∀ e : Fin 32, EntryTaken k (u e.castSucc) (u e.succ) e) ∧
       ∀ a : Nat, a < 0x1210 ∨ 0x1310 ≤ a → (u 32).mem.read a = s.mem.read a) ∧
  (∀ (before after : List Byte) (s : State),
     ∃ t, exec (.tickLadderEdit before after) s = .next t ∧
       let base := { s with transit := s.transit.erase (.tickLadderEdit before after) }
       (before = after → t = base) ∧
       (before ≠ after →
         t.sched.lengths[(0 : Fin 8)] = max 1 (min 1000 (s.mem.nat16 0x1200)) ∧
         (∀ k : Nat, ∀ h : k + 1 < 8, t.sched.lengths[(⟨k + 1, h⟩ : Fin 8)] =
           min (t.sched.lengths[(⟨k, by omega⟩ : Fin 8)] * max 2 (s.mem.byte (0x1201 + (k + 1)))) 4294967295) ∧
         (∀ k : Fin 8, t.sched.nextAdvance[k] = some (s.clock + t.sched.lengths[k] * 1000) ∧
           t.shown.ticks.left[k] = some t.sched.lengths[k]) ∧
         t.shown.ticks.lengths = t.sched.lengths ∧
         t = { base with
           sched := { s.sched with lengths := t.sched.lengths, nextAdvance := t.sched.nextAdvance }
           shown := { s.shown with ticks := t.shown.ticks } }))

/-! ### Link port and notice unit -/

/-- A falling edge on a port that is not OPEN begins no transaction, and where none is in progress, none begun or one
discarded by a fence, every later moment of the period applies, delivers and counts nothing and leaves the output floating
(R138); an edit of the link rail setting makes the port evaluate the rail newly named, and FENCED it discards. That each
moment of a period is a command of its own is the model's form (log 18). -/
def Obligations.FencedPort : Prop :=
  ∀ (us : Nat) (c : Byte) (inbound : List Byte) (s : State),
    let now : State := { s with clock := s.clock + us }
    let gives (m : SelectMoment) (t : State) : Prop :=
      let cs : SelectEvent := { us := us, moment := m }
      exec (.status cs inbound) s = .next t ∧ exec (.read cs inbound) s = .next t ∧
      exec (.write cs inbound) s = .next t ∧ exec (.badCommand cs c inbound) s = .next t
    (¬ s.PortOpen → gives .falls { now with link := { s.link with transfer := none } }) ∧
    ((∀ x, ¬ s.Serves x) →
      gives .acts now ∧ gives .rises { now with link := { s.link with transfer := none, out := none } }) ∧
    ∀ before after : Byte, ∃ t, exec (.linkRailEdit before after) s = .next t ∧
      (before = after → t.link = s.link) ∧
      (∀ r : Fin 6, before ≠ after → r.val = min after.toNat 5 → LinkEvaluated s t r) ∧
      t = { s with transit := s.transit.erase (.linkRailEdit before after), link := t.link }

/-- STATUS, READ and an unknown command byte on an OPEN port (R131, R133 to R135, R139, R141, R170): the falling edge
captures the status byte as it then stands; the completed address of a READ the 256 bytes from it on, wrapping at the
top, each as 12.2 to 12.9 lay it out; an unknown command is counted; and the rising edge ends the transaction, which has
shifted out that status byte, then 0x00, or for a READ its copy and 0x00 after it, and is counted. Nothing else of the
part changes. Where the ten blocks and their items stand is free, within the region and in order, and so is the form of a
list that has outgrown its places in its block: the model's choice (log 15); that each of these moments is a command of
its own is the model's form (log 18). -/
def Obligations.PortReads : Prop :=
  ∃ (d : Nat → Nat) (p : Nat → Nat → Nat),
  0xA14 ≤ d 0 ∧ (∀ k, k < 10 → d k < d (k + 1)) ∧ d 6 + 48 ≤ d 7 ∧ d 10 ≤ 0xC00 ∧ ItemsPlaced d p ∧
  ∀ (us : Nat) (c : Byte) (inbound : List Byte) (s : State), s.PortOpen →
    let now : State := { s with clock := s.clock + us }
    let unknown : Prop := c ≠ 0xA0#8 ∧ c ≠ 0xA1#8 ∧ c ≠ 0xA2#8
    let falls : SelectEvent := { us := us, moment := .falls }
    let acts : SelectEvent := { us := us, moment := .acts }
    let rises : SelectEvent := { us := us, moment := .rises }
    let begun : State := { now with link := { s.link with transfer := some { status := s.statusByte } } }
    let ended (out : List Byte) : State := { now with
      transit := s.transit ++ [.counterIncrement .transactions]
      link := { s.link with transfer := none, out := some out } }
    let zero (n : Nat) : List Byte := List.replicate n 0#8
    exec (.status falls inbound) s = .next begun ∧ exec (.read falls inbound) s = .next begun ∧
    exec (.write falls inbound) s = .next begun ∧ exec (.badCommand falls c inbound) s = .next begun ∧
    (∀ x, s.Serves x →
      exec (.status acts inbound) s = .next now ∧ exec (.write acts inbound) s = .next now ∧
      (unknown → exec (.badCommand acts c inbound) s =
        .next { now with transit := s.transit ++ [.counterIncrement .badCommands] }) ∧
      (inbound.length < 2 → exec (.read acts inbound) s = .next now) ∧
      (∀ (hi lo : Byte) (data : List Byte), inbound = hi :: lo :: data →
        ∃ copy, copy.length = 256 ∧
          exec (.read acts inbound) s =
            .next { now with link := { s.link with transfer := some { x with copy := copy } } } ∧
          ∀ i : Nat, i < 256 →
            ∃ v, copy[i]? = some v ∧ ShowsByte d p now ((hi.toNat * 256 + lo.toNat + i) % 0x4000) v) ∧
      exec (.status rises inbound) s = .next (ended (x.status :: zero inbound.length)) ∧
      (unknown → exec (.badCommand rises c inbound) s = .next (ended (x.status :: zero inbound.length))) ∧
      (inbound.length < 2 → exec (.read rises inbound) s = .next (ended (x.status :: zero inbound.length)) ∧
        exec (.write rises inbound) s = .next (ended (x.status :: zero inbound.length))) ∧
      (2 ≤ inbound.length → ∃ out, exec (.read rises inbound) s = .next (ended (x.status :: 0#8 :: 0#8 :: out)) ∧
        out.length + 2 = inbound.length ∧ ∀ i v, out[i]? = some v → v = x.copy.getD i 0#8)) ∧
    (s.statusByte.getLsbD 0 = true ↔ s.partState ≠ .starting) ∧
    (s.statusByte.getLsbD 1 = true ↔ s.notice.marks &&& s.notice.enable &&& 0x3F#8 ≠ 0#8) ∧
    (s.statusByte.getLsbD 2 = true ↔ s.partState = .defaulted) ∧
    (s.statusByte.getLsbD 3 = true ↔ ∃ slot image crc eraseAt, s.store = .storing slot image crc eraseAt) ∧
    ∀ i : Nat, 4 ≤ i → s.statusByte.getLsbD i = false

/-- A WRITE closed at its rising edge, its transaction begun on an OPEN port and not fenced since (R131, R136, R137,
R141, R144): the first 256 bytes, each at its address; the host's bytes are stored, all but the acknowledge; a sequence
word is applied only when both its bytes came as 0x00; no other byte and no other report changes; the write is stray
once when a byte was not applied or lay beyond the 256th; and each unit a byte touched is told: the notice unit, the
supervisor, the light unit, the report pool, the rails, the link port, the schedule, and the desk slot by slot. The
order of the deliveries (log 1) and the rising edge as the WRITE's command (log 18) are the model's. -/
def Obligations.WriteApplies : Prop :=
  ∀ (us : Nat) (hi lo : Byte) (data : List Byte) (s : State) (x : Transfer), s.Serves x →
    ∃ (v : Fin 9 → State) (strays : List Instr) (out : List Byte),
      let start := hi.toNat * 256 + lo.toNat
      let written (a : Nat) : Option Byte :=
        if a < 0x4000 ∧ (a + 0x10000 - start) % 0x4000 < 256 then data[(a + 0x10000 - start) % 0x4000]? else none
      let touched (a n : Nat) : Prop := ∃ i, i < n ∧ written (a + i) ≠ none
      let collected (c : Fin 64) : Prop :=
        written (0x200 + 32 * c.val) = some 0#8 ∧ written (0x201 + 32 * c.val) = some 0#8
      let stray : Prop := 256 < data.length ∨ ∃ a, written a ≠ none ∧ ¬ HostByte a ∧
        ¬ ∃ c : Fin 64, collected c ∧ (a = 0x200 + 32 * c.val ∨ a = 0x201 + 32 * c.val)
      let mem := (v 0).mem
      let ladder (m : Memory) : List Byte := (List.range 9).map fun i => m.read (0x1200 + i)
      let heartbeat : Option DWord := if touched 0x0C 4 then some (mem.read32 0x0C) else none
      let cells : List (Fin 64 × Word) := ((indices 64).filter fun c => decide (collected c)).map fun c =>
        (c, match s.pool.cells[c] with | some x => x.shown | none => 0#16)
      let told : List Instr :=
        (match written 8, written 9 with
          | some e, a => [.noticeEnable e a]
          | none, some a => [.noticeAcknowledge a]
          | none, none => [])
        ++ (match written 10, heartbeat with
          | some c, h => [.checkpoint c h]
          | none, some h => [.heartbeatKick h]
          | none, none => [])
        ++ (if written 11 ≠ none ∨ touched 0x1880 0x51 then [.lightTableWrite] else [])
        ++ (if cells = [] then [] else [.collection cells])
        ++ (match written 0x10E0 with | some b => [.hostRailMaskEdit (s.mem.read 0x10E0) b] | none => [])
        ++ (match written 0x10E1 with | some b => [.linkRailEdit (s.mem.read 0x10E1) b] | none => [])
        ++ (if touched 0x1200 9 then [.tickLadderEdit (ladder s.mem) (ladder mem)] else [])
      (stray → strays = [.noticeMarkSet .stray, .counterIncrement .strayWrites]) ∧ (¬ stray → strays = []) ∧
      (∀ a b, written a = some b → HostByte a → a ≠ 9 → mem.read a = b) ∧
      (∀ a, ¬ HostByte a ∨ a = 9 ∨ written a = none → mem.read a = s.mem.read a) ∧
      (∀ c : Fin 64, (v 0).pool.cells[c] =
        if collected c then s.pool.cells[c].map fun x => { x with shown := 0 } else s.pool.cells[c]) ∧
      v 0 = { s with
        clock := s.clock + us, transit := s.transit ++ strays ++ told, mem := mem
        pool := { s.pool with cells := (v 0).pool.cells } } ∧
      (∀ k : Fin 8,
        (touched (0x100 + 32 * k.val) 10 →
          SlotDelivered (v k.castSucc) (v k.succ) k (s.mem.read (0x101 + 32 * k.val))) ∧
        (¬ touched (0x100 + 32 * k.val) 10 → v k.succ = v k.castSucc)) ∧
      out.length = data.length ∧
      exec (.write { us := us, moment := .rises } (hi :: lo :: data)) s = .next { v 8 with
        transit := (v 8).transit ++ [.counterIncrement .transactions]
        link := { s.link with transfer := none, out := some (x.status :: 0#8 :: 0#8 :: out) } }

/-- The notice unit (R140 to R142): a request sets its mark and no other; the enable is taken as written; an acknowledge
clears the marks it names; and NOTICE is driven low exactly while the port is OPEN with a mark set and enabled. -/
def Obligations.NoticeUnit : Prop :=
  ∀ (s : State) (m : Mark) (e a : Byte),
    let floating (t : State) : Prop := t.noticeLine = .floating ↔ ¬ (t.link.commanded = true ∧ t.link.good = true)
    let driven (t : State) : Prop := t.noticeLine = .asserted ↔
      t.link.commanded = true ∧ t.link.good = true ∧
        ∃ i : Nat, i < 6 ∧ t.notice.marks.getLsbD i = true ∧ t.notice.enable.getLsbD i = true
    (∃ t, exec (.noticeMarkSet m) s = .next t ∧ (∀ i : Nat, t.notice.marks.getLsbD i =
        (s.notice.marks.getLsbD i || decide (i = match m with
          | .desk => 0 | .reports => 1 | .urgent => 2 | .heartbeat => 3 | .stray => 4 | .settings => 5))) ∧
      t = { s with
        transit := s.transit.erase (.noticeMarkSet m), notice := { s.notice with marks := t.notice.marks } } ∧
      floating t ∧ driven t) ∧
    (∃ t, exec (.noticeEnable e none) s = .next t ∧ floating t ∧ driven t ∧
      t = { s with transit := s.transit.erase (.noticeEnable e none), notice := { s.notice with enable := e } }) ∧
    (∃ t, exec (.noticeEnable e (some a)) s = .next t ∧ t.notice.enable = e ∧
      (∀ i : Nat, t.notice.marks.getLsbD i = (s.notice.marks.getLsbD i && !a.getLsbD i)) ∧
      t = { s with transit := s.transit.erase (.noticeEnable e (some a)), notice := t.notice }) ∧
    (∃ t, exec (.noticeAcknowledge a) s = .next t ∧ t.notice.enable = s.notice.enable ∧
      (∀ i : Nat, t.notice.marks.getLsbD i = (s.notice.marks.getLsbD i && !a.getLsbD i)) ∧
      t = { s with transit := s.transit.erase (.noticeAcknowledge a), notice := t.notice })

/-! ### The request desk -/

/-- An outcome for a slot (R147): the answer code, the data and the captured toggle written together, the DESK mark
asked for, and the slot free, or, still posted, taken anew with the request the memory then holds (R144, R146). BAD_KIND
is such an answer with every data word 0. A slot not taken is left as it is (R154). -/
def Obligations.DeskAnswers : Prop :=
  ∀ (slot : Fin 8) (code : AnswerCode) (data : Words) (s : State) (c : Instr),
    (c = .deskAnswer slot code data ∨ (c = .badKind slot ∧ code = .badKind ∧ data = {})) →
    ∃ t, exec c s = .next t ∧
      (s.slots[slot].taken = none → t = { s with transit := s.transit.erase c }) ∧
      ∀ r, s.slots[slot].taken = some r →
        let answered : State := { s with
          transit := s.transit.erase c ++ [.noticeMarkSet .desk]
          slots := put s.slots slot
            { taken := none, answerCode := some code, answerToggle := r.toggle, data := data } }
        let toggle := s.mem.read (0x101 + 32 * slot.val)
        (toggle = r.toggle → t = answered) ∧ (toggle ≠ r.toggle → SlotTaken answered t slot)

/-- A delivered write to a slot (R144 to R146), for a write of a post toggle alone: a free slot whose toggle then
differs is taken with the fields as the memory holds them and dispatched by its kind, all thirteen of them and an
unknown one; a taken slot keeps its request and a changed toggle is an overpost, which is one count. Which refusals are
part of the take is the model's reading (log 30). -/
def Obligations.DeskTakes : Prop :=
  ∀ (us : Nat) (slot : Fin 8) (v : Byte) (s : State) (x : Transfer), s.Serves x →
    let b := 0x100 + 32 * slot.val
    ∃ u t, exec (.write { us := us, moment := .rises }
        [BitVec.ofNat 8 ((b + 1) / 256), BitVec.ofNat 8 ((b + 1) % 256), v]) s = .next t ∧
      t.mem.read (b + 1) = v ∧ (∀ a, a ≠ b + 1 → t.mem.read a = s.mem.read a) ∧
      SlotDelivered { s with clock := s.clock + us, mem := t.mem } u slot (s.mem.read (b + 1)) ∧
      t = { u with
        transit := u.transit ++ [.counterIncrement .transactions]
        link := { s.link with transfer := none, out := t.link.out } } ∧
      exec (.deskOverpost slot) s = .next { s with
        transit := s.transit.erase (.deskOverpost slot) ++ [.counterIncrement .deskOverposts] }

/-! ### The settings store -/

/-- STORE SETTINGS and its end (R163, R165, R152): BUSY unless IDLE; else the snapshot of the whole region and its CRC,
the erase, which raises the count and leaves the image invalid, begun at a moment within the store's 300 ms and by its
end at the latest; a good verify makes the snapshot the valid image, READY of a defaulted part, and DONE; an error
leaves it invalid and answers FAILED. Where within the 300 ms the erase begins is free (log 24). -/
def Obligations.StoreSettings : Prop :=
  ∀ (slot : Fin 8) (us : Nat) (s : State),
    (∃ t, exec (.storeSettings slot) s = .next t ∧
      (s.store ≠ .idle → t = { s with
        transit := s.transit.erase (.storeSettings slot) ++ [.deskAnswer slot .busy {}] }) ∧
      (s.store = .idle → ∃ image eraseAt, t.store = .storing slot image (imageCrc image) eraseAt ∧
        s.clock ≤ eraseAt ∧ eraseAt ≤ s.clock + 300000 ∧
        (∀ a : Nat, 0x1000 ≤ a → a < 0x3000 → image.read a = s.mem.read a) ∧
        t = { s with
          transit := s.transit.erase (.storeSettings slot), store := t.store, freeCount := s.freeCount + 1 })) ∧
    ∀ (k : Fin 8) (image : Memory) (crc : Word) (eraseAt : Nat), s.store = .storing k image crc eraseAt →
      let now : State := { s with clock := s.clock + us, store := .idle }
      let ends (sub : Byte) (urgent : Bool) (code : AnswerCode) : List Instr :=
        [posting now.uptime .settings sub urgent 0 { w0 := natWord s.nv.Erased.count }, .noticeMarkSet .settings,
          .deskAnswer k code {}]
      exec (.storeComplete us true) s = .next { now with
        nv := { s.nv.Erased with image := image, crc := crc, valid := true }
        partState := if s.partState = .defaulted then .ready else s.partState
        transit := s.transit ++ ends 1 false .done } ∧
      exec (.storeComplete us false) s = .next { now with
        nv := s.nv.Erased, transit := s.transit ++ ends 4 true .failed }

/-- RELOAD SETTINGS and its apply (R166, R152): BUSY unless IDLE with no sweep running; at the end of the read the
region becomes the image, or the factory defaults with READY-DEFAULTED, no other byte changes, the SETTINGS report and
mark and DONE follow, the tick phases restart, the link port evaluates its rail, and a changed host rail mask orders a
forced cut under it in OFF, WARMING or HELD (R72) and else moves no rail, line or channel (R167). The cut within the
apply is the model's reading (log 47). -/
def Obligations.ReloadSettings : Prop :=
  ∀ (slot : Fin 8) (us : Nat) (s : State),
    (∃ t, exec (.reloadSettings slot) s = .next t ∧
      let base := s.transit.erase (.reloadSettings slot)
      (s.store ≠ .idle ∨ s.sweep ≠ none → t = { s with transit := base ++ [.deskAnswer slot .busy {}] }) ∧
      (s.store = .idle → s.sweep = none → t = { s with transit := base, store := .reloading slot })) ∧
    (s.store = .reloading slot → s.nv.image.imageWf = true →
      ∃ t sent, exec (.reloadApply us) s = .next t ∧
        let ok := s.nv.valid = true ∧ imageCrc s.nv.image = s.nv.crc
        t.clock = s.clock + us ∧ t.store = .idle ∧ t.partState = (if ok then s.partState else .defaulted) ∧
        (∀ a : Nat, 0x1000 ≤ a → a < 0x3000 → t.mem.read a = (if ok then s.nv.image else factoryImage).read a) ∧
        (∀ a : Nat, a < 0x1000 ∨ 0x3000 ≤ a → t.mem.read a = s.mem.read a) ∧
        t.transit = s.transit ++ [posting t.uptime .settings (if ok then 2 else 3) (decide (¬ ok)) 0
            { w0 := natWord s.nv.count }, .noticeMarkSet .settings,
          .deskAnswer slot .done { w0 := if ok then 0 else 1 }] ++ sent ∧
        (∀ k : Fin 8, t.sched.lengths[k] = tickLength t.mem k.val ∧
          t.sched.nextAdvance[k] = some (t.clock + tickLength t.mem k.val * 1000) ∧
          t.shown.ticks.lengths[k] = tickLength t.mem k.val ∧
          t.shown.ticks.left[k] = some (tickLength t.mem k.val)) ∧
        (let cut : Prop := (s.sup.state = .off ∨ s.sup.state = .warming ∨ s.sup.state = .held) ∧
           hostMask t.mem ≠ hostMask s.mem
         (cut → CutUnder s t (hostMask t.mem)) ∧
         (¬ cut → t.rails = s.rails ∧ t.lines = s.lines ∧ t.channels = s.channels ∧ sent = [])) ∧
        (s.HostRailsOff → t.HostRailsOff) ∧ LinkEvaluated s t (linkRail t.mem) ∧
        t = { s with
          clock := t.clock, transit := t.transit, partState := t.partState, mem := t.mem, store := t.store
          rails := t.rails, lines := t.lines, channels := t.channels
          sched := { s.sched with lengths := t.sched.lengths, nextAdvance := t.sched.nextAdvance }, link := t.link
          shown := { s.shown with ticks := t.shown.ticks } })

/-! ### Counters and the report pool -/

/-- The counter unit (R153, R162): an increment adds one up to 4,294,967,295 and is disregarded while frozen; CLEAR
COUNTERS sets the named group to 0, frozen or not; FREEZE COUNTERS sets the flag. -/
def Obligations.CounterUnit : Prop :=
  ∀ (s : State) (slot : Fin 8),
    (∀ c : Counter, ∃ t, exec (.counterIncrement c) s = .next t ∧
      (∀ i : Fin 54, t.counters.values[i] =
        if i = counterPosition c ∧ s.counters.frozen = false ∧ s.counters.values[i] < 4294967295 then
          s.counters.values[i] + 1 else s.counters.values[i]) ∧
      t = { s with
        transit := s.transit.erase (.counterIncrement c), counters := { s.counters with values := t.counters.values } }) ∧
    (∀ g : Fin 7, ∃ t, exec (.clearCounters slot (BitVec.ofNat 16 g.val)) s = .next t ∧
      let first : Fin 7 → Nat := ![0, 14, 22, 34, 40, 45, 0]
      let last : Fin 7 → Nat := ![14, 22, 34, 40, 45, 54, 54]
      (∀ i : Fin 54, t.counters.values[i] = if first g ≤ i.val ∧ i.val < last g then 0 else s.counters.values[i]) ∧
      t = { s with
        transit := s.transit.erase (.clearCounters slot (BitVec.ofNat 16 g.val)) ++ [.deskAnswer slot .done {}]
        counters := { s.counters with values := t.counters.values } }) ∧
    (∀ on : Bool, let w : Word := if on = true then 1 else 0
      exec (.freezeCounters slot w) s = .next { s with
        transit := s.transit.erase (.freezeCounters slot w) ++ [.deskAnswer slot .done { w0 := w }]
        counters := { s.counters with frozen := on } })

/-- A posting (R156, R160, R161) into a sound pool: dropped, numbered, collided, placed in the lowest-numbered empty
cell or by overwriting the oldest NORMAL, or for an URGENT report with none the oldest of all, written at the end of the
order, and the marks asked for. After a collision the cell it emptied counts among the empty ones. A dropped report sets
no mark. The class is the posting's own operand (log 50), and the coalesce timer starts afresh after a collision with
the only report (log 49). -/
def Obligations.ReportPosting : Prop :=
  ∀ (r : Posting) (s : State), s.pool.Ok →
    ∃ t, exec (.reportPosting r) s = .next t ∧
      let p := s.pool
      let q := t.pool
      let base := s.transit.erase (.reportPosting r)
      let filled (c : Fin 64) : Prop := p.cells[c] ≠ none
      let normal (c : Fin 64) : Prop := ∃ x, p.cells[c] = some x ∧ x.report.urgent = false
      let number := p.generator
      let collides : Prop := ∃ (c : Fin 64) (x : PoolCell), p.cells[c] = some x ∧ x.number = number
      let dropped : Prop := (∀ c, filled c) ∧ r.urgent = false ∧ ∀ c, ¬ normal c
      (dropped → t = { s with transit := base ++ [.counterIncrement .dropped] }) ∧
      (¬ dropped →
        q.newest = number ∧ q.generator = (if number = 65535#16 then 1#16 else number + 1) ∧
        (collides → q.order.length = p.order.length) ∧
        (let full : Prop := (∀ c, filled c) ∧ ¬ collides
         ∃ collided overwritten, (collides → collided = [.counterIncrement .sequenceCollisions]) ∧
          (¬ collides → collided = []) ∧ (full → overwritten = [.counterIncrement .overwritten]) ∧
          (¬ full → overwritten = []) ∧
          t.transit = base ++ collided ++ overwritten ++ [.counterIncrement .reportsPosted]
            ++ (if r.urgent = true then [.noticeMarkSet .urgent] else [])
            ++ (if noticeThreshold s.mem ≤ q.order.length then [.noticeMarkSet .reports] else [])) ∧
        (let others : Prop := ∃ (c : Fin 64) (x : PoolCell), p.cells[c] = some x ∧ x.number ≠ number
         (others → q.coalesceTimer = p.coalesceTimer) ∧
         (¬ others → q.coalesceTimer = some (s.clock + coalesceTime s.mem * 1000))) ∧
        ∃ c : Fin 64, q.cells[c] = some { report := r, number := number, shown := number, aged := false } ∧
          q.order.getLast? = some c ∧
          (¬ collides →
            (∀ e : Fin 64, ¬ filled e → (∀ d, ¬ filled d → e ≤ d) → c = e ∧ q.order = p.order ++ [c]) ∧
            ((∀ e, filled e) →
              q.order = p.order.filter (fun d => decide (d ≠ c)) ++ [c] ∧
              ((∃ e, normal e) → normal c ∧ ∀ before after, p.order = before ++ c :: after → ∀ d ∈ before, ¬ normal d) ∧
              ((∀ e, ¬ normal e) → p.order.head? = some c)) ∧
            ∀ d : Fin 64, d ≠ c → q.cells[d] = p.cells[d]) ∧
          (∀ (e : Fin 64) (x : PoolCell), p.cells[e] = some x → x.number = number →
            (c = e ∨ ¬ filled c) ∧ (∀ d, d = e ∨ ¬ filled d → c ≤ d) ∧
            q.order = p.order.filter (fun d => decide (d ≠ e)) ++ [c] ∧
            ∀ d : Fin 64, d ≠ c → q.cells[d] = if d = e then none else p.cells[d]) ∧
          t = { s with transit := t.transit, pool := { q with ageTimer := p.ageTimer } })

/-- A collection of any distinct cells (R157), each by its word's value before the write: the report it numbers is
collected; 0 on a cell that shows a report as 0 collects it; anything else is disregarded, and a newer report then shows 0
and keeps its cell. The reports left keep their order, and the coalesce timer stops when none is left (R161). The number
kept beside the shown word is the model's reading (log 37). -/
def Obligations.Collections : Prop :=
  ∀ (cells : List (Fin 64 × Word)) (s : State), s.pool.Ok → (cells.map Prod.fst).Nodup →
    ∃ t, exec (.collection cells) s = .next t ∧
      let p := s.pool
      let q := t.pool
      (∀ c before, (c, before) ∈ cells → (p.cells[c] = none → q.cells[c] = none) ∧
        ∀ x, p.cells[c] = some x →
          (before = x.number ∨ (before = 0#16 ∧ x.shown = 0#16) → q.cells[c] = none) ∧
          (before ≠ x.number → before ≠ 0#16 → q.cells[c] = some { x with shown := 0 }) ∧
          (before = 0#16 → x.shown ≠ 0#16 → q.cells[c] = some x)) ∧
      (∀ c : Fin 64, (∀ before, (c, before) ∉ cells) → q.cells[c] = p.cells[c]) ∧
      q.order = p.order.filter (fun c => q.cells[c].isSome) ∧
      q.coalesceTimer = (if q.order = [] then none else p.coalesceTimer) ∧
      t = { s with
        transit := s.transit.erase (.collection cells)
        pool := { p with cells := q.cells, order := q.order, coalesceTimer := q.coalesceTimer } }

/-- The age tick (R158), the flushes (R153, R159) and the coalesce timer's expiry (R161) on a sound pool: marked reports
aged out and counted and the rest marked; every report, or every NORMAL one, reclaimed and their number answered; the
REPORTS mark asked for and the timer started again while a report waits. -/
def Obligations.AgingAndFlushing : Prop :=
  ∀ (s : State), s.pool.Ok →
    let p := s.pool
    let kept (q : Pool) (goes : PoolCell → Bool) (after : PoolCell → PoolCell) : Prop :=
      (∀ c : Fin 64, q.cells[c] = (p.cells[c].filter fun x => !goes x).map after) ∧
      q.order = p.order.filter (fun c => !(p.cells[c].any goes)) ∧ q.generator = p.generator ∧ q.newest = p.newest ∧
      q.coalesceTimer = if q.order = [] then none else p.coalesceTimer
    (∀ due : Nat, p.ageTimer = some due → ∃ t, exec .ageTick s = .next t ∧ t.clock = max s.clock due ∧
      kept t.pool (fun x => x.aged) (fun x => { x with aged := true }) ∧
      t.pool.ageTimer = some (t.clock + agePeriod s.mem * 1000000) ∧
      t.transit = s.transit
        ++ List.replicate (p.order.countP fun c => p.cells[c].any fun x => x.aged) (.counterIncrement .aged) ∧
      t = { s with clock := t.clock, transit := t.transit, pool := t.pool }) ∧
    (∀ (slot : Fin 8) (all : Bool), let w : Word := if all = true then 1 else 0
      ∃ t, exec (.flushReports slot w) s = .next t ∧ kept t.pool (fun x => all || !x.report.urgent) id ∧
        t.pool.ageTimer = p.ageTimer ∧
        t.transit = s.transit.erase (.flushReports slot w) ++ [.deskAnswer slot .done
          { w0 := BitVec.ofNat 16 (p.order.length - t.pool.order.length) }] ∧
        t = { s with transit := t.transit, pool := t.pool }) ∧
    (∃ t, exec .restartFlush s = .next t ∧
      (s.mem.byte 0x19A3 = 0 → t.pool = p) ∧
      (s.mem.byte 0x19A3 ≠ 0 → kept t.pool (fun x => !x.report.urgent) id) ∧
      t = { s with transit := s.transit.erase .restartFlush, pool := t.pool }) ∧
    (∀ due : Nat, p.coalesceTimer = some due → ∃ t, exec .coalesceTimerExpiry s = .next t ∧
      t.clock = max s.clock due ∧
      t = { s with
        clock := t.clock, transit := s.transit ++ [.noticeMarkSet .reports]
        pool := { p with coalesceTimer :=
          if p.order = [] then none else some (t.clock + coalesceTime s.mem * 1000) } })

/-! ### What holds of the whole machine -/

/-- At reset the invariants below hold. -/
def Obligations.InvariantsAtReset : Prop :=
  State.reset.MemoryOk ∧ State.reset.pool.Ok ∧ State.reset.ChannelsOk ∧ State.reset.HostRailsOff ∧ State.reset.sup.LadderOk

/-- Every step keeps the exchange memory, the stored image and a store's snapshot in their canonical form. -/
def Obligations.StepKeepsMemoryOk : Prop := ∀ s t : State, s.MemoryOk → step s = .next t → t.MemoryOk

/-- "The report pool holds at most 64 reports, and no two of them carry the same sequence number" (R156): every step
keeps the pool sound. -/
def Obligations.StepKeepsPoolOk : Prop :=
  ∀ s t : State, s.pool.Ok → step s = .next t → t.pool.Ok ∧ t.pool.order.length ≤ 64

/-- "No two channels that are RUNNING or WAITING have overlapping rail masks" (R62): every step keeps it so. -/
def Obligations.StepKeepsMasksDisjoint : Prop := ∀ s t : State, s.ChannelsOk → step s = .next t → t.ChannelsOk

/-- "While the supervisor is in OFF, WARMING or HELD, every rail in the host rail mask is commanded off" (R72): every
step that leaves the mask itself as it was keeps it so. A written mask is taken by its edit, a reloaded one at once. -/
def Obligations.StepKeepsHostRailsOff : Prop :=
  ∀ s t : State, s.HostRailsOff → step s = .next t → hostMask t.mem = hostMask s.mem → t.HostRailsOff

/-- "The current rung index is always less than the rung count, and the attempts recorded at the current rung never exceed
that rung's attempt limit" (R81): every step keeps it so. -/
def Obligations.StepKeepsLadderOk : Prop := ∀ s t : State, s.sup.LadderOk → step s = .next t → t.sup.LadderOk

/-- "The supervisor enters POWERING only from WARMING and only while the warm-up gate is OPEN" (R71): a step that enters
it takes a gate report of OPEN in WARMING, one that the gate-wait mark does not hold back. -/
def Obligations.PoweringOnlyFromWarming : Prop :=
  ∀ s t : State, step s = .next t → t.sup.state = .powering → s.sup.state ≠ .powering →
    s.sup.state = .warming ∧ ∃ rearm, s.taken = some (.gateReport .opened rearm) ∧
      (s.sup.gateWait = false ∨ rearm = true)

/-- "No counter decreases except through CLEAR COUNTERS naming its group or ALL, or through power-on reset" (R162). -/
def Obligations.CountersNeverDecrease : Prop :=
  ∀ (s t : State) (i : Fin 54), step s = .next t → t.counters.values[i] < s.counters.values[i] →
    (∃ e pg, s.taken = some (.powerOnReset e pg)) ∨ s.taken = some .resetRelease ∨
    ∃ slot group, s.taken = some (.clearCounters slot group) ∧ group.toNat ≤ 6 ∧
      (groupSpan group.toNat).1 ≤ i.val ∧ i.val < (groupSpan group.toNat).1 + (groupSpan group.toNat).2
end

