-- ==== Sys2Proof/Laws/Basic.lean ====
section
/-! SUPPORT. Entries of vectors that are replaced one at a time, and the indices of a vector. -/

namespace Sys2Proof

variable {α : Type} {n : Nat}

@[simp] theorem put_same (v : Vector α n) (i : Fin n) (x : α) : (put v i x)[i] = x := by
  simp [put]

@[simp] theorem put_same_val (v : Vector α n) (i : Fin n) (x : α) : (put v i x)[i.val] = x := by
  simp [put]

theorem put_other (v : Vector α n) {i j : Fin n} (h : i ≠ j) (x : α) : (put v i x)[j] = v[j] := by
  simp [put, Fin.val_ne_of_ne h]

theorem put_get (v : Vector α n) (i j : Fin n) (x : α) : (put v i x)[j] = if i = j then x else v[j] := by
  split
  · next h => subst h; simp
  · next h => exact put_other v h x

@[simp] theorem put_self (v : Vector α n) (i : Fin n) : put v i v[i] = v := by
  simp [put]

@[simp] theorem upd_same (v : Vector α n) (i : Fin n) (f : α → α) : (upd v i f)[i] = f v[i] := by simp [upd]

theorem upd_other (v : Vector α n) {i j : Fin n} (h : i ≠ j) (f : α → α) : (upd v i f)[j] = v[j] := put_other v h _

@[simp] theorem ofFn_get (f : Fin n → α) (i : Fin n) : (Vector.ofFn f)[i] = f i := by simp

@[simp] theorem mem_indices (i : Fin n) : i ∈ indices n := by simp [indices]

theorem indices_nodup : (indices n).Nodup := by
  simpa [indices] using List.nodup_ofFn_ofInjective (f := fun i : Fin n => i) fun _ _ h => h

end Sys2Proof
end

