-- ==== Sys2Proof/Laws/State.lean ====
section
/-! SUPPORT. What each named update of the state leaves in each field. -/

namespace Sys2Proof.Machine

open Sys2Proof

variable (s : State)

/-! ### Requests to other blocks are events sent -/

@[simp] theorem State.count_eq (c : Counter) : s.count c = s.send (.counterIncrement c) := rfl
@[simp] theorem State.mark_eq (m : Mark) : s.mark m = s.send (.noticeMarkSet m) := rfl
@[simp] theorem State.answer_eq (i : Fin 8) (c : AnswerCode) (d : Words) :
    s.answer i c d = s.send (.deskAnswer i c d) := rfl

/-! ### State.send -/

@[simp] theorem State.send_pending (c : Instr) : (s.send c).pending = s.pending := rfl
@[simp] theorem State.send_transit (c : Instr) : (s.send c).transit = s.transit ++ [c] := rfl
@[simp] theorem State.send_clock (c : Instr) : (s.send c).clock = s.clock := rfl
@[simp] theorem State.send_freeCount (c : Instr) : (s.send c).freeCount = s.freeCount := rfl
@[simp] theorem State.send_lastRefusal (c : Instr) : (s.send c).lastRefusal = s.lastRefusal := rfl
@[simp] theorem State.send_partState (c : Instr) : (s.send c).partState = s.partState := rfl
@[simp] theorem State.send_resetHeld (c : Instr) : (s.send c).resetHeld = s.resetHeld := rfl
@[simp] theorem State.send_mem (c : Instr) : (s.send c).mem = s.mem := rfl
@[simp] theorem State.send_nv (c : Instr) : (s.send c).nv = s.nv := rfl
@[simp] theorem State.send_store (c : Instr) : (s.send c).store = s.store := rfl
@[simp] theorem State.send_sensors (c : Instr) : (s.send c).sensors = s.sensors := rfl
@[simp] theorem State.send_zones (c : Instr) : (s.send c).zones = s.zones := rfl
@[simp] theorem State.send_gate (c : Instr) : (s.send c).gate = s.gate := rfl
@[simp] theorem State.send_nextPass (c : Instr) : (s.send c).nextPass = s.nextPass := rfl
@[simp] theorem State.send_budget (c : Instr) : (s.send c).budget = s.budget := rfl
@[simp] theorem State.send_heaters (c : Instr) : (s.send c).heaters = s.heaters := rfl
@[simp] theorem State.send_fans (c : Instr) : (s.send c).fans = s.fans := rfl
@[simp] theorem State.send_sweep (c : Instr) : (s.send c).sweep = s.sweep := rfl
@[simp] theorem State.send_rails (c : Instr) : (s.send c).rails = s.rails := rfl
@[simp] theorem State.send_lines (c : Instr) : (s.send c).lines = s.lines := rfl
@[simp] theorem State.send_channels (c : Instr) : (s.send c).channels = s.channels := rfl
@[simp] theorem State.send_sup (c : Instr) : (s.send c).sup = s.sup := rfl
@[simp] theorem State.send_sched (c : Instr) : (s.send c).sched = s.sched := rfl
@[simp] theorem State.send_keypad (c : Instr) : (s.send c).keypad = s.keypad := rfl
@[simp] theorem State.send_chords (c : Instr) : (s.send c).chords = s.chords := rfl
@[simp] theorem State.send_slots (c : Instr) : (s.send c).slots = s.slots := rfl
@[simp] theorem State.send_pool (c : Instr) : (s.send c).pool = s.pool := rfl
@[simp] theorem State.send_counters (c : Instr) : (s.send c).counters = s.counters := rfl
@[simp] theorem State.send_notice (c : Instr) : (s.send c).notice = s.notice := rfl
@[simp] theorem State.send_link (c : Instr) : (s.send c).link = s.link := rfl
@[simp] theorem State.send_shown (c : Instr) : (s.send c).shown = s.shown := rfl

/-! ### State.sendAll -/

@[simp] theorem State.sendAll_pending (cs : List Instr) : (s.sendAll cs).pending = s.pending := rfl
@[simp] theorem State.sendAll_transit (cs : List Instr) : (s.sendAll cs).transit = s.transit ++ cs := rfl
@[simp] theorem State.sendAll_clock (cs : List Instr) : (s.sendAll cs).clock = s.clock := rfl
@[simp] theorem State.sendAll_freeCount (cs : List Instr) : (s.sendAll cs).freeCount = s.freeCount := rfl
@[simp] theorem State.sendAll_lastRefusal (cs : List Instr) : (s.sendAll cs).lastRefusal = s.lastRefusal := rfl
@[simp] theorem State.sendAll_partState (cs : List Instr) : (s.sendAll cs).partState = s.partState := rfl
@[simp] theorem State.sendAll_resetHeld (cs : List Instr) : (s.sendAll cs).resetHeld = s.resetHeld := rfl
@[simp] theorem State.sendAll_mem (cs : List Instr) : (s.sendAll cs).mem = s.mem := rfl
@[simp] theorem State.sendAll_nv (cs : List Instr) : (s.sendAll cs).nv = s.nv := rfl
@[simp] theorem State.sendAll_store (cs : List Instr) : (s.sendAll cs).store = s.store := rfl
@[simp] theorem State.sendAll_sensors (cs : List Instr) : (s.sendAll cs).sensors = s.sensors := rfl
@[simp] theorem State.sendAll_zones (cs : List Instr) : (s.sendAll cs).zones = s.zones := rfl
@[simp] theorem State.sendAll_gate (cs : List Instr) : (s.sendAll cs).gate = s.gate := rfl
@[simp] theorem State.sendAll_nextPass (cs : List Instr) : (s.sendAll cs).nextPass = s.nextPass := rfl
@[simp] theorem State.sendAll_budget (cs : List Instr) : (s.sendAll cs).budget = s.budget := rfl
@[simp] theorem State.sendAll_heaters (cs : List Instr) : (s.sendAll cs).heaters = s.heaters := rfl
@[simp] theorem State.sendAll_fans (cs : List Instr) : (s.sendAll cs).fans = s.fans := rfl
@[simp] theorem State.sendAll_sweep (cs : List Instr) : (s.sendAll cs).sweep = s.sweep := rfl
@[simp] theorem State.sendAll_rails (cs : List Instr) : (s.sendAll cs).rails = s.rails := rfl
@[simp] theorem State.sendAll_lines (cs : List Instr) : (s.sendAll cs).lines = s.lines := rfl
@[simp] theorem State.sendAll_channels (cs : List Instr) : (s.sendAll cs).channels = s.channels := rfl
@[simp] theorem State.sendAll_sup (cs : List Instr) : (s.sendAll cs).sup = s.sup := rfl
@[simp] theorem State.sendAll_sched (cs : List Instr) : (s.sendAll cs).sched = s.sched := rfl
@[simp] theorem State.sendAll_keypad (cs : List Instr) : (s.sendAll cs).keypad = s.keypad := rfl
@[simp] theorem State.sendAll_chords (cs : List Instr) : (s.sendAll cs).chords = s.chords := rfl
@[simp] theorem State.sendAll_slots (cs : List Instr) : (s.sendAll cs).slots = s.slots := rfl
@[simp] theorem State.sendAll_pool (cs : List Instr) : (s.sendAll cs).pool = s.pool := rfl
@[simp] theorem State.sendAll_counters (cs : List Instr) : (s.sendAll cs).counters = s.counters := rfl
@[simp] theorem State.sendAll_notice (cs : List Instr) : (s.sendAll cs).notice = s.notice := rfl
@[simp] theorem State.sendAll_link (cs : List Instr) : (s.sendAll cs).link = s.link := rfl
@[simp] theorem State.sendAll_shown (cs : List Instr) : (s.sendAll cs).shown = s.shown := rfl

/-! ### State.taking -/

@[simp] theorem State.taking_pending (c : Instr) : (s.taking c).pending = s.pending := rfl
@[simp] theorem State.taking_transit (c : Instr) : (s.taking c).transit = s.transit.erase c := rfl
@[simp] theorem State.taking_clock (c : Instr) : (s.taking c).clock = s.clock := rfl
@[simp] theorem State.taking_freeCount (c : Instr) : (s.taking c).freeCount = s.freeCount := rfl
@[simp] theorem State.taking_lastRefusal (c : Instr) : (s.taking c).lastRefusal = s.lastRefusal := rfl
@[simp] theorem State.taking_partState (c : Instr) : (s.taking c).partState = s.partState := rfl
@[simp] theorem State.taking_resetHeld (c : Instr) : (s.taking c).resetHeld = s.resetHeld := rfl
@[simp] theorem State.taking_mem (c : Instr) : (s.taking c).mem = s.mem := rfl
@[simp] theorem State.taking_nv (c : Instr) : (s.taking c).nv = s.nv := rfl
@[simp] theorem State.taking_store (c : Instr) : (s.taking c).store = s.store := rfl
@[simp] theorem State.taking_sensors (c : Instr) : (s.taking c).sensors = s.sensors := rfl
@[simp] theorem State.taking_zones (c : Instr) : (s.taking c).zones = s.zones := rfl
@[simp] theorem State.taking_gate (c : Instr) : (s.taking c).gate = s.gate := rfl
@[simp] theorem State.taking_nextPass (c : Instr) : (s.taking c).nextPass = s.nextPass := rfl
@[simp] theorem State.taking_budget (c : Instr) : (s.taking c).budget = s.budget := rfl
@[simp] theorem State.taking_heaters (c : Instr) : (s.taking c).heaters = s.heaters := rfl
@[simp] theorem State.taking_fans (c : Instr) : (s.taking c).fans = s.fans := rfl
@[simp] theorem State.taking_sweep (c : Instr) : (s.taking c).sweep = s.sweep := rfl
@[simp] theorem State.taking_rails (c : Instr) : (s.taking c).rails = s.rails := rfl
@[simp] theorem State.taking_lines (c : Instr) : (s.taking c).lines = s.lines := rfl
@[simp] theorem State.taking_channels (c : Instr) : (s.taking c).channels = s.channels := rfl
@[simp] theorem State.taking_sup (c : Instr) : (s.taking c).sup = s.sup := rfl
@[simp] theorem State.taking_sched (c : Instr) : (s.taking c).sched = s.sched := rfl
@[simp] theorem State.taking_keypad (c : Instr) : (s.taking c).keypad = s.keypad := rfl
@[simp] theorem State.taking_chords (c : Instr) : (s.taking c).chords = s.chords := rfl
@[simp] theorem State.taking_slots (c : Instr) : (s.taking c).slots = s.slots := rfl
@[simp] theorem State.taking_pool (c : Instr) : (s.taking c).pool = s.pool := rfl
@[simp] theorem State.taking_counters (c : Instr) : (s.taking c).counters = s.counters := rfl
@[simp] theorem State.taking_notice (c : Instr) : (s.taking c).notice = s.notice := rfl
@[simp] theorem State.taking_link (c : Instr) : (s.taking c).link = s.link := rfl
@[simp] theorem State.taking_shown (c : Instr) : (s.taking c).shown = s.shown := rfl

/-! ### State.elapse -/

@[simp] theorem State.elapse_pending (us : Nat) : (s.elapse us).pending = s.pending := rfl
@[simp] theorem State.elapse_transit (us : Nat) : (s.elapse us).transit = s.transit := rfl
@[simp] theorem State.elapse_clock (us : Nat) : (s.elapse us).clock = s.clock + us := rfl
@[simp] theorem State.elapse_freeCount (us : Nat) : (s.elapse us).freeCount = s.freeCount := rfl
@[simp] theorem State.elapse_lastRefusal (us : Nat) : (s.elapse us).lastRefusal = s.lastRefusal := rfl
@[simp] theorem State.elapse_partState (us : Nat) : (s.elapse us).partState = s.partState := rfl
@[simp] theorem State.elapse_resetHeld (us : Nat) : (s.elapse us).resetHeld = s.resetHeld := rfl
@[simp] theorem State.elapse_mem (us : Nat) : (s.elapse us).mem = s.mem := rfl
@[simp] theorem State.elapse_nv (us : Nat) : (s.elapse us).nv = s.nv := rfl
@[simp] theorem State.elapse_store (us : Nat) : (s.elapse us).store = s.store := rfl
@[simp] theorem State.elapse_sensors (us : Nat) : (s.elapse us).sensors = s.sensors := rfl
@[simp] theorem State.elapse_zones (us : Nat) : (s.elapse us).zones = s.zones := rfl
@[simp] theorem State.elapse_gate (us : Nat) : (s.elapse us).gate = s.gate := rfl
@[simp] theorem State.elapse_nextPass (us : Nat) : (s.elapse us).nextPass = s.nextPass := rfl
@[simp] theorem State.elapse_budget (us : Nat) : (s.elapse us).budget = s.budget := rfl
@[simp] theorem State.elapse_heaters (us : Nat) : (s.elapse us).heaters = s.heaters := rfl
@[simp] theorem State.elapse_fans (us : Nat) : (s.elapse us).fans = s.fans := rfl
@[simp] theorem State.elapse_sweep (us : Nat) : (s.elapse us).sweep = s.sweep := rfl
@[simp] theorem State.elapse_rails (us : Nat) : (s.elapse us).rails = s.rails := rfl
@[simp] theorem State.elapse_lines (us : Nat) : (s.elapse us).lines = s.lines := rfl
@[simp] theorem State.elapse_channels (us : Nat) : (s.elapse us).channels = s.channels := rfl
@[simp] theorem State.elapse_sup (us : Nat) : (s.elapse us).sup = s.sup := rfl
@[simp] theorem State.elapse_sched (us : Nat) : (s.elapse us).sched = s.sched := rfl
@[simp] theorem State.elapse_keypad (us : Nat) : (s.elapse us).keypad = s.keypad := rfl
@[simp] theorem State.elapse_chords (us : Nat) : (s.elapse us).chords = s.chords := rfl
@[simp] theorem State.elapse_slots (us : Nat) : (s.elapse us).slots = s.slots := rfl
@[simp] theorem State.elapse_pool (us : Nat) : (s.elapse us).pool = s.pool := rfl
@[simp] theorem State.elapse_counters (us : Nat) : (s.elapse us).counters = s.counters := rfl
@[simp] theorem State.elapse_notice (us : Nat) : (s.elapse us).notice = s.notice := rfl
@[simp] theorem State.elapse_link (us : Nat) : (s.elapse us).link = s.link := rfl
@[simp] theorem State.elapse_shown (us : Nat) : (s.elapse us).shown = s.shown := rfl

/-! ### State.reachTime -/

@[simp] theorem State.reachTime_pending (due : Nat) : (s.reachTime due).pending = s.pending := rfl
@[simp] theorem State.reachTime_transit (due : Nat) : (s.reachTime due).transit = s.transit := rfl
@[simp] theorem State.reachTime_clock (due : Nat) : (s.reachTime due).clock = max s.clock due := rfl
@[simp] theorem State.reachTime_freeCount (due : Nat) : (s.reachTime due).freeCount = s.freeCount := rfl
@[simp] theorem State.reachTime_lastRefusal (due : Nat) : (s.reachTime due).lastRefusal = s.lastRefusal := rfl
@[simp] theorem State.reachTime_partState (due : Nat) : (s.reachTime due).partState = s.partState := rfl
@[simp] theorem State.reachTime_resetHeld (due : Nat) : (s.reachTime due).resetHeld = s.resetHeld := rfl
@[simp] theorem State.reachTime_mem (due : Nat) : (s.reachTime due).mem = s.mem := rfl
@[simp] theorem State.reachTime_nv (due : Nat) : (s.reachTime due).nv = s.nv := rfl
@[simp] theorem State.reachTime_store (due : Nat) : (s.reachTime due).store = s.store := rfl
@[simp] theorem State.reachTime_sensors (due : Nat) : (s.reachTime due).sensors = s.sensors := rfl
@[simp] theorem State.reachTime_zones (due : Nat) : (s.reachTime due).zones = s.zones := rfl
@[simp] theorem State.reachTime_gate (due : Nat) : (s.reachTime due).gate = s.gate := rfl
@[simp] theorem State.reachTime_nextPass (due : Nat) : (s.reachTime due).nextPass = s.nextPass := rfl
@[simp] theorem State.reachTime_budget (due : Nat) : (s.reachTime due).budget = s.budget := rfl
@[simp] theorem State.reachTime_heaters (due : Nat) : (s.reachTime due).heaters = s.heaters := rfl
@[simp] theorem State.reachTime_fans (due : Nat) : (s.reachTime due).fans = s.fans := rfl
@[simp] theorem State.reachTime_sweep (due : Nat) : (s.reachTime due).sweep = s.sweep := rfl
@[simp] theorem State.reachTime_rails (due : Nat) : (s.reachTime due).rails = s.rails := rfl
@[simp] theorem State.reachTime_lines (due : Nat) : (s.reachTime due).lines = s.lines := rfl
@[simp] theorem State.reachTime_channels (due : Nat) : (s.reachTime due).channels = s.channels := rfl
@[simp] theorem State.reachTime_sup (due : Nat) : (s.reachTime due).sup = s.sup := rfl
@[simp] theorem State.reachTime_sched (due : Nat) : (s.reachTime due).sched = s.sched := rfl
@[simp] theorem State.reachTime_keypad (due : Nat) : (s.reachTime due).keypad = s.keypad := rfl
@[simp] theorem State.reachTime_chords (due : Nat) : (s.reachTime due).chords = s.chords := rfl
@[simp] theorem State.reachTime_slots (due : Nat) : (s.reachTime due).slots = s.slots := rfl
@[simp] theorem State.reachTime_pool (due : Nat) : (s.reachTime due).pool = s.pool := rfl
@[simp] theorem State.reachTime_counters (due : Nat) : (s.reachTime due).counters = s.counters := rfl
@[simp] theorem State.reachTime_notice (due : Nat) : (s.reachTime due).notice = s.notice := rfl
@[simp] theorem State.reachTime_link (due : Nat) : (s.reachTime due).link = s.link := rfl
@[simp] theorem State.reachTime_shown (due : Nat) : (s.reachTime due).shown = s.shown := rfl

/-! ### State.drawFree -/

@[simp] theorem State.drawFree_pending : (s.drawFree).pending = s.pending := rfl
@[simp] theorem State.drawFree_transit : (s.drawFree).transit = s.transit := rfl
@[simp] theorem State.drawFree_clock : (s.drawFree).clock = s.clock := rfl
@[simp] theorem State.drawFree_freeCount : (s.drawFree).freeCount = s.freeCount + 1 := rfl
@[simp] theorem State.drawFree_lastRefusal : (s.drawFree).lastRefusal = s.lastRefusal := rfl
@[simp] theorem State.drawFree_partState : (s.drawFree).partState = s.partState := rfl
@[simp] theorem State.drawFree_resetHeld : (s.drawFree).resetHeld = s.resetHeld := rfl
@[simp] theorem State.drawFree_mem : (s.drawFree).mem = s.mem := rfl
@[simp] theorem State.drawFree_nv : (s.drawFree).nv = s.nv := rfl
@[simp] theorem State.drawFree_store : (s.drawFree).store = s.store := rfl
@[simp] theorem State.drawFree_sensors : (s.drawFree).sensors = s.sensors := rfl
@[simp] theorem State.drawFree_zones : (s.drawFree).zones = s.zones := rfl
@[simp] theorem State.drawFree_gate : (s.drawFree).gate = s.gate := rfl
@[simp] theorem State.drawFree_nextPass : (s.drawFree).nextPass = s.nextPass := rfl
@[simp] theorem State.drawFree_budget : (s.drawFree).budget = s.budget := rfl
@[simp] theorem State.drawFree_heaters : (s.drawFree).heaters = s.heaters := rfl
@[simp] theorem State.drawFree_fans : (s.drawFree).fans = s.fans := rfl
@[simp] theorem State.drawFree_sweep : (s.drawFree).sweep = s.sweep := rfl
@[simp] theorem State.drawFree_rails : (s.drawFree).rails = s.rails := rfl
@[simp] theorem State.drawFree_lines : (s.drawFree).lines = s.lines := rfl
@[simp] theorem State.drawFree_channels : (s.drawFree).channels = s.channels := rfl
@[simp] theorem State.drawFree_sup : (s.drawFree).sup = s.sup := rfl
@[simp] theorem State.drawFree_sched : (s.drawFree).sched = s.sched := rfl
@[simp] theorem State.drawFree_keypad : (s.drawFree).keypad = s.keypad := rfl
@[simp] theorem State.drawFree_chords : (s.drawFree).chords = s.chords := rfl
@[simp] theorem State.drawFree_slots : (s.drawFree).slots = s.slots := rfl
@[simp] theorem State.drawFree_pool : (s.drawFree).pool = s.pool := rfl
@[simp] theorem State.drawFree_counters : (s.drawFree).counters = s.counters := rfl
@[simp] theorem State.drawFree_notice : (s.drawFree).notice = s.notice := rfl
@[simp] theorem State.drawFree_link : (s.drawFree).link = s.link := rfl
@[simp] theorem State.drawFree_shown : (s.drawFree).shown = s.shown := rfl

/-! ### State.setPool -/

@[simp] theorem State.setPool_pending (p : Pool) : (s.setPool p).pending = s.pending := rfl
@[simp] theorem State.setPool_transit (p : Pool) : (s.setPool p).transit = s.transit := rfl
@[simp] theorem State.setPool_clock (p : Pool) : (s.setPool p).clock = s.clock := rfl
@[simp] theorem State.setPool_freeCount (p : Pool) : (s.setPool p).freeCount = s.freeCount := rfl
@[simp] theorem State.setPool_lastRefusal (p : Pool) : (s.setPool p).lastRefusal = s.lastRefusal := rfl
@[simp] theorem State.setPool_partState (p : Pool) : (s.setPool p).partState = s.partState := rfl
@[simp] theorem State.setPool_resetHeld (p : Pool) : (s.setPool p).resetHeld = s.resetHeld := rfl
@[simp] theorem State.setPool_mem (p : Pool) : (s.setPool p).mem = s.mem := rfl
@[simp] theorem State.setPool_nv (p : Pool) : (s.setPool p).nv = s.nv := rfl
@[simp] theorem State.setPool_store (p : Pool) : (s.setPool p).store = s.store := rfl
@[simp] theorem State.setPool_sensors (p : Pool) : (s.setPool p).sensors = s.sensors := rfl
@[simp] theorem State.setPool_zones (p : Pool) : (s.setPool p).zones = s.zones := rfl
@[simp] theorem State.setPool_gate (p : Pool) : (s.setPool p).gate = s.gate := rfl
@[simp] theorem State.setPool_nextPass (p : Pool) : (s.setPool p).nextPass = s.nextPass := rfl
@[simp] theorem State.setPool_budget (p : Pool) : (s.setPool p).budget = s.budget := rfl
@[simp] theorem State.setPool_heaters (p : Pool) : (s.setPool p).heaters = s.heaters := rfl
@[simp] theorem State.setPool_fans (p : Pool) : (s.setPool p).fans = s.fans := rfl
@[simp] theorem State.setPool_sweep (p : Pool) : (s.setPool p).sweep = s.sweep := rfl
@[simp] theorem State.setPool_rails (p : Pool) : (s.setPool p).rails = s.rails := rfl
@[simp] theorem State.setPool_lines (p : Pool) : (s.setPool p).lines = s.lines := rfl
@[simp] theorem State.setPool_channels (p : Pool) : (s.setPool p).channels = s.channels := rfl
@[simp] theorem State.setPool_sup (p : Pool) : (s.setPool p).sup = s.sup := rfl
@[simp] theorem State.setPool_sched (p : Pool) : (s.setPool p).sched = s.sched := rfl
@[simp] theorem State.setPool_keypad (p : Pool) : (s.setPool p).keypad = s.keypad := rfl
@[simp] theorem State.setPool_chords (p : Pool) : (s.setPool p).chords = s.chords := rfl
@[simp] theorem State.setPool_slots (p : Pool) : (s.setPool p).slots = s.slots := rfl
@[simp] theorem State.setPool_pool (p : Pool) : (s.setPool p).pool = p := rfl
@[simp] theorem State.setPool_counters (p : Pool) : (s.setPool p).counters = s.counters := rfl
@[simp] theorem State.setPool_notice (p : Pool) : (s.setPool p).notice = s.notice := rfl
@[simp] theorem State.setPool_link (p : Pool) : (s.setPool p).link = s.link := rfl
@[simp] theorem State.setPool_shown (p : Pool) : (s.setPool p).shown = s.shown := rfl

/-! ### State.setGate -/

@[simp] theorem State.setGate_pending (g : Gate) : (s.setGate g).pending = s.pending := rfl
@[simp] theorem State.setGate_transit (g : Gate) : (s.setGate g).transit = s.transit := rfl
@[simp] theorem State.setGate_clock (g : Gate) : (s.setGate g).clock = s.clock := rfl
@[simp] theorem State.setGate_freeCount (g : Gate) : (s.setGate g).freeCount = s.freeCount := rfl
@[simp] theorem State.setGate_lastRefusal (g : Gate) : (s.setGate g).lastRefusal = s.lastRefusal := rfl
@[simp] theorem State.setGate_partState (g : Gate) : (s.setGate g).partState = s.partState := rfl
@[simp] theorem State.setGate_resetHeld (g : Gate) : (s.setGate g).resetHeld = s.resetHeld := rfl
@[simp] theorem State.setGate_mem (g : Gate) : (s.setGate g).mem = s.mem := rfl
@[simp] theorem State.setGate_nv (g : Gate) : (s.setGate g).nv = s.nv := rfl
@[simp] theorem State.setGate_store (g : Gate) : (s.setGate g).store = s.store := rfl
@[simp] theorem State.setGate_sensors (g : Gate) : (s.setGate g).sensors = s.sensors := rfl
@[simp] theorem State.setGate_zones (g : Gate) : (s.setGate g).zones = s.zones := rfl
@[simp] theorem State.setGate_gate (g : Gate) : (s.setGate g).gate = g := rfl
@[simp] theorem State.setGate_nextPass (g : Gate) : (s.setGate g).nextPass = s.nextPass := rfl
@[simp] theorem State.setGate_budget (g : Gate) : (s.setGate g).budget = s.budget := rfl
@[simp] theorem State.setGate_heaters (g : Gate) : (s.setGate g).heaters = s.heaters := rfl
@[simp] theorem State.setGate_fans (g : Gate) : (s.setGate g).fans = s.fans := rfl
@[simp] theorem State.setGate_sweep (g : Gate) : (s.setGate g).sweep = s.sweep := rfl
@[simp] theorem State.setGate_rails (g : Gate) : (s.setGate g).rails = s.rails := rfl
@[simp] theorem State.setGate_lines (g : Gate) : (s.setGate g).lines = s.lines := rfl
@[simp] theorem State.setGate_channels (g : Gate) : (s.setGate g).channels = s.channels := rfl
@[simp] theorem State.setGate_sup (g : Gate) : (s.setGate g).sup = s.sup := rfl
@[simp] theorem State.setGate_sched (g : Gate) : (s.setGate g).sched = s.sched := rfl
@[simp] theorem State.setGate_keypad (g : Gate) : (s.setGate g).keypad = s.keypad := rfl
@[simp] theorem State.setGate_chords (g : Gate) : (s.setGate g).chords = s.chords := rfl
@[simp] theorem State.setGate_slots (g : Gate) : (s.setGate g).slots = s.slots := rfl
@[simp] theorem State.setGate_pool (g : Gate) : (s.setGate g).pool = s.pool := rfl
@[simp] theorem State.setGate_counters (g : Gate) : (s.setGate g).counters = s.counters := rfl
@[simp] theorem State.setGate_notice (g : Gate) : (s.setGate g).notice = s.notice := rfl
@[simp] theorem State.setGate_link (g : Gate) : (s.setGate g).link = s.link := rfl
@[simp] theorem State.setGate_shown (g : Gate) : (s.setGate g).shown = s.shown := rfl

/-! ### State.setSweep -/

@[simp] theorem State.setSweep_pending (w : Option Sweep) : (s.setSweep w).pending = s.pending := rfl
@[simp] theorem State.setSweep_transit (w : Option Sweep) : (s.setSweep w).transit = s.transit := rfl
@[simp] theorem State.setSweep_clock (w : Option Sweep) : (s.setSweep w).clock = s.clock := rfl
@[simp] theorem State.setSweep_freeCount (w : Option Sweep) : (s.setSweep w).freeCount = s.freeCount := rfl
@[simp] theorem State.setSweep_lastRefusal (w : Option Sweep) : (s.setSweep w).lastRefusal = s.lastRefusal := rfl
@[simp] theorem State.setSweep_partState (w : Option Sweep) : (s.setSweep w).partState = s.partState := rfl
@[simp] theorem State.setSweep_resetHeld (w : Option Sweep) : (s.setSweep w).resetHeld = s.resetHeld := rfl
@[simp] theorem State.setSweep_mem (w : Option Sweep) : (s.setSweep w).mem = s.mem := rfl
@[simp] theorem State.setSweep_nv (w : Option Sweep) : (s.setSweep w).nv = s.nv := rfl
@[simp] theorem State.setSweep_store (w : Option Sweep) : (s.setSweep w).store = s.store := rfl
@[simp] theorem State.setSweep_sensors (w : Option Sweep) : (s.setSweep w).sensors = s.sensors := rfl
@[simp] theorem State.setSweep_zones (w : Option Sweep) : (s.setSweep w).zones = s.zones := rfl
@[simp] theorem State.setSweep_gate (w : Option Sweep) : (s.setSweep w).gate = s.gate := rfl
@[simp] theorem State.setSweep_nextPass (w : Option Sweep) : (s.setSweep w).nextPass = s.nextPass := rfl
@[simp] theorem State.setSweep_budget (w : Option Sweep) : (s.setSweep w).budget = s.budget := rfl
@[simp] theorem State.setSweep_heaters (w : Option Sweep) : (s.setSweep w).heaters = s.heaters := rfl
@[simp] theorem State.setSweep_fans (w : Option Sweep) : (s.setSweep w).fans = s.fans := rfl
@[simp] theorem State.setSweep_sweep (w : Option Sweep) : (s.setSweep w).sweep = w := rfl
@[simp] theorem State.setSweep_rails (w : Option Sweep) : (s.setSweep w).rails = s.rails := rfl
@[simp] theorem State.setSweep_lines (w : Option Sweep) : (s.setSweep w).lines = s.lines := rfl
@[simp] theorem State.setSweep_channels (w : Option Sweep) : (s.setSweep w).channels = s.channels := rfl
@[simp] theorem State.setSweep_sup (w : Option Sweep) : (s.setSweep w).sup = s.sup := rfl
@[simp] theorem State.setSweep_sched (w : Option Sweep) : (s.setSweep w).sched = s.sched := rfl
@[simp] theorem State.setSweep_keypad (w : Option Sweep) : (s.setSweep w).keypad = s.keypad := rfl
@[simp] theorem State.setSweep_chords (w : Option Sweep) : (s.setSweep w).chords = s.chords := rfl
@[simp] theorem State.setSweep_slots (w : Option Sweep) : (s.setSweep w).slots = s.slots := rfl
@[simp] theorem State.setSweep_pool (w : Option Sweep) : (s.setSweep w).pool = s.pool := rfl
@[simp] theorem State.setSweep_counters (w : Option Sweep) : (s.setSweep w).counters = s.counters := rfl
@[simp] theorem State.setSweep_notice (w : Option Sweep) : (s.setSweep w).notice = s.notice := rfl
@[simp] theorem State.setSweep_link (w : Option Sweep) : (s.setSweep w).link = s.link := rfl
@[simp] theorem State.setSweep_shown (w : Option Sweep) : (s.setSweep w).shown = s.shown := rfl

/-! ### State.setFan -/

@[simp] theorem State.setFan_pending (f : Fin 2) (x : Fan) : (s.setFan f x).pending = s.pending := rfl
@[simp] theorem State.setFan_transit (f : Fin 2) (x : Fan) : (s.setFan f x).transit = s.transit := rfl
@[simp] theorem State.setFan_clock (f : Fin 2) (x : Fan) : (s.setFan f x).clock = s.clock := rfl
@[simp] theorem State.setFan_freeCount (f : Fin 2) (x : Fan) : (s.setFan f x).freeCount = s.freeCount := rfl
@[simp] theorem State.setFan_lastRefusal (f : Fin 2) (x : Fan) : (s.setFan f x).lastRefusal = s.lastRefusal := rfl
@[simp] theorem State.setFan_partState (f : Fin 2) (x : Fan) : (s.setFan f x).partState = s.partState := rfl
@[simp] theorem State.setFan_resetHeld (f : Fin 2) (x : Fan) : (s.setFan f x).resetHeld = s.resetHeld := rfl
@[simp] theorem State.setFan_mem (f : Fin 2) (x : Fan) : (s.setFan f x).mem = s.mem := rfl
@[simp] theorem State.setFan_nv (f : Fin 2) (x : Fan) : (s.setFan f x).nv = s.nv := rfl
@[simp] theorem State.setFan_store (f : Fin 2) (x : Fan) : (s.setFan f x).store = s.store := rfl
@[simp] theorem State.setFan_sensors (f : Fin 2) (x : Fan) : (s.setFan f x).sensors = s.sensors := rfl
@[simp] theorem State.setFan_zones (f : Fin 2) (x : Fan) : (s.setFan f x).zones = s.zones := rfl
@[simp] theorem State.setFan_gate (f : Fin 2) (x : Fan) : (s.setFan f x).gate = s.gate := rfl
@[simp] theorem State.setFan_nextPass (f : Fin 2) (x : Fan) : (s.setFan f x).nextPass = s.nextPass := rfl
@[simp] theorem State.setFan_budget (f : Fin 2) (x : Fan) : (s.setFan f x).budget = s.budget := rfl
@[simp] theorem State.setFan_heaters (f : Fin 2) (x : Fan) : (s.setFan f x).heaters = s.heaters := rfl
@[simp] theorem State.setFan_fans (f : Fin 2) (x : Fan) : (s.setFan f x).fans = put s.fans f x := rfl
@[simp] theorem State.setFan_sweep (f : Fin 2) (x : Fan) : (s.setFan f x).sweep = s.sweep := rfl
@[simp] theorem State.setFan_rails (f : Fin 2) (x : Fan) : (s.setFan f x).rails = s.rails := rfl
@[simp] theorem State.setFan_lines (f : Fin 2) (x : Fan) : (s.setFan f x).lines = s.lines := rfl
@[simp] theorem State.setFan_channels (f : Fin 2) (x : Fan) : (s.setFan f x).channels = s.channels := rfl
@[simp] theorem State.setFan_sup (f : Fin 2) (x : Fan) : (s.setFan f x).sup = s.sup := rfl
@[simp] theorem State.setFan_sched (f : Fin 2) (x : Fan) : (s.setFan f x).sched = s.sched := rfl
@[simp] theorem State.setFan_keypad (f : Fin 2) (x : Fan) : (s.setFan f x).keypad = s.keypad := rfl
@[simp] theorem State.setFan_chords (f : Fin 2) (x : Fan) : (s.setFan f x).chords = s.chords := rfl
@[simp] theorem State.setFan_slots (f : Fin 2) (x : Fan) : (s.setFan f x).slots = s.slots := rfl
@[simp] theorem State.setFan_pool (f : Fin 2) (x : Fan) : (s.setFan f x).pool = s.pool := rfl
@[simp] theorem State.setFan_counters (f : Fin 2) (x : Fan) : (s.setFan f x).counters = s.counters := rfl
@[simp] theorem State.setFan_notice (f : Fin 2) (x : Fan) : (s.setFan f x).notice = s.notice := rfl
@[simp] theorem State.setFan_link (f : Fin 2) (x : Fan) : (s.setFan f x).link = s.link := rfl
@[simp] theorem State.setFan_shown (f : Fin 2) (x : Fan) : (s.setFan f x).shown = s.shown := rfl

/-! ### State.setChan -/

@[simp] theorem State.setChan_pending (c : Fin 4) (x : Channel) : (s.setChan c x).pending = s.pending := rfl
@[simp] theorem State.setChan_transit (c : Fin 4) (x : Channel) : (s.setChan c x).transit = s.transit := rfl
@[simp] theorem State.setChan_clock (c : Fin 4) (x : Channel) : (s.setChan c x).clock = s.clock := rfl
@[simp] theorem State.setChan_freeCount (c : Fin 4) (x : Channel) : (s.setChan c x).freeCount = s.freeCount := rfl
@[simp] theorem State.setChan_lastRefusal (c : Fin 4) (x : Channel) : (s.setChan c x).lastRefusal = s.lastRefusal := rfl
@[simp] theorem State.setChan_partState (c : Fin 4) (x : Channel) : (s.setChan c x).partState = s.partState := rfl
@[simp] theorem State.setChan_resetHeld (c : Fin 4) (x : Channel) : (s.setChan c x).resetHeld = s.resetHeld := rfl
@[simp] theorem State.setChan_mem (c : Fin 4) (x : Channel) : (s.setChan c x).mem = s.mem := rfl
@[simp] theorem State.setChan_nv (c : Fin 4) (x : Channel) : (s.setChan c x).nv = s.nv := rfl
@[simp] theorem State.setChan_store (c : Fin 4) (x : Channel) : (s.setChan c x).store = s.store := rfl
@[simp] theorem State.setChan_sensors (c : Fin 4) (x : Channel) : (s.setChan c x).sensors = s.sensors := rfl
@[simp] theorem State.setChan_zones (c : Fin 4) (x : Channel) : (s.setChan c x).zones = s.zones := rfl
@[simp] theorem State.setChan_gate (c : Fin 4) (x : Channel) : (s.setChan c x).gate = s.gate := rfl
@[simp] theorem State.setChan_nextPass (c : Fin 4) (x : Channel) : (s.setChan c x).nextPass = s.nextPass := rfl
@[simp] theorem State.setChan_budget (c : Fin 4) (x : Channel) : (s.setChan c x).budget = s.budget := rfl
@[simp] theorem State.setChan_heaters (c : Fin 4) (x : Channel) : (s.setChan c x).heaters = s.heaters := rfl
@[simp] theorem State.setChan_fans (c : Fin 4) (x : Channel) : (s.setChan c x).fans = s.fans := rfl
@[simp] theorem State.setChan_sweep (c : Fin 4) (x : Channel) : (s.setChan c x).sweep = s.sweep := rfl
@[simp] theorem State.setChan_rails (c : Fin 4) (x : Channel) : (s.setChan c x).rails = s.rails := rfl
@[simp] theorem State.setChan_lines (c : Fin 4) (x : Channel) : (s.setChan c x).lines = s.lines := rfl
@[simp] theorem State.setChan_channels (c : Fin 4) (x : Channel) : (s.setChan c x).channels = put s.channels c x := rfl
@[simp] theorem State.setChan_sup (c : Fin 4) (x : Channel) : (s.setChan c x).sup = s.sup := rfl
@[simp] theorem State.setChan_sched (c : Fin 4) (x : Channel) : (s.setChan c x).sched = s.sched := rfl
@[simp] theorem State.setChan_keypad (c : Fin 4) (x : Channel) : (s.setChan c x).keypad = s.keypad := rfl
@[simp] theorem State.setChan_chords (c : Fin 4) (x : Channel) : (s.setChan c x).chords = s.chords := rfl
@[simp] theorem State.setChan_slots (c : Fin 4) (x : Channel) : (s.setChan c x).slots = s.slots := rfl
@[simp] theorem State.setChan_pool (c : Fin 4) (x : Channel) : (s.setChan c x).pool = s.pool := rfl
@[simp] theorem State.setChan_counters (c : Fin 4) (x : Channel) : (s.setChan c x).counters = s.counters := rfl
@[simp] theorem State.setChan_notice (c : Fin 4) (x : Channel) : (s.setChan c x).notice = s.notice := rfl
@[simp] theorem State.setChan_link (c : Fin 4) (x : Channel) : (s.setChan c x).link = s.link := rfl
@[simp] theorem State.setChan_shown (c : Fin 4) (x : Channel) : (s.setChan c x).shown = s.shown := rfl

/-! ### State.setSup -/

@[simp] theorem State.setSup_pending (u : Sup) : (s.setSup u).pending = s.pending := rfl
@[simp] theorem State.setSup_transit (u : Sup) : (s.setSup u).transit = s.transit := rfl
@[simp] theorem State.setSup_clock (u : Sup) : (s.setSup u).clock = s.clock := rfl
@[simp] theorem State.setSup_freeCount (u : Sup) : (s.setSup u).freeCount = s.freeCount := rfl
@[simp] theorem State.setSup_lastRefusal (u : Sup) : (s.setSup u).lastRefusal = s.lastRefusal := rfl
@[simp] theorem State.setSup_partState (u : Sup) : (s.setSup u).partState = s.partState := rfl
@[simp] theorem State.setSup_resetHeld (u : Sup) : (s.setSup u).resetHeld = s.resetHeld := rfl
@[simp] theorem State.setSup_mem (u : Sup) : (s.setSup u).mem = s.mem := rfl
@[simp] theorem State.setSup_nv (u : Sup) : (s.setSup u).nv = s.nv := rfl
@[simp] theorem State.setSup_store (u : Sup) : (s.setSup u).store = s.store := rfl
@[simp] theorem State.setSup_sensors (u : Sup) : (s.setSup u).sensors = s.sensors := rfl
@[simp] theorem State.setSup_zones (u : Sup) : (s.setSup u).zones = s.zones := rfl
@[simp] theorem State.setSup_gate (u : Sup) : (s.setSup u).gate = s.gate := rfl
@[simp] theorem State.setSup_nextPass (u : Sup) : (s.setSup u).nextPass = s.nextPass := rfl
@[simp] theorem State.setSup_budget (u : Sup) : (s.setSup u).budget = s.budget := rfl
@[simp] theorem State.setSup_heaters (u : Sup) : (s.setSup u).heaters = s.heaters := rfl
@[simp] theorem State.setSup_fans (u : Sup) : (s.setSup u).fans = s.fans := rfl
@[simp] theorem State.setSup_sweep (u : Sup) : (s.setSup u).sweep = s.sweep := rfl
@[simp] theorem State.setSup_rails (u : Sup) : (s.setSup u).rails = s.rails := rfl
@[simp] theorem State.setSup_lines (u : Sup) : (s.setSup u).lines = s.lines := rfl
@[simp] theorem State.setSup_channels (u : Sup) : (s.setSup u).channels = s.channels := rfl
@[simp] theorem State.setSup_sup (u : Sup) : (s.setSup u).sup = u := rfl
@[simp] theorem State.setSup_sched (u : Sup) : (s.setSup u).sched = s.sched := rfl
@[simp] theorem State.setSup_keypad (u : Sup) : (s.setSup u).keypad = s.keypad := rfl
@[simp] theorem State.setSup_chords (u : Sup) : (s.setSup u).chords = s.chords := rfl
@[simp] theorem State.setSup_slots (u : Sup) : (s.setSup u).slots = s.slots := rfl
@[simp] theorem State.setSup_pool (u : Sup) : (s.setSup u).pool = s.pool := rfl
@[simp] theorem State.setSup_counters (u : Sup) : (s.setSup u).counters = s.counters := rfl
@[simp] theorem State.setSup_notice (u : Sup) : (s.setSup u).notice = s.notice := rfl
@[simp] theorem State.setSup_link (u : Sup) : (s.setSup u).link = s.link := rfl
@[simp] theorem State.setSup_shown (u : Sup) : (s.setSup u).shown = s.shown := rfl

/-! ### State.setChords -/

@[simp] theorem State.setChords_pending (c : ChordUnit) : (s.setChords c).pending = s.pending := rfl
@[simp] theorem State.setChords_transit (c : ChordUnit) : (s.setChords c).transit = s.transit := rfl
@[simp] theorem State.setChords_clock (c : ChordUnit) : (s.setChords c).clock = s.clock := rfl
@[simp] theorem State.setChords_freeCount (c : ChordUnit) : (s.setChords c).freeCount = s.freeCount := rfl
@[simp] theorem State.setChords_lastRefusal (c : ChordUnit) : (s.setChords c).lastRefusal = s.lastRefusal := rfl
@[simp] theorem State.setChords_partState (c : ChordUnit) : (s.setChords c).partState = s.partState := rfl
@[simp] theorem State.setChords_resetHeld (c : ChordUnit) : (s.setChords c).resetHeld = s.resetHeld := rfl
@[simp] theorem State.setChords_mem (c : ChordUnit) : (s.setChords c).mem = s.mem := rfl
@[simp] theorem State.setChords_nv (c : ChordUnit) : (s.setChords c).nv = s.nv := rfl
@[simp] theorem State.setChords_store (c : ChordUnit) : (s.setChords c).store = s.store := rfl
@[simp] theorem State.setChords_sensors (c : ChordUnit) : (s.setChords c).sensors = s.sensors := rfl
@[simp] theorem State.setChords_zones (c : ChordUnit) : (s.setChords c).zones = s.zones := rfl
@[simp] theorem State.setChords_gate (c : ChordUnit) : (s.setChords c).gate = s.gate := rfl
@[simp] theorem State.setChords_nextPass (c : ChordUnit) : (s.setChords c).nextPass = s.nextPass := rfl
@[simp] theorem State.setChords_budget (c : ChordUnit) : (s.setChords c).budget = s.budget := rfl
@[simp] theorem State.setChords_heaters (c : ChordUnit) : (s.setChords c).heaters = s.heaters := rfl
@[simp] theorem State.setChords_fans (c : ChordUnit) : (s.setChords c).fans = s.fans := rfl
@[simp] theorem State.setChords_sweep (c : ChordUnit) : (s.setChords c).sweep = s.sweep := rfl
@[simp] theorem State.setChords_rails (c : ChordUnit) : (s.setChords c).rails = s.rails := rfl
@[simp] theorem State.setChords_lines (c : ChordUnit) : (s.setChords c).lines = s.lines := rfl
@[simp] theorem State.setChords_channels (c : ChordUnit) : (s.setChords c).channels = s.channels := rfl
@[simp] theorem State.setChords_sup (c : ChordUnit) : (s.setChords c).sup = s.sup := rfl
@[simp] theorem State.setChords_sched (c : ChordUnit) : (s.setChords c).sched = s.sched := rfl
@[simp] theorem State.setChords_keypad (c : ChordUnit) : (s.setChords c).keypad = s.keypad := rfl
@[simp] theorem State.setChords_chords (c : ChordUnit) : (s.setChords c).chords = c := rfl
@[simp] theorem State.setChords_slots (c : ChordUnit) : (s.setChords c).slots = s.slots := rfl
@[simp] theorem State.setChords_pool (c : ChordUnit) : (s.setChords c).pool = s.pool := rfl
@[simp] theorem State.setChords_counters (c : ChordUnit) : (s.setChords c).counters = s.counters := rfl
@[simp] theorem State.setChords_notice (c : ChordUnit) : (s.setChords c).notice = s.notice := rfl
@[simp] theorem State.setChords_link (c : ChordUnit) : (s.setChords c).link = s.link := rfl
@[simp] theorem State.setChords_shown (c : ChordUnit) : (s.setChords c).shown = s.shown := rfl

/-! ### State.setSlot -/

@[simp] theorem State.setSlot_pending (i : Fin 8) (x : Slot) : (s.setSlot i x).pending = s.pending := rfl
@[simp] theorem State.setSlot_transit (i : Fin 8) (x : Slot) : (s.setSlot i x).transit = s.transit := rfl
@[simp] theorem State.setSlot_clock (i : Fin 8) (x : Slot) : (s.setSlot i x).clock = s.clock := rfl
@[simp] theorem State.setSlot_freeCount (i : Fin 8) (x : Slot) : (s.setSlot i x).freeCount = s.freeCount := rfl
@[simp] theorem State.setSlot_lastRefusal (i : Fin 8) (x : Slot) : (s.setSlot i x).lastRefusal = s.lastRefusal := rfl
@[simp] theorem State.setSlot_partState (i : Fin 8) (x : Slot) : (s.setSlot i x).partState = s.partState := rfl
@[simp] theorem State.setSlot_resetHeld (i : Fin 8) (x : Slot) : (s.setSlot i x).resetHeld = s.resetHeld := rfl
@[simp] theorem State.setSlot_mem (i : Fin 8) (x : Slot) : (s.setSlot i x).mem = s.mem := rfl
@[simp] theorem State.setSlot_nv (i : Fin 8) (x : Slot) : (s.setSlot i x).nv = s.nv := rfl
@[simp] theorem State.setSlot_store (i : Fin 8) (x : Slot) : (s.setSlot i x).store = s.store := rfl
@[simp] theorem State.setSlot_sensors (i : Fin 8) (x : Slot) : (s.setSlot i x).sensors = s.sensors := rfl
@[simp] theorem State.setSlot_zones (i : Fin 8) (x : Slot) : (s.setSlot i x).zones = s.zones := rfl
@[simp] theorem State.setSlot_gate (i : Fin 8) (x : Slot) : (s.setSlot i x).gate = s.gate := rfl
@[simp] theorem State.setSlot_nextPass (i : Fin 8) (x : Slot) : (s.setSlot i x).nextPass = s.nextPass := rfl
@[simp] theorem State.setSlot_budget (i : Fin 8) (x : Slot) : (s.setSlot i x).budget = s.budget := rfl
@[simp] theorem State.setSlot_heaters (i : Fin 8) (x : Slot) : (s.setSlot i x).heaters = s.heaters := rfl
@[simp] theorem State.setSlot_fans (i : Fin 8) (x : Slot) : (s.setSlot i x).fans = s.fans := rfl
@[simp] theorem State.setSlot_sweep (i : Fin 8) (x : Slot) : (s.setSlot i x).sweep = s.sweep := rfl
@[simp] theorem State.setSlot_rails (i : Fin 8) (x : Slot) : (s.setSlot i x).rails = s.rails := rfl
@[simp] theorem State.setSlot_lines (i : Fin 8) (x : Slot) : (s.setSlot i x).lines = s.lines := rfl
@[simp] theorem State.setSlot_channels (i : Fin 8) (x : Slot) : (s.setSlot i x).channels = s.channels := rfl
@[simp] theorem State.setSlot_sup (i : Fin 8) (x : Slot) : (s.setSlot i x).sup = s.sup := rfl
@[simp] theorem State.setSlot_sched (i : Fin 8) (x : Slot) : (s.setSlot i x).sched = s.sched := rfl
@[simp] theorem State.setSlot_keypad (i : Fin 8) (x : Slot) : (s.setSlot i x).keypad = s.keypad := rfl
@[simp] theorem State.setSlot_chords (i : Fin 8) (x : Slot) : (s.setSlot i x).chords = s.chords := rfl
@[simp] theorem State.setSlot_slots (i : Fin 8) (x : Slot) : (s.setSlot i x).slots = put s.slots i x := rfl
@[simp] theorem State.setSlot_pool (i : Fin 8) (x : Slot) : (s.setSlot i x).pool = s.pool := rfl
@[simp] theorem State.setSlot_counters (i : Fin 8) (x : Slot) : (s.setSlot i x).counters = s.counters := rfl
@[simp] theorem State.setSlot_notice (i : Fin 8) (x : Slot) : (s.setSlot i x).notice = s.notice := rfl
@[simp] theorem State.setSlot_link (i : Fin 8) (x : Slot) : (s.setSlot i x).link = s.link := rfl
@[simp] theorem State.setSlot_shown (i : Fin 8) (x : Slot) : (s.setSlot i x).shown = s.shown := rfl

/-! ### State.setStore -/

@[simp] theorem State.setStore_pending (o : StoreOp) : (s.setStore o).pending = s.pending := rfl
@[simp] theorem State.setStore_transit (o : StoreOp) : (s.setStore o).transit = s.transit := rfl
@[simp] theorem State.setStore_clock (o : StoreOp) : (s.setStore o).clock = s.clock := rfl
@[simp] theorem State.setStore_freeCount (o : StoreOp) : (s.setStore o).freeCount = s.freeCount := rfl
@[simp] theorem State.setStore_lastRefusal (o : StoreOp) : (s.setStore o).lastRefusal = s.lastRefusal := rfl
@[simp] theorem State.setStore_partState (o : StoreOp) : (s.setStore o).partState = s.partState := rfl
@[simp] theorem State.setStore_resetHeld (o : StoreOp) : (s.setStore o).resetHeld = s.resetHeld := rfl
@[simp] theorem State.setStore_mem (o : StoreOp) : (s.setStore o).mem = s.mem := rfl
@[simp] theorem State.setStore_nv (o : StoreOp) : (s.setStore o).nv = s.nv := rfl
@[simp] theorem State.setStore_store (o : StoreOp) : (s.setStore o).store = o := rfl
@[simp] theorem State.setStore_sensors (o : StoreOp) : (s.setStore o).sensors = s.sensors := rfl
@[simp] theorem State.setStore_zones (o : StoreOp) : (s.setStore o).zones = s.zones := rfl
@[simp] theorem State.setStore_gate (o : StoreOp) : (s.setStore o).gate = s.gate := rfl
@[simp] theorem State.setStore_nextPass (o : StoreOp) : (s.setStore o).nextPass = s.nextPass := rfl
@[simp] theorem State.setStore_budget (o : StoreOp) : (s.setStore o).budget = s.budget := rfl
@[simp] theorem State.setStore_heaters (o : StoreOp) : (s.setStore o).heaters = s.heaters := rfl
@[simp] theorem State.setStore_fans (o : StoreOp) : (s.setStore o).fans = s.fans := rfl
@[simp] theorem State.setStore_sweep (o : StoreOp) : (s.setStore o).sweep = s.sweep := rfl
@[simp] theorem State.setStore_rails (o : StoreOp) : (s.setStore o).rails = s.rails := rfl
@[simp] theorem State.setStore_lines (o : StoreOp) : (s.setStore o).lines = s.lines := rfl
@[simp] theorem State.setStore_channels (o : StoreOp) : (s.setStore o).channels = s.channels := rfl
@[simp] theorem State.setStore_sup (o : StoreOp) : (s.setStore o).sup = s.sup := rfl
@[simp] theorem State.setStore_sched (o : StoreOp) : (s.setStore o).sched = s.sched := rfl
@[simp] theorem State.setStore_keypad (o : StoreOp) : (s.setStore o).keypad = s.keypad := rfl
@[simp] theorem State.setStore_chords (o : StoreOp) : (s.setStore o).chords = s.chords := rfl
@[simp] theorem State.setStore_slots (o : StoreOp) : (s.setStore o).slots = s.slots := rfl
@[simp] theorem State.setStore_pool (o : StoreOp) : (s.setStore o).pool = s.pool := rfl
@[simp] theorem State.setStore_counters (o : StoreOp) : (s.setStore o).counters = s.counters := rfl
@[simp] theorem State.setStore_notice (o : StoreOp) : (s.setStore o).notice = s.notice := rfl
@[simp] theorem State.setStore_link (o : StoreOp) : (s.setStore o).link = s.link := rfl
@[simp] theorem State.setStore_shown (o : StoreOp) : (s.setStore o).shown = s.shown := rfl

/-! ### State.publishTicks -/

@[simp] theorem State.publishTicks_pending : s.publishTicks.pending = s.pending := rfl
@[simp] theorem State.publishTicks_transit : s.publishTicks.transit = s.transit := rfl
@[simp] theorem State.publishTicks_clock : s.publishTicks.clock = s.clock := rfl
@[simp] theorem State.publishTicks_freeCount : s.publishTicks.freeCount = s.freeCount := rfl
@[simp] theorem State.publishTicks_lastRefusal : s.publishTicks.lastRefusal = s.lastRefusal := rfl
@[simp] theorem State.publishTicks_partState : s.publishTicks.partState = s.partState := rfl
@[simp] theorem State.publishTicks_resetHeld : s.publishTicks.resetHeld = s.resetHeld := rfl
@[simp] theorem State.publishTicks_mem : s.publishTicks.mem = s.mem := rfl
@[simp] theorem State.publishTicks_nv : s.publishTicks.nv = s.nv := rfl
@[simp] theorem State.publishTicks_store : s.publishTicks.store = s.store := rfl
@[simp] theorem State.publishTicks_sensors : s.publishTicks.sensors = s.sensors := rfl
@[simp] theorem State.publishTicks_zones : s.publishTicks.zones = s.zones := rfl
@[simp] theorem State.publishTicks_gate : s.publishTicks.gate = s.gate := rfl
@[simp] theorem State.publishTicks_nextPass : s.publishTicks.nextPass = s.nextPass := rfl
@[simp] theorem State.publishTicks_budget : s.publishTicks.budget = s.budget := rfl
@[simp] theorem State.publishTicks_heaters : s.publishTicks.heaters = s.heaters := rfl
@[simp] theorem State.publishTicks_fans : s.publishTicks.fans = s.fans := rfl
@[simp] theorem State.publishTicks_sweep : s.publishTicks.sweep = s.sweep := rfl
@[simp] theorem State.publishTicks_rails : s.publishTicks.rails = s.rails := rfl
@[simp] theorem State.publishTicks_lines : s.publishTicks.lines = s.lines := rfl
@[simp] theorem State.publishTicks_channels : s.publishTicks.channels = s.channels := rfl
@[simp] theorem State.publishTicks_sup : s.publishTicks.sup = s.sup := rfl
@[simp] theorem State.publishTicks_sched : s.publishTicks.sched = s.sched := rfl
@[simp] theorem State.publishTicks_keypad : s.publishTicks.keypad = s.keypad := rfl
@[simp] theorem State.publishTicks_chords : s.publishTicks.chords = s.chords := rfl
@[simp] theorem State.publishTicks_slots : s.publishTicks.slots = s.slots := rfl
@[simp] theorem State.publishTicks_pool : s.publishTicks.pool = s.pool := rfl
@[simp] theorem State.publishTicks_counters : s.publishTicks.counters = s.counters := rfl
@[simp] theorem State.publishTicks_notice : s.publishTicks.notice = s.notice := rfl
@[simp] theorem State.publishTicks_link : s.publishTicks.link = s.link := rfl

/-! ### State.publishChords -/

@[simp] theorem State.publishChords_pending : s.publishChords.pending = s.pending := rfl
@[simp] theorem State.publishChords_transit : s.publishChords.transit = s.transit := rfl
@[simp] theorem State.publishChords_clock : s.publishChords.clock = s.clock := rfl
@[simp] theorem State.publishChords_freeCount : s.publishChords.freeCount = s.freeCount := rfl
@[simp] theorem State.publishChords_lastRefusal : s.publishChords.lastRefusal = s.lastRefusal := rfl
@[simp] theorem State.publishChords_partState : s.publishChords.partState = s.partState := rfl
@[simp] theorem State.publishChords_resetHeld : s.publishChords.resetHeld = s.resetHeld := rfl
@[simp] theorem State.publishChords_mem : s.publishChords.mem = s.mem := rfl
@[simp] theorem State.publishChords_nv : s.publishChords.nv = s.nv := rfl
@[simp] theorem State.publishChords_store : s.publishChords.store = s.store := rfl
@[simp] theorem State.publishChords_sensors : s.publishChords.sensors = s.sensors := rfl
@[simp] theorem State.publishChords_zones : s.publishChords.zones = s.zones := rfl
@[simp] theorem State.publishChords_gate : s.publishChords.gate = s.gate := rfl
@[simp] theorem State.publishChords_nextPass : s.publishChords.nextPass = s.nextPass := rfl
@[simp] theorem State.publishChords_budget : s.publishChords.budget = s.budget := rfl
@[simp] theorem State.publishChords_heaters : s.publishChords.heaters = s.heaters := rfl
@[simp] theorem State.publishChords_fans : s.publishChords.fans = s.fans := rfl
@[simp] theorem State.publishChords_sweep : s.publishChords.sweep = s.sweep := rfl
@[simp] theorem State.publishChords_rails : s.publishChords.rails = s.rails := rfl
@[simp] theorem State.publishChords_lines : s.publishChords.lines = s.lines := rfl
@[simp] theorem State.publishChords_channels : s.publishChords.channels = s.channels := rfl
@[simp] theorem State.publishChords_sup : s.publishChords.sup = s.sup := rfl
@[simp] theorem State.publishChords_sched : s.publishChords.sched = s.sched := rfl
@[simp] theorem State.publishChords_keypad : s.publishChords.keypad = s.keypad := rfl
@[simp] theorem State.publishChords_chords : s.publishChords.chords = s.chords := rfl
@[simp] theorem State.publishChords_slots : s.publishChords.slots = s.slots := rfl
@[simp] theorem State.publishChords_pool : s.publishChords.pool = s.pool := rfl
@[simp] theorem State.publishChords_counters : s.publishChords.counters = s.counters := rfl
@[simp] theorem State.publishChords_notice : s.publishChords.notice = s.notice := rfl
@[simp] theorem State.publishChords_link : s.publishChords.link = s.link := rfl

/-! ### State.publishFan -/

@[simp] theorem State.publishFan_pending (f : Fin 2) : (s.publishFan f).pending = s.pending := rfl
@[simp] theorem State.publishFan_transit (f : Fin 2) : (s.publishFan f).transit = s.transit := rfl
@[simp] theorem State.publishFan_clock (f : Fin 2) : (s.publishFan f).clock = s.clock := rfl
@[simp] theorem State.publishFan_freeCount (f : Fin 2) : (s.publishFan f).freeCount = s.freeCount := rfl
@[simp] theorem State.publishFan_lastRefusal (f : Fin 2) : (s.publishFan f).lastRefusal = s.lastRefusal := rfl
@[simp] theorem State.publishFan_partState (f : Fin 2) : (s.publishFan f).partState = s.partState := rfl
@[simp] theorem State.publishFan_resetHeld (f : Fin 2) : (s.publishFan f).resetHeld = s.resetHeld := rfl
@[simp] theorem State.publishFan_mem (f : Fin 2) : (s.publishFan f).mem = s.mem := rfl
@[simp] theorem State.publishFan_nv (f : Fin 2) : (s.publishFan f).nv = s.nv := rfl
@[simp] theorem State.publishFan_store (f : Fin 2) : (s.publishFan f).store = s.store := rfl
@[simp] theorem State.publishFan_sensors (f : Fin 2) : (s.publishFan f).sensors = s.sensors := rfl
@[simp] theorem State.publishFan_zones (f : Fin 2) : (s.publishFan f).zones = s.zones := rfl
@[simp] theorem State.publishFan_gate (f : Fin 2) : (s.publishFan f).gate = s.gate := rfl
@[simp] theorem State.publishFan_nextPass (f : Fin 2) : (s.publishFan f).nextPass = s.nextPass := rfl
@[simp] theorem State.publishFan_budget (f : Fin 2) : (s.publishFan f).budget = s.budget := rfl
@[simp] theorem State.publishFan_heaters (f : Fin 2) : (s.publishFan f).heaters = s.heaters := rfl
@[simp] theorem State.publishFan_fans (f : Fin 2) : (s.publishFan f).fans = s.fans := rfl
@[simp] theorem State.publishFan_sweep (f : Fin 2) : (s.publishFan f).sweep = s.sweep := rfl
@[simp] theorem State.publishFan_rails (f : Fin 2) : (s.publishFan f).rails = s.rails := rfl
@[simp] theorem State.publishFan_lines (f : Fin 2) : (s.publishFan f).lines = s.lines := rfl
@[simp] theorem State.publishFan_channels (f : Fin 2) : (s.publishFan f).channels = s.channels := rfl
@[simp] theorem State.publishFan_sup (f : Fin 2) : (s.publishFan f).sup = s.sup := rfl
@[simp] theorem State.publishFan_sched (f : Fin 2) : (s.publishFan f).sched = s.sched := rfl
@[simp] theorem State.publishFan_keypad (f : Fin 2) : (s.publishFan f).keypad = s.keypad := rfl
@[simp] theorem State.publishFan_chords (f : Fin 2) : (s.publishFan f).chords = s.chords := rfl
@[simp] theorem State.publishFan_slots (f : Fin 2) : (s.publishFan f).slots = s.slots := rfl
@[simp] theorem State.publishFan_pool (f : Fin 2) : (s.publishFan f).pool = s.pool := rfl
@[simp] theorem State.publishFan_counters (f : Fin 2) : (s.publishFan f).counters = s.counters := rfl
@[simp] theorem State.publishFan_notice (f : Fin 2) : (s.publishFan f).notice = s.notice := rfl
@[simp] theorem State.publishFan_link (f : Fin 2) : (s.publishFan f).link = s.link := rfl

/-! ### State.report -/

variable (k : ReportKind) (n : Nat) (u : Bool) (i : Nat) (p : Payload)

@[simp] theorem State.report_pending : (s.report k n u i p).pending = s.pending := rfl
@[simp] theorem State.report_clock : (s.report k n u i p).clock = s.clock := rfl
@[simp] theorem State.report_freeCount : (s.report k n u i p).freeCount = s.freeCount := rfl
@[simp] theorem State.report_lastRefusal : (s.report k n u i p).lastRefusal = s.lastRefusal := rfl
@[simp] theorem State.report_partState : (s.report k n u i p).partState = s.partState := rfl
@[simp] theorem State.report_resetHeld : (s.report k n u i p).resetHeld = s.resetHeld := rfl
@[simp] theorem State.report_mem : (s.report k n u i p).mem = s.mem := rfl
@[simp] theorem State.report_nv : (s.report k n u i p).nv = s.nv := rfl
@[simp] theorem State.report_store : (s.report k n u i p).store = s.store := rfl
@[simp] theorem State.report_sensors : (s.report k n u i p).sensors = s.sensors := rfl
@[simp] theorem State.report_zones : (s.report k n u i p).zones = s.zones := rfl
@[simp] theorem State.report_gate : (s.report k n u i p).gate = s.gate := rfl
@[simp] theorem State.report_nextPass : (s.report k n u i p).nextPass = s.nextPass := rfl
@[simp] theorem State.report_budget : (s.report k n u i p).budget = s.budget := rfl
@[simp] theorem State.report_heaters : (s.report k n u i p).heaters = s.heaters := rfl
@[simp] theorem State.report_fans : (s.report k n u i p).fans = s.fans := rfl
@[simp] theorem State.report_sweep : (s.report k n u i p).sweep = s.sweep := rfl
@[simp] theorem State.report_rails : (s.report k n u i p).rails = s.rails := rfl
@[simp] theorem State.report_lines : (s.report k n u i p).lines = s.lines := rfl
@[simp] theorem State.report_channels : (s.report k n u i p).channels = s.channels := rfl
@[simp] theorem State.report_sup : (s.report k n u i p).sup = s.sup := rfl
@[simp] theorem State.report_sched : (s.report k n u i p).sched = s.sched := rfl
@[simp] theorem State.report_keypad : (s.report k n u i p).keypad = s.keypad := rfl
@[simp] theorem State.report_chords : (s.report k n u i p).chords = s.chords := rfl
@[simp] theorem State.report_slots : (s.report k n u i p).slots = s.slots := rfl
@[simp] theorem State.report_pool : (s.report k n u i p).pool = s.pool := rfl
@[simp] theorem State.report_counters : (s.report k n u i p).counters = s.counters := rfl
@[simp] theorem State.report_notice : (s.report k n u i p).notice = s.notice := rfl
@[simp] theorem State.report_link : (s.report k n u i p).link = s.link := rfl
@[simp] theorem State.report_shown : (s.report k n u i p).shown = s.shown := rfl

end Sys2Proof.Machine
end

