-- ==== Sys2Proof/Laws/Kept.lean ====
section
/-! SUPPORT. What most of the shared operations leave alone: the exchange memory, the settings store, the desk, the report
pool, the counters, the notice unit and the part state. -/

namespace Sys2Proof.Machine

open Sys2Proof Host

/-- The part of the state that only a few operations change. -/
structure Kept where
  pending : List Instr
  partState : PartState
  resetHeld : Bool
  mem : Memory
  nv : NvStore
  store : StoreOp
  slots : Vector Slot 8
  pool : Pool
  counters : Counters
  notice : Notice

/-- That part of a state. -/
def State.kept (s : State) : Kept :=
  { pending := s.pending, partState := s.partState, resetHeld := s.resetHeld, mem := s.mem, nv := s.nv, store := s.store
    slots := s.slots, pool := s.pool, counters := s.counters, notice := s.notice }

variable (s : State)

theorem foldl_kept {α : Type} (f : State → α → State) (h : ∀ s x, (f s x).kept = s.kept) (l : List α) :
    ∀ s, (l.foldl f s).kept = s.kept := by
  induction l with
  | nil => intro s; rfl
  | cons x t ih => intro s; rw [List.foldl_cons, ih, h]

/-! ### Updates -/

@[simp] theorem State.send_kept (c : Instr) : (s.send c).kept = s.kept := rfl
@[simp] theorem State.sendAll_kept (cs : List Instr) : (s.sendAll cs).kept = s.kept := rfl
@[simp] theorem State.taking_kept (c : Instr) : (s.taking c).kept = s.kept := rfl
@[simp] theorem State.elapse_kept (n : Nat) : (s.elapse n).kept = s.kept := rfl
@[simp] theorem State.reachTime_kept (n : Nat) : (s.reachTime n).kept = s.kept := rfl
@[simp] theorem State.drawFree_kept : s.drawFree.kept = s.kept := rfl
@[simp] theorem State.report_kept (k n u i p) : (s.report k n u i p).kept = s.kept := rfl
@[simp] theorem State.setGate_kept (g : Gate) : (s.setGate g).kept = s.kept := rfl
@[simp] theorem State.setSweep_kept (w) : (s.setSweep w).kept = s.kept := rfl
@[simp] theorem State.setFan_kept (f x) : (s.setFan f x).kept = s.kept := rfl
@[simp] theorem State.setChan_kept (c x) : (s.setChan c x).kept = s.kept := rfl
@[simp] theorem State.setSup_kept (u : Sup) : (s.setSup u).kept = s.kept := rfl
@[simp] theorem State.setChords_kept (c : ChordUnit) : (s.setChords c).kept = s.kept := rfl

/-! ### Sensors and climate -/

@[simp] theorem State.reportSensor_kept (ch o n) : (s.reportSensor ch o n).kept = s.kept := by
  unfold State.reportSensor; split <;> [rfl; split <;> rfl]

@[simp] theorem State.reportWarmUp_kept (n b p) : (s.reportWarmUp n b p).kept = s.kept := rfl

@[simp] theorem State.openGate_kept (b p) : (s.openGate b p).kept = s.kept := by
  cases b <;> rfl

@[simp] theorem State.gateMove_kept (r m p) : (s.gateMove r m p).kept = s.kept := by
  unfold State.gateMove; dsimp only; repeat' split
  all_goals simp

@[simp] theorem State.limitMove_kept (z d p) : (s.limitMove z d p).kept = s.kept := by
  unfold State.limitMove; dsimp only; repeat' split
  all_goals simp

@[simp] theorem State.gateWork_kept (r z d p) : (s.gateWork r z d p).kept = s.kept := by
  unfold State.gateWork; simp

@[simp] theorem takeT0_kept : (takeT0 s).kept = s.kept := by
  unfold takeT0; split <;> rfl

@[simp] theorem State.gatePass_kept (r) : (s.gatePass r).kept = s.kept := by
  unfold State.gatePass
  exact (takeT0_kept _).trans (by simp)

@[simp] theorem State.takeBoost_kept (t n) : (s.takeBoost t n).1.kept = s.kept := by
  unfold State.takeBoost; split <;> [rfl; split <;> rfl]

/-! ### Fans -/

@[simp] theorem State.publishFan_kept (f) : (s.publishFan f).kept = s.kept := rfl
@[simp] theorem State.wakeFan_kept (f) : (s.wakeFan f).kept = s.kept := rfl

@[simp] theorem State.fanStateWork_kept (f) : (s.fanStateWork f).kept = s.kept := by
  unfold State.fanStateWork; dsimp only; repeat' split
  all_goals simp

@[simp] theorem State.endSweep_kept (w r n d b) : (s.endSweep w r n d b).kept = s.kept := by
  unfold State.endSweep; dsimp only; repeat' split
  all_goals simp

@[simp] theorem State.sweepAbortWork_kept : s.sweepAbortWork.kept = s.kept := by
  unfold State.sweepAbortWork; repeat' split
  all_goals simp

@[simp] theorem State.fanPass_kept : s.fanPass.kept = s.kept := by
  unfold State.fanPass; simp

@[simp] theorem State.enterSweeping_kept (w) : (s.enterSweeping w).kept = s.kept := rfl

@[simp] theorem State.startSweep_kept (f m a o) : (s.startSweep f m a o).1.kept = s.kept := by
  unfold State.startSweep; split
  · rfl
  · dsimp only; split <;> simp

@[simp] theorem State.spinUpSucceeds_kept (f) : (s.spinUpSucceeds f).kept = s.kept := by
  unfold State.spinUpSucceeds; dsimp only; split <;> simp

/-! ### The climate pass -/

@[simp] theorem State.interlockPass_kept : s.interlockPass.kept = s.kept := rfl

@[simp] theorem State.episodePass_kept (g) : (s.episodePass g).kept = s.kept := by
  unfold State.episodePass; dsimp only; split <;> rfl

@[simp] theorem State.applyGrants_kept (g b) : (s.applyGrants g b).kept = s.kept := rfl

@[simp] theorem State.budgetPass_kept (b) : (s.budgetPass b).kept = s.kept := by
  unfold State.budgetPass; simp

@[simp] theorem State.demandPass_kept (b) : (s.demandPass b).kept = s.kept := rfl

@[simp] theorem State.climatePass_kept (b) : (s.climatePass b).kept = s.kept := by
  unfold State.climatePass
  have h : ∀ (t : State) (c : ChordUnit), ({ t with chords := c } : State).kept = t.kept := fun _ _ => rfl
  simp only [State.send_kept, State.count_eq, h, State.publishFan_kept, State.budgetPass_kept, State.fanPass_kept,
    State.gatePass_kept, State.demandPass_kept, State.setGate_kept]

/-! ### The sequencer -/

@[simp] theorem State.deliverLink_kept : s.deliverLink.kept = s.kept := rfl

@[simp] theorem State.deliverRail_kept (r) : (s.deliverRail r).kept = s.kept := by
  unfold State.deliverRail; split <;> rfl

@[simp] theorem State.railOn_kept (r) : (s.railOn r).kept = s.kept := by
  unfold State.railOn; dsimp only; split
  · rfl
  · exact State.deliverRail_kept _ _

@[simp] theorem State.railOff_kept (r b) : (s.railOff r b).kept = s.kept := by
  unfold State.railOff; dsimp only; repeat' split
  · rfl
  · exact State.deliverRail_kept _ _
  · exact State.deliverRail_kept _ _

@[simp] theorem State.reportChannel_kept (c x) : (s.reportChannel c x).kept = s.kept := rfl

@[simp] theorem State.endChannel_kept (c x) : (s.endChannel c x).kept = s.kept := by
  unfold State.endChannel; dsimp only; split <;> rfl

@[simp] theorem State.faultChannel_kept (c f n) : (s.faultChannel c f n).kept = s.kept := by
  unfold State.faultChannel; simp

@[simp] theorem State.abortChannel_kept (c b) : (s.abortChannel c b).kept = s.kept := by
  unfold State.abortChannel; split <;> simp

@[simp] theorem State.abortSharing_kept (m) : (s.abortSharing m).kept = s.kept := by
  unfold State.abortSharing
  exact foldl_kept _ (fun s c => by split <;> simp) _ s

@[simp] theorem State.actionEffect_kept (c a) : (s.actionEffect c a).kept = s.kept := by
  unfold State.actionEffect; split
  all_goals first | simp | rfl

@[simp] theorem State.perform_kept (c a) : (s.perform c a).kept = s.kept := by
  unfold State.perform; split <;> simp

@[simp] theorem State.reachStep_kept (c i) : (s.reachStep c i).kept = s.kept := by
  unfold State.reachStep; dsimp only; repeat' split
  all_goals simp

@[simp] theorem State.startRun_kept (c) : (s.startRun c).kept = s.kept := by
  unfold State.startRun; dsimp only; split <;> simp

@[simp] theorem State.endRun_kept (c) : (s.endRun c).kept = s.kept := by
  unfold State.endRun; dsimp only; repeat' split
  all_goals simp

@[simp] theorem State.proceed_kept (c i) : (s.proceed c i).kept = s.kept := by
  unfold State.proceed; split <;> simp

@[simp] theorem State.setUp_kept (c h a n) : (s.setUp c h a n).kept = s.kept := by
  unfold State.setUp; simp

@[simp] theorem State.startSequence_kept (h a) : (s.startSequence h a).1.kept = s.kept := by
  unfold State.startSequence; repeat' split
  all_goals simp

@[simp] theorem State.supervisorStart_kept (h b) : (s.supervisorStart h b).kept = s.kept := by
  unfold State.supervisorStart
  have h2 : ∀ (t : State) (u : Sup), ({ t with sup := u } : State).kept = t.kept := fun _ _ => rfl
  dsimp only; split <;> simp [h2]

@[simp] theorem State.cutRails_kept (m) : (s.cutRails m).kept = s.kept := by
  unfold State.cutRails
  refine foldl_kept _ (fun s r => ?_) _ s
  split
  · exact State.railOff_kept _ _ _
  · rfl

@[simp] theorem State.forcedCut_kept : s.forcedCut.kept = s.kept := by
  unfold State.forcedCut
  have h : ∀ (t : State) (l : Lines), ({ t with lines := l } : State).kept = t.kept := fun _ _ => rfl
  simp [h]

/-! ### The supervisor -/

@[simp] theorem State.publishChords_kept : s.publishChords.kept = s.kept := rfl
@[simp] theorem State.enter_kept (a b) : (s.enter a b).kept = s.kept := rfl
@[simp] theorem State.startOrder_kept : s.startOrder.kept = s.kept := by unfold State.startOrder; simp

@[simp] theorem State.powerOn_kept : s.powerOn.1.kept = s.kept := by
  unfold State.powerOn; split <;> simp

@[simp] theorem State.releaseHold_kept : s.releaseHold.1.kept = s.kept := by
  unfold State.releaseHold; split <;> simp

@[simp] theorem State.powerUp_kept : s.powerUp.kept = s.kept := by
  unfold State.powerUp; simp

@[simp] theorem State.enterBooting_kept : s.enterBooting.kept = s.kept := by unfold State.enterBooting; simp
@[simp] theorem State.startHeartbeat_kept : s.startHeartbeat.kept = s.kept := by unfold State.startHeartbeat; simp
@[simp] theorem State.enterWatching_kept : s.enterWatching.kept = s.kept := by unfold State.enterWatching; simp
@[simp] theorem State.enterRunning_kept : s.enterRunning.kept = s.kept := by unfold State.enterRunning; simp

@[simp] theorem State.takeCheckpoint_kept (v) : (s.takeCheckpoint v).kept = s.kept := by
  unfold State.takeCheckpoint; dsimp only; repeat' split
  all_goals simp

@[simp] theorem State.takeHeartbeat_kept (v) : (s.takeHeartbeat v).kept = s.kept := by
  unfold State.takeHeartbeat; dsimp only; repeat' split
  all_goals simp

@[simp] theorem State.enterSequence_kept (r) : (s.enterSequence r).kept = s.kept := by
  unfold State.enterSequence; simp

@[simp] theorem State.enterRestarting_kept (r o) : (s.enterRestarting r o).kept = s.kept := by
  unfold State.enterRestarting; dsimp only; split <;> simp

@[simp] theorem State.startOff_kept : s.startOff.kept = s.kept := by unfold State.startOff; simp

@[simp] theorem State.enterShutting_kept (t h w) : (s.enterShutting t h w).kept = s.kept := by
  unfold State.enterShutting; dsimp only; split <;> simp

@[simp] theorem State.forcedShutdown_kept : s.forcedShutdown.kept = s.kept := by
  unfold State.forcedShutdown; dsimp only; repeat' split
  all_goals simp

@[simp] theorem State.enterOff_kept : s.enterOff.kept = s.kept := by unfold State.enterOff; simp

@[simp] theorem State.enterHeld_kept (b) : (s.enterHeld b).kept = s.kept := by unfold State.enterHeld; simp

@[simp] theorem State.recordCause_kept (b c d n) : (s.recordCause b c d n).kept = s.kept := by unfold State.recordCause; simp
@[simp] theorem State.beginCause_kept (c) : (s.beginCause c).kept = s.kept := by unfold State.beginCause; simp

@[simp] theorem State.ladderCause_kept (c n) : (s.ladderCause c n).kept = s.kept := by
  unfold State.ladderCause; dsimp only; split <;> simp

@[simp] theorem State.requestedRestart_kept (r c o) : (s.requestedRestart r c o).kept = s.kept := by
  unfold State.requestedRestart; simp

@[simp] theorem State.railDropCause_kept (r) : (s.railDropCause r).kept = s.kept := by
  unfold State.railDropCause; split <;> simp

@[simp] theorem State.cutAndRelease_kept : s.cutAndRelease.kept = s.kept := by unfold State.cutAndRelease; simp
@[simp] theorem State.rewarm_kept : s.rewarm.kept = s.kept := by unfold State.rewarm; simp

@[simp] theorem State.shutDone_kept : s.shutDone.kept = s.kept := by
  unfold State.shutDone; dsimp only; split <;> simp

@[simp] theorem State.hostMaskEdited_kept (b a) : (s.hostMaskEdited b a).kept = s.kept := by
  unfold State.hostMaskEdited; split <;> simp

/-! ### Power-good, keypad, chords and lights -/

@[simp] theorem State.reportDrop_kept (r) : (s.reportDrop r).kept = s.kept := rfl

@[simp] theorem State.satisfyWaits_kept (r l) : (s.satisfyWaits r l).kept = s.kept := by
  unfold State.satisfyWaits
  refine foldl_kept _ (fun s c => ?_) _ s
  split
  · split <;> simp
  · rfl

@[simp] theorem State.takePg_kept (r l) : (s.takePg r l).kept = s.kept := by
  unfold State.takePg
  have h : ∀ (t : State) (v : Vector Rail 6), ({ t with rails := v } : State).kept = t.kept := fun _ _ => rfl
  dsimp only; repeat' split
  all_goals simp [h]

@[simp] theorem State.checkKeypadFault_kept : s.checkKeypadFault.kept = s.kept := by
  unfold State.checkKeypadFault; dsimp only; split <;> rfl

@[simp] theorem State.reportKey_kept (p r n) : (s.reportKey p r n).kept = s.kept := rfl

@[simp] theorem State.reportKeys_kept (v) : (s.reportKeys v).kept = s.kept := by
  unfold State.reportKeys
  refine foldl_kept _ (fun s p => ?_) _ s
  split <;> simp

@[simp] theorem State.scanKeys_kept (v) : (s.scanKeys v).kept = s.kept := by
  unfold State.scanKeys
  have h : ∀ (t : State) (k : Keypad), ({ t with keypad := k } : State).kept = t.kept := fun _ _ => rfl
  simp [h]

@[simp] theorem State.chordRestart_kept (r) : (s.chordRestart r).1.kept = s.kept := by
  unfold State.chordRestart; split <;> simp

@[simp] theorem State.startLightTest_kept : s.startLightTest.kept = s.kept := rfl

@[simp] theorem State.chordSend_kept (a n) : (s.chordSend a n).1.kept = s.kept := by
  unfold State.chordSend; dsimp only; repeat' split
  all_goals simp

@[simp] theorem State.fireChord_kept (n) : (s.fireChord n).kept = s.kept := by
  unfold State.fireChord; dsimp only; split <;> simp

@[simp] theorem State.setChord_kept (n c) : (s.setChord n c).kept = s.kept := rfl

@[simp] theorem State.matchChord_kept (h n) : (s.matchChord h n).kept = s.kept := by
  unfold State.matchChord; dsimp only; repeat' split
  all_goals simp

@[simp] theorem State.reportPower_kept (n w b t) : (s.reportPower n w b t).kept = s.kept := rfl

@[simp] theorem State.longOrder_kept (n r) : (s.longOrder n r).kept = r.1.kept := by
  unfold State.longOrder; dsimp only; split <;> simp

@[simp] theorem State.longPress_kept : s.longPress.kept = s.kept := by
  unfold State.longPress; repeat' split
  all_goals simp

@[simp] theorem State.forcedHold_kept (p) : (s.forcedHold p).kept = s.kept := by
  unfold State.forcedHold; repeat' split
  all_goals simp

@[simp] theorem State.powerRecord_kept (b) : (s.powerRecord b).kept = s.kept := rfl

@[simp] theorem State.checkLong_kept : s.checkLong.kept = s.kept := by
  unfold State.checkLong; repeat' split
  all_goals simp

@[simp] theorem State.checkForced_kept : s.checkForced.kept = s.kept := by
  unfold State.checkForced; repeat' split
  all_goals simp

/-- A stop by a publication (R115), field by field: only a timer that ran changes what is known of an expiry. -/
theorem ChordUnit.stopForcedOff_eq (c : ChordUnit) (now : Nat) : c.stopForcedOff now = { c with
    forcedOffTimer := none
    openExpiry := match c.forcedOffTimer with
      | none => c.openExpiry
      | some due => if due ≤ now then some { moment := now, word := supWordOf c.published c.publishedSub } else none } := by
  obtain ⟨_, _, _, timer, _, _, _, _, _, _⟩ := c
  cases timer <;> rfl

/-- A publication, field by field (R69, R115, R118). -/
theorem ChordUnit.takePublication_eq (c : ChordUnit) (now : Nat) (st : SupState) (sub : SupSub) :
    c.takePublication now st sub = { c with
      published := st, publishedSub := sub
      progress := if st = .warming then 0 else c.progress
      rearmAwaited := if st = .warming then true else c.rearmAwaited
      forcedOffTimer := if st = .booting ∨ st = .running then c.forcedOffTimer else none
      openExpiry := if st = .booting ∨ st = .running then c.openExpiry else (c.stopForcedOff now).openExpiry } := by
  cases st <;> simp [ChordUnit.takePublication, ChordUnit.stopForcedOff_eq]

@[simp] theorem ChordUnit.takePublication_chords (c : ChordUnit) (now : Nat) (st : SupState) (sub : SupSub) :
    (c.takePublication now st sub).chords = c.chords := by rw [ChordUnit.takePublication_eq]
@[simp] theorem ChordUnit.takePublication_press (c : ChordUnit) (now : Nat) (st : SupState) (sub : SupSub) :
    (c.takePublication now st sub).press = c.press := by rw [ChordUnit.takePublication_eq]

@[simp] theorem ChordUnit.seeing_chords (c b : ChordUnit) : (c.seeing b).chords = c.chords := rfl
@[simp] theorem ChordUnit.seeing_press (c b : ChordUnit) : (c.seeing b).press = c.press := rfl
@[simp] theorem ChordUnit.seeing_testEnds (c b : ChordUnit) : (c.seeing b).testEnds = c.testEnds := rfl
@[simp] theorem ChordUnit.seeing_published (c b : ChordUnit) : (c.seeing b).published = b.published := rfl
@[simp] theorem ChordUnit.seeing_publishedSub (c b : ChordUnit) : (c.seeing b).publishedSub = b.publishedSub := rfl
@[simp] theorem ChordUnit.seeing_forcedOffTimer (c b : ChordUnit) : (c.seeing b).forcedOffTimer = b.forcedOffTimer := rfl
@[simp] theorem ChordUnit.seeing_openExpiry (c b : ChordUnit) : (c.seeing b).openExpiry = b.openExpiry := rfl

/-- With no change of state there is nothing to catch up with; a change is taken as its publication (R69). -/
theorem ChordUnit.catchUp_eq (c : ChordUnit) (now : Nat) (before after : Sup) :
    (before.state = after.state → c.catchUp now before after = c) ∧
    (before.state ≠ after.state → c.catchUp now before after = c.takePublication now after.state after.sub) :=
  ⟨fun h => if_pos h, fun h => if_neg h⟩

@[simp] theorem State.takeHeld_kept (h) : (s.takeHeld h).kept = s.kept := by
  unfold State.takeHeld
  simp only [State.setChords_kept, State.checkForced_kept, State.checkLong_kept, State.powerRecord_kept]
  exact foldl_kept _ (fun s n => State.matchChord_kept s _ n) _ s

@[simp] theorem State.handOff_kept (h) : (s.handOff h).kept = s.kept := by
  unfold State.handOff; dsimp only; split <;> simp

/-! ### The report pool and the schedule: all but the pool is kept -/

/-- The kept part with another report pool. -/
def Kept.withPool (k : Kept) (p : Pool) : Kept := { k with pool := p }

@[simp] theorem Kept.withPool_withPool (k : Kept) (p q : Pool) : (k.withPool p).withPool q = k.withPool q := rfl
@[simp] theorem Kept.withPool_pool (k : Kept) (p : Pool) : (k.withPool p).pool = p := rfl
@[simp] theorem Kept.withPool_self (s : State) : s.kept.withPool s.pool = s.kept := rfl
@[simp] theorem State.setPool_kept (p : Pool) : (s.setPool p).kept = s.kept.withPool p := rfl
@[simp] theorem State.kept_pool : s.kept.pool = s.pool := rfl

theorem State.pool_of_kept {t : State} {k : Kept} (h : t.kept = k) : t.pool = k.pool := h ▸ rfl

/-- A posting changes the kept part in the report pool alone. -/
theorem State.post_kept (r : Posting) : (s.post r).kept = s.kept.withPool (s.post r).pool := by
  have marks : ∀ t : State, (t.postMarks r).kept = t.kept := fun t => by
    unfold State.postMarks; dsimp only; repeat' split
    all_goals simp
  have collide : ∀ (t : State) n, ∃ p, (t.postCollide n).kept = t.kept.withPool p := fun t n => by
    unfold State.postCollide; split
    · exact ⟨_, rfl⟩
    · exact ⟨t.pool, rfl⟩
  have place : ∀ t : State, ∃ p, (t.postPlace r).1.kept = t.kept.withPool p := fun t => by
    unfold State.postPlace; repeat' split
    all_goals first | exact ⟨t.pool, rfl⟩ | exact ⟨_, rfl⟩
  have write : ∀ (t : State) n c, ∃ p, (t.postWrite r n c).kept = t.kept.withPool p := fun t n c => ⟨_, rfl⟩
  suffices h : ∃ p, (s.post r).kept = s.kept.withPool p by
    obtain ⟨p, h⟩ := h
    rw [h, State.pool_of_kept h, Kept.withPool_pool]
  unfold State.post
  split
  · exact ⟨s.pool, rfl⟩
  · dsimp only
    generalize hu : State.postCollide _ _ = u
    obtain ⟨p, hp⟩ := collide (s.setPool { s.pool with
      generator := nextNumber s.pool.generator, newest := s.pool.generator }) s.pool.generator
    rw [hu] at hp
    obtain ⟨q, hq⟩ := place u
    split <;> next v _ hv =>
      rw [hv] at hq
      first
        | rw [marks]; obtain ⟨x, hx⟩ := write v s.pool.generator _; exact ⟨x, by rw [hx, hq, hp]; rfl⟩
        | exact ⟨q, by rw [hq, hp]; rfl⟩

@[simp] theorem State.publishTicks_kept : s.publishTicks.kept = s.kept := rfl
@[simp] theorem State.phaseRestart_kept : s.phaseRestart.kept = s.kept := rfl

/-- A snapshot changes the kept part in the report pool alone. -/
theorem State.snapshot_kept (e) : (s.snapshot e).kept = s.kept.withPool (s.snapshot e).pool := by
  unfold State.snapshot
  generalize State.snapshotPosting s e = report
  suffices h : ∀ (l : List Nat) (t : State), ∃ p, (l.foldl (fun t n => t.post (report n)) t).kept = t.kept.withPool p by
    obtain ⟨p, h⟩ := h [1, 2, 3, 4] s
    rw [h, State.pool_of_kept h, Kept.withPool_pool]
  intro l
  induction l with
  | nil => exact fun t => ⟨t.pool, rfl⟩
  | cons n l ih =>
    intro t
    obtain ⟨p, h⟩ := ih (t.post (report n))
    exact ⟨p, by rw [List.foldl_cons, h, State.post_kept]; rfl⟩

/-- An entry's action changes the kept part in the report pool alone. -/
theorem State.entrySend_kept (e) : (s.entrySend e).1.kept = s.kept.withPool (s.entrySend e).1.pool := by
  suffices h : ∃ p, (s.entrySend e).1.kept = s.kept.withPool p by
    obtain ⟨p, h⟩ := h
    rw [h, State.pool_of_kept h, Kept.withPool_pool]
  unfold State.entrySend
  dsimp only
  repeat' split
  all_goals first
    | exact ⟨_, State.snapshot_kept s e⟩
    | exact ⟨s.pool, by simp⟩

theorem State.entryAct_kept (e) : (s.entryAct e).kept = s.kept.withPool (s.entryAct e).pool := by
  have h : (s.entryAct e).kept = (s.entrySend e).1.kept := by unfold State.entryAct; dsimp only; split <;> rfl
  rw [h, State.entrySend_kept, State.pool_of_kept h, kept_pool]

end Sys2Proof.Machine
end

