-- ==== Sys2Proof/Laws/Memory.lean ====
section
/-! SUPPORT. The exchange memory: what a byte reads after each operation, and that every operation keeps the canonical
form. -/

namespace Sys2Proof.Machine

open Sys2Proof

/-! ### Reading -/

theorem Memory.read_insert (m : Memory) (a b : Nat) (v : Byte) :
    (m.insert a v).read b = if a = b then v else m.read b := by
  induction m with
  | nil => simp [Memory.insert, Memory.read]
  | cons c t ih =>
    obtain ⟨k, w⟩ := c
    simp only [Memory.insert]
    split
    · next h => subst h; simp only [Memory.read]; split <;> rfl
    · split
      · simp only [Memory.read]
      · next h _ =>
        simp only [Memory.read, ih]
        split <;> split <;> simp_all

theorem Memory.read_filter (m : Memory) (p : Nat → Bool) (b : Nat) :
    Memory.read (m.filter fun c => p c.1) b = if p b then m.read b else Memory.initial b := by
  induction m with
  | nil => simp [Memory.read]
  | cons c t ih =>
    obtain ⟨k, w⟩ := c
    by_cases hk : p k
    · rw [List.filter_cons_of_pos (by simpa using hk)]
      simp only [Memory.read, ih]
      split
      · next h => subst h; simp [hk]
      · rfl
    · rw [List.filter_cons_of_neg (by simpa using hk)]
      simp only [Memory.read, ih]
      split
      · next h =>
        have : k ≠ b := fun e => hk (e ▸ h)
        simp [this]
      · rfl

theorem Memory.read_append (m n : Memory) (b : Nat) :
    Memory.read (m ++ n) b = if b ∈ m.map Prod.fst then m.read b else n.read b := by
  induction m with
  | nil => simp
  | cons c t ih =>
    obtain ⟨k, w⟩ := c
    simp only [List.cons_append, Memory.read, ih, List.map_cons, List.mem_cons]
    by_cases h : k = b
    · simp [h]
    · simp [h, Ne.symm h]

theorem Memory.read_notMem (m : Memory) (b : Nat) (h : b ∉ m.map Prod.fst) : m.read b = Memory.initial b := by
  induction m with
  | nil => rfl
  | cons c t ih =>
    obtain ⟨k, w⟩ := c
    simp only [List.map_cons, List.mem_cons, not_or] at h
    simp [Memory.read, Ne.symm h.1, ih h.2]

theorem Memory.read_write (m : Memory) (a b : Nat) (v : Byte) :
    (m.write a v).read b = if a = b then v else m.read b := by
  unfold Memory.write
  split
  · next h =>
    have := Memory.read_filter m (fun k => decide (k ≠ a)) b
    rw [this]
    by_cases hab : a = b
    · subst hab; simp [h]
    · simp [hab, Ne.symm hab]
  · exact Memory.read_insert m a b v

@[simp] theorem Memory.read_write_same (m : Memory) (a : Nat) (v : Byte) : (m.write a v).read a = v := by
  simp [Memory.read_write]

theorem Memory.read_write_other (m : Memory) {a b : Nat} (h : a ≠ b) (v : Byte) : (m.write a v).read b = m.read b := by
  simp [Memory.read_write, h]

theorem Memory.read_writeBytes (bytes : List Byte) : ∀ (m : Memory) (a b : Nat),
    (m.writeBytes a bytes).read b = if a ≤ b ∧ b < a + bytes.length then bytes.getD (b - a) 0 else m.read b := by
  induction bytes with
  | nil => intro m a b; simp [Memory.writeBytes]
  | cons v t ih =>
    intro m a b
    simp only [Memory.writeBytes, ih, Memory.read_write, List.length_cons]
    by_cases h : a = b
    · subst h; simp
    · by_cases h2 : a + 1 ≤ b ∧ b < a + 1 + t.length
      · rw [if_pos h2, if_pos (by omega), show b - a = (b - (a + 1)) + 1 by omega]; simp
      · rw [if_neg h2, if_neg h, if_neg (by omega)]

theorem Memory.read_writeAll_notMem (l : List (Nat × Byte)) : ∀ (m : Memory) (b : Nat), b ∉ l.map Prod.fst →
    (m.writeAll l).read b = m.read b := by
  induction l with
  | nil => intros; rfl
  | cons c t ih =>
    intro m b h
    obtain ⟨k, w⟩ := c
    simp only [List.map_cons, List.mem_cons, not_or] at h
    rw [Memory.writeAll, ih _ _ h.2, Memory.read_write_other _ (Ne.symm h.1)]

theorem Memory.read_writeAll_mem (l : List (Nat × Byte)) : ∀ (m : Memory) (b : Nat) (v : Byte),
    (l.map Prod.fst).Nodup → (b, v) ∈ l → (m.writeAll l).read b = v := by
  induction l with
  | nil => intro _ _ _ _ h; simp at h
  | cons c t ih =>
    intro m b v hn h
    obtain ⟨k, w⟩ := c
    simp only [List.map_cons, List.nodup_cons] at hn
    rcases List.mem_cons.mp h with h | h
    · obtain ⟨rfl, rfl⟩ := Prod.mk.injEq .. ▸ h
      rw [Memory.writeAll, Memory.read_writeAll_notMem _ _ _ hn.1]; simp
    · exact ih _ _ _ hn.2 h

/-! ### The canonical form -/

theorem Memory.wfFrom_mono (m : Memory) : ∀ {lo lo' : Nat}, lo ≤ lo' → Memory.wfFrom lo' m → Memory.wfFrom lo m := by
  induction m with
  | nil => intros; rfl
  | cons c t _ =>
    intro lo lo' h hw
    obtain ⟨k, w⟩ := c
    simp only [Memory.wfFrom, Bool.and_eq_true, decide_eq_true_eq] at hw ⊢
    exact ⟨⟨⟨by omega, hw.1.1.2⟩, hw.1.2⟩, hw.2⟩

theorem Memory.wfFrom_filter (m : Memory) (p : Host.Cell → Bool) : ∀ {lo : Nat}, Memory.wfFrom lo m →
    Memory.wfFrom lo (m.filter p) := by
  induction m with
  | nil => intro _ h; exact h
  | cons c t ih =>
    intro lo hw
    obtain ⟨k, w⟩ := c
    simp only [Memory.wfFrom, Bool.and_eq_true, decide_eq_true_eq] at hw
    by_cases hp : p (k, w)
    · rw [List.filter_cons_of_pos hp]
      simp only [Memory.wfFrom, Bool.and_eq_true, decide_eq_true_eq]
      exact ⟨hw.1, ih hw.2⟩
    · rw [List.filter_cons_of_neg hp]
      exact Memory.wfFrom_mono _ (by omega) (ih hw.2)

theorem Memory.wfFrom_insert (m : Memory) (a : Nat) (v : Byte) (ha : a < 0x4000) (hv : v ≠ Memory.initial a) :
    ∀ {lo : Nat}, lo ≤ a → Memory.wfFrom lo m → Memory.wfFrom lo (m.insert a v) := by
  induction m with
  | nil => intro lo hlo _; simp [Memory.insert, Memory.wfFrom, hlo, ha, hv]
  | cons c t ih =>
    intro lo hlo hw
    obtain ⟨k, w⟩ := c
    simp only [Memory.wfFrom, Bool.and_eq_true, decide_eq_true_eq] at hw
    simp only [Memory.insert]
    split
    · next h => subst h; simp only [Memory.wfFrom, Bool.and_eq_true, decide_eq_true_eq]; exact ⟨⟨⟨hlo, ha⟩, hv⟩, hw.2⟩
    · split
      · next h _ =>
        simp only [Memory.wfFrom, Bool.and_eq_true, decide_eq_true_eq]
        exact ⟨⟨⟨hlo, ha⟩, hv⟩, ⟨⟨by omega, hw.1.1.2⟩, hw.1.2⟩, hw.2⟩
      · next h1 h2 =>
        simp only [Memory.wfFrom, Bool.and_eq_true, decide_eq_true_eq]
        exact ⟨hw.1, ih (by omega) hw.2⟩

theorem Memory.wf_write (m : Memory) (a : Nat) (v : Byte) (ha : a < 0x4000) (h : m.wf) : (m.write a v).wf := by
  unfold Memory.write
  split
  · exact Memory.wfFrom_filter m _ h
  · next hv => exact Memory.wfFrom_insert m a v ha hv (Nat.zero_le a) h

theorem Memory.wf_writeBytes (bytes : List Byte) : ∀ (m : Memory) (a : Nat), a + bytes.length ≤ 0x4000 → m.wf →
    (m.writeBytes a bytes).wf := by
  induction bytes with
  | nil => intro m a _ h; exact h
  | cons v t ih =>
    intro m a ha h
    simp only [List.length_cons] at ha
    exact ih _ _ (by omega) (Memory.wf_write m a v (by omega) h)

theorem Memory.wf_writeAll (l : List (Nat × Byte)) : ∀ (m : Memory), (∀ c ∈ l, c.1 < 0x4000) → m.wf →
    (m.writeAll l).wf := by
  induction l with
  | nil => intro m _ h; exact h
  | cons c t ih =>
    intro m hl h
    obtain ⟨k, w⟩ := c
    exact ih _ (fun c hc => hl c (List.mem_cons_of_mem _ hc)) (Memory.wf_write m k w (hl (k, w) (by simp)) h)

theorem Memory.wfFrom_iff (m : Memory) : ∀ (lo : Nat), Memory.wfFrom lo m ↔
    (m.map Prod.fst).Pairwise (· < ·) ∧ ∀ c ∈ m, lo ≤ c.1 ∧ c.1 < 0x4000 ∧ c.2 ≠ Memory.initial c.1 := by
  induction m with
  | nil => simp [Memory.wfFrom]
  | cons c t ih =>
    intro lo
    obtain ⟨k, w⟩ := c
    simp only [Memory.wfFrom, Bool.and_eq_true, decide_eq_true_eq, ih, List.map_cons, List.pairwise_cons,
      List.mem_cons, forall_eq_or_imp, List.mem_map, forall_exists_index, and_imp, forall_apply_eq_imp_iff₂]
    constructor
    · rintro ⟨⟨⟨h1, h2⟩, h3⟩, h4, h5⟩
      exact ⟨⟨fun c hc => by have := (h5 c hc).1; omega, h4⟩, ⟨h1, h2, h3⟩,
        fun c hc => ⟨by have := (h5 c hc).1; omega, (h5 c hc).2⟩⟩
    · rintro ⟨⟨h1, h2⟩, ⟨h3, h4, h5⟩, h6⟩
      exact ⟨⟨⟨h3, h4⟩, h5⟩, h2, fun c hc => ⟨h1 c hc, (h6 c hc).2⟩⟩

theorem Memory.wf_loadSettings (m image : Memory) (h : m.wf) (hi : image.imageWf) : (m.loadSettings image).wf := by
  unfold Memory.imageWf at hi
  simp only [Bool.and_eq_true, List.all_eq_true, decide_eq_true_eq] at hi
  obtain ⟨hi, hr⟩ := hi
  unfold Memory.wf at h hi ⊢
  rw [Memory.wfFrom_iff] at h hi ⊢
  unfold Memory.loadSettings
  refine ⟨?_, ?_⟩
  · simp only [List.map_append, List.pairwise_append, List.mem_map, List.mem_filter, List.mem_append,
      forall_exists_index, and_imp, decide_eq_true_eq]
    refine ⟨⟨?_, hi.1, ?_⟩, ?_, ?_⟩
    · exact h.1.sublist (List.Sublist.map _ List.filter_sublist)
    · rintro _ c hc h1 rfl _ d hd rfl; have := (hr d hd).1; omega
    · exact h.1.sublist (List.Sublist.map _ List.filter_sublist)
    · rintro a hx _ d hd h1 rfl
      rcases hx with ⟨c, ⟨hc, h2⟩, rfl⟩ | ⟨c, hc, rfl⟩
      · omega
      · have := (hr c hc).2; omega
  · intro c hc
    simp only [List.mem_append, List.mem_filter] at hc
    rcases hc with (hc | hc) | hc
    · exact h.2 c hc.1
    · exact hi.2 c hc
    · exact h.2 c hc.1

theorem Memory.imageWf_settings (m : Memory) (h : m.wf) : m.settings.imageWf := by
  unfold Memory.imageWf Memory.settings
  simp only [Bool.and_eq_true, List.all_eq_true, decide_eq_true_eq, List.mem_filter]
  exact ⟨Memory.wfFrom_filter m _ h, fun c hc => hc.2⟩

theorem factoryImage_wf : factoryImage.imageWf := by decide +kernel

end Sys2Proof.Machine
end

