-- ==== Sys2Proof/Laws/Publication.lean ====
section
/-! SUPPORT. Publications of the supervisor state at the chord and light unit (R69, R115, R118): what one does, that the
sequencer leaves the unit alone, and that every entry into RESTARTING or SHUTTING stops the forced-off timer. -/

namespace Sys2Proof.Machine

open Sys2Proof

/-- A publication is what the statements call one taken (R69). -/
theorem ChordUnit.catchUp_publicationTaken (c : ChordUnit) (now : Nat) (before after : Sup) :
    PublicationTaken c (c.catchUp now before after) now before after := by
  rcases ChordUnit.catchUp_eq c now before after with ⟨same, changed⟩
  by_cases h : before.state = after.state
  · rw [same h]
    exact ⟨fun _ => rfl, fun _ => rfl, fun _ _ => rfl, fun _ x => absurd h x.1, fun x => absurd h x⟩
  · rw [changed h, ChordUnit.takePublication_eq, ChordUnit.stopForcedOff_eq]
    refine ⟨fun x => absurd x h, fun x => ?_, fun x e => ?_, fun due x e => ?_, fun _ => rfl⟩ <;> dsimp only
    · rw [if_pos]
      by_contra y
      exact x ⟨h, fun z => y (.inl z), fun z => y (.inr z)⟩
    · rw [e]; exact ite_self _
    · rw [if_neg (not_or.2 x.2), e]

/-! ### The sequencer leaves the unit alone -/

variable (s : State)

@[simp] theorem State.endChannel_chords (c x) : (s.endChannel c x).chords = s.chords := by
  unfold State.endChannel; dsimp only; split <;> rfl

@[simp] theorem State.faultChannel_chords (c f n) : (s.faultChannel c f n).chords = s.chords := State.endChannel_chords _ _ _

@[simp] theorem State.abortChannel_chords (c b) : (s.abortChannel c b).chords = s.chords := by
  unfold State.abortChannel; split <;> simp

@[simp] theorem State.abortSharing_chords (m) : (s.abortSharing m).chords = s.chords := by
  unfold State.abortSharing
  generalize deskChannels = l
  induction l generalizing s with
  | nil => rfl
  | cons c t ih => rw [List.foldl_cons, ih]; split <;> simp

@[simp] theorem State.deliverRail_chords (r) : (s.deliverRail r).chords = s.chords := by
  unfold State.deliverRail; split <;> rfl

@[simp] theorem State.railOn_chords (r) : (s.railOn r).chords = s.chords := by
  unfold State.railOn; dsimp only; split <;> simp

@[simp] theorem State.railOff_chords (r b) : (s.railOff r b).chords = s.chords := by
  unfold State.railOff; dsimp only; repeat' split
  all_goals simp

@[simp] theorem State.actionEffect_chords (c a) : (s.actionEffect c a).chords = s.chords := by
  unfold State.actionEffect; split <;> simp

@[simp] theorem State.perform_chords (c a) : (s.perform c a).chords = s.chords := by
  unfold State.perform; split <;> simp

@[simp] theorem State.reachStep_chords (c i) : (s.reachStep c i).chords = s.chords := by
  unfold State.reachStep; dsimp only; repeat' split
  all_goals simp

@[simp] theorem State.startRun_chords (c) : (s.startRun c).chords = s.chords := by
  unfold State.startRun; dsimp only; split <;> simp

@[simp] theorem State.setUp_chords (c h a n) : (s.setUp c h a n).chords = s.chords := by
  unfold State.setUp; simp

@[simp] theorem State.supervisorStart_chords (h b) : (s.supervisorStart h b).chords = s.chords := by
  unfold State.supervisorStart; dsimp only; split <;> simp

/-! ### Entries into a state (R69, R115) -/

/-- A change of state is published to the unit in its own step. -/
@[simp] theorem State.enter_chords (st sub) : (s.enter st sub).chords = s.chords.takePublication s.clock st sub := rfl

/-- Entry into RESTARTING is published, and stops the forced-off timer (R83, R115). -/
theorem State.enterRestarting_published (r o) :
    (s.enterRestarting r o).chords.published = .restarting ∧ ForcedOffStopped s (s.enterRestarting r o) := by
  unfold State.enterRestarting State.enterSequence ForcedOffStopped
  dsimp only
  split <;> simp [ChordUnit.takePublication_eq, ChordUnit.stopForcedOff_eq] <;> intro due h <;> simp [h]

/-- Entry into SHUTTING is published, and stops the forced-off timer (R87, R115). -/
theorem State.enterShutting_published (t h w) :
    (s.enterShutting t h w).chords.published = .shutting ∧ ForcedOffStopped s (s.enterShutting t h w) := by
  unfold State.enterShutting State.startOff ForcedOffStopped
  dsimp only
  split <;> simp [ChordUnit.takePublication_eq, ChordUnit.stopForcedOff_eq] <;> intro due h <;> simp [h]

end Sys2Proof.Machine
end

