-- ==== Sys2Proof/Laws/View.lean ====
section
/-! SUPPORT. The status region: its blocks follow one another within it (R170); every item of a block has its
bytes, in rising order (R168, R170); the unassigned region (R131); the port's evaluation of a rail (R138). -/

namespace Sys2Proof.Machine

open Sys2Proof

/-! ### Where the blocks stand -/

theorem statusLeast_step (k : Nat) (h : k < 10) : statusLeast k = statusRoom k + statusLeast (k + 1) := by
  match k, h with
  | 0, _ | 1, _ | 2, _ | 3, _ | 4, _ | 5, _ | 6, _ | 7, _ | 8, _ | 9, _ => rfl

theorem statusLeast_le (k : Nat) : statusLeast k ≤ 490 := by
  unfold statusLeast; split <;> omega

/-- Every block begins after the directory, with room for itself and the blocks after it. -/
theorem statusBlock_room (k : Nat) (h : k ≤ 10) : 0x0A14 ≤ statusBlock k ∧ statusBlock k + statusLeast k ≤ 0x0C00 := by
  induction k with
  | zero => have := statusLeast_le 0; simp only [statusBlock]; omega
  | succ k ih =>
    have := ih (by omega)
    have := statusLeast_step k (by omega)
    have := statusLeast_le (k + 1)
    simp only [statusBlock]
    omega

/-- The blocks follow one another in R170's order, each with the room held for it. -/
theorem statusBlock_step (k : Nat) (h : k < 10) : statusBlock k + statusRoom k ≤ statusBlock (k + 1) := by
  have := statusBlock_room k (by omega)
  have := statusLeast_step k h
  simp only [statusBlock]
  omega

/-! ### Where the items stand -/

theorem placesWhole_iff (start : Nat → Nat) (lengths : List Nat) (room : Nat) :
    placesWhole start lengths room = true ↔ ∀ i, i < lengths.length → start i + lengths.getD i 0 ≤ room ∧
      ∀ j, j < i → start j + lengths.getD j 0 ≤ start i ∨ start i + lengths.getD i 0 ≤ start j := by
  simp [placesWhole]

@[simp] theorem inOrder_length : ∀ (o : Nat) (l : List Nat), (inOrder o l).length = l.length
  | _, [] => rfl
  | o, n :: t => by simp [inOrder, inOrder_length]

/-- In order each item begins where those before it end. -/
theorem inOrder_getD : ∀ (o : Nat) (l : List Nat) (i : Nat), i < l.length → (inOrder o l).getD i 0 = o + (l.take i).sum
  | _, [], _, h => by simp at h
  | o, n :: t, 0, _ => by simp [inOrder]
  | o, n :: t, i + 1, h => by
    have := inOrder_getD (o + n) t i (by simpa using h)
    simp only [List.getD_eq_getElem?_getD] at this
    simp only [inOrder, List.getD_eq_getElem?_getD, List.getElem?_cons_succ, this, List.take_succ_cons, List.sum_cons]
    omega

theorem take_sum_le (l : List Nat) (i j : Nat) (h : j < i) : (l.take j).sum + l.getD j 0 ≤ (l.take i).sum := by
  induction l generalizing i j with
  | nil => simp
  | cons n t ih =>
    obtain ⟨i, rfl⟩ := Nat.exists_eq_succ_of_ne_zero (by omega : i ≠ 0)
    cases j with
    | zero => simp
    | succ j =>
      have := ih i j (by omega)
      simp only [List.getD_eq_getElem?_getD] at this
      simp only [Nat.succ_eq_add_one, List.take_succ_cons, List.sum_cons, List.getD_eq_getElem?_getD, List.getElem?_cons_succ]
      omega

@[simp] theorem statusStarts_length (k : Nat) (l : List Nat) (room : Nat) : (statusStarts k l room).length = l.length := by
  unfold statusStarts; split <;> simp

/-- Items that come to no more than the room stand in it whole, no two in one place. -/
theorem statusStarts_whole (k : Nat) (l : List Nat) (room : Nat) (h : l.sum ≤ room) :
    placesWhole (fun i => (statusStarts k l room).getD i 0) l room = true := by
  unfold statusStarts; split
  · rename_i p
    rw [placesWhole_iff] at p ⊢
    intro i hi
    have g (j : Nat) (hj : j < l.length) :
        ((List.range l.length).map (Config.statusPlace k l)).getD j 0 = Config.statusPlace k l j := by
      simp [hj]
    refine ⟨by rw [g i hi]; exact (p i hi).1, fun j hj => ?_⟩
    rw [g i hi, g j (by omega)]
    exact (p i hi).2 j hj
  · rw [placesWhole_iff]
    intro i hi
    have e := inOrder_getD 0 l i hi
    refine ⟨?_, fun j hj => .inl ?_⟩
    · rw [e]
      have := take_sum_le l l.length i hi
      rw [List.take_length] at this
      omega
    · rw [e, inOrder_getD 0 l j (by omega)]
      have := take_sum_le l i j hj
      omega

/-- At each offset of an item placed whole that item is found. -/
theorem find_placed (starts : List Nat) (items : List (List Byte)) (room : Nat) (hl : starts.length = items.length)
    (h : placesWhole (fun i => starts.getD i 0) (items.map List.length) room = true) (i o : Nat) (hi : i < items.length)
    (lo : starts[i]'(by omega) ≤ o) (hi' : o < starts[i]'(by omega) + items[i].length) :
    ((starts.zip items).find? fun x => decide (x.1 ≤ o ∧ o < x.1 + x.2.length)) = some (starts[i]'(by omega), items[i]) := by
  rw [placesWhole_iff] at h
  rw [List.find?_eq_some_iff_getElem]
  refine ⟨by simp; omega, i, by simp; omega, by simp, fun j hj => ?_⟩
  have := (h i (by simpa using hi)).2 j hj
  have hj' : j < items.length := by omega
  simp only [List.getD_eq_getElem?_getD, List.getElem?_map, List.getElem?_eq_getElem hj', List.getElem?_eq_getElem hi,
    List.getElem?_eq_getElem (show j < starts.length by omega), List.getElem?_eq_getElem (show i < starts.length by omega),
    Option.map_some, Option.getD_some] at this
  simp only [List.getElem_zip, Bool.not_eq_true', decide_eq_false_iff_not, not_and, not_lt]
  omega

/-! ### The items' lengths, which no state moves -/

@[simp] theorem item8_length (n : Nat) : (item8 n).length = 1 := rfl
@[simp] theorem item16_length (n : Nat) : (item16 n).length = 2 := rfl
@[simp] theorem item32_length (n : Nat) : (item32 n).length = 4 := rfl
@[simp] theorem itemInt_length (n : Int) : (itemInt n).length = 2 := rfl
@[simp] theorem setItem_length (n : Nat) (l : List Bool) : (setItem n l).length = n := by simp [setItem]

/-- Bit n of a mask is member n of the set (R168). -/
theorem maskOf_testBit : ∀ (l : List Bool) (n : Nat), (maskOf l).testBit n = l.getD n false
  | [], n => by simp [maskOf]
  | b :: t, 0 => by cases b <;> simp [maskOf, Nat.testBit_zero, Nat.add_mod]
  | b :: t, n + 1 => by
    have := maskOf_testBit t n
    have e : maskOf (b :: t) / 2 = maskOf t := by rw [maskOf]; split <;> omega
    rw [Nat.testBit_succ, e, this, List.getD_cons_succ]

@[simp] theorem markItem_length (b : Bool) : (markItem b).length = 1 := rfl
@[simp] theorem bytes32_length (w : DWord) : (bytes32 w).length = 4 := rfl
@[simp] theorem absent8_length : absent8.length = 1 := rfl
@[simp] theorem absent16_length : absent16.length = 2 := rfl
@[simp] theorem absent32_length : absent32.length = 4 := rfl
@[simp] theorem decidedItem_length (d : DecidedBy) : (decidedItem d).length = 1 := by cases d <;> rfl

theorem itemOr_length {α : Type} (n : Nat) (item : α → List Byte) (v : Option α) (h : ∀ x, (item x).length = n) :
    (itemOr n item v).length = n := by
  cases v <;> simp [itemOr, h]

@[simp] theorem itemOr_item8_length {α : Type} (f : α → Nat) (v : Option α) :
    (itemOr 1 (fun x => item8 (f x)) v).length = 1 := itemOr_length 1 _ v fun _ => rfl

@[simp] theorem itemOr_item16_length {α : Type} (f : α → Nat) (v : Option α) :
    (itemOr 2 (fun x => item16 (f x)) v).length = 2 := itemOr_length 2 _ v fun _ => rfl

@[simp] theorem itemOr_nat8_length (v : Option Nat) : (itemOr 1 item8 v).length = 1 := itemOr_length 1 _ v fun _ => rfl

@[simp] theorem itemOr_nat16_length (v : Option Nat) : (itemOr 2 item16 v).length = 2 := itemOr_length 2 _ v fun _ => rfl

@[simp] theorem itemOr_itemInt_length (v : Option Int) : (itemOr 2 itemInt v).length = 2 :=
  itemOr_length 2 _ v fun _ => rfl

@[simp] theorem itemOr_markItem_length {α : Type} (f : α → Bool) (v : Option α) :
    (itemOr 1 (fun x => markItem (f x)) v).length = 1 := itemOr_length 1 _ v fun _ => rfl

@[simp] theorem itemOr_bytes32_length (v : Option DWord) : (itemOr 4 bytes32 v).length = 4 :=
  itemOr_length 4 _ v fun _ => rfl

@[simp] theorem timeItem_length (t : Option Nat) : (timeItem t).length = 4 := itemOr_length 4 item32 t fun _ => rfl

theorem sweepRecordItems_lengths (r : Option SweepRecord) :
    (sweepRecordItems r).map List.length = [1, 1, 1, 1, 4, 2, 2, 2, 2] := by
  cases r <;> rfl

theorem pointItems_lengths (w : Option Sweep) : (pointItems w).map List.length = [1, 1] := by
  rcases w with _ | w
  · rfl
  · simp only [pointItems]; split <;> rfl

theorem measurementItem_length (w : Option Sweep) (k : Fin 4) : (measurementItem w k).length = 2 := by
  rcases w with _ | w
  · rfl
  · unfold measurementItem; simp only; split <;> rfl

theorem fanShown_lengths (f : FanShown) :
    f.items.map List.length = [4, 2, 2, 1, 2, 1, 1, 1, 1, 1, 1, 4, 2, 2, 2, 2] := by
  simp [FanShown.items, sweepRecordItems_lengths]

theorem flatMap_lengths {α : Type} (items : α → List (List Byte)) (lengths : List Nat)
    (h : ∀ x, (items x).map List.length = lengths) (l : List α) :
    (l.flatMap items).map List.length = (List.replicate l.length lengths).flatten := by
  induction l with
  | nil => rfl
  | cons x t ih => simp [h, ih, List.replicate_succ]

theorem zoneShown_lengths (z : ZoneShown) :
    z.items.map List.length = [2, 2, 2, 2, 2, 2, 2, 2, 2, 2, 1, 2, 2, 2] := by
  simp [ZoneShown.items]

theorem outcomeItems_lengths (o : Option (Fin 32 × EntryOutcome)) : (outcomeItems o).map List.length = [1, 1, 1, 4] := by
  cases o <;> simp [outcomeItems]

theorem runItems_lengths (k : Option Key) : (runItems k).map List.length = [1, 1] := by
  cases k <;> simp only [runItems] <;> (try split) <;> rfl

theorem codeItems_lengths (k : Option Key) : (codeItems k).map List.length = [1] := by
  cases k <;> simp only [codeItems] <;> (try split) <;> rfl

/-- A list has the same bytes, item by item, whole and packed. -/
theorem listItems_lengths {α : Type} (which n : Nat) (items : Option α → List (List Byte)) (lengths : List Nat)
    (h : ∀ v, (items v).map List.length = lengths) (l : List α) :
    (listItems which n items l).map List.length = (List.replicate n lengths).flatten := by
  have e := flatMap_lengths (fun j => items l[j]?) lengths (fun j => h _) (List.range n)
  rw [List.length_range] at e
  unfold listItems; dsimp only; split
  · exact e
  · rw [← e]
    apply List.ext_getElem <;> simp

/-- A list with a place for each of its members shows each of them whole. -/
theorem listItems_whole {α : Type} (which n : Nat) (items : Option α → List (List Byte)) (l : List α) (h : l.length ≤ n) :
    listItems which n items l = (List.range n).flatMap fun j => items l[j]? := if_pos h

/-- A list of more members stands packed, in the same bytes: byte j of place i is a free value of the items of all members. -/
theorem listItems_packed {α : Type} (which n : Nat) (items : Option α → List (List Byte)) (l : List α) (h : n < l.length)
    (i j : Nat) (place : List Byte) (hp : ((List.range n).flatMap fun j => items l[j]?)[i]? = some place)
    (hj : j < place.length) :
    ∃ b, (listItems which n items l)[i]? = some b ∧ b.length = place.length ∧
      b[j]? = some (Config.statusPacked which (l.flatMap fun x => items (some x)) i j) := by
  unfold listItems
  rw [if_neg (by omega)]
  exact ⟨_, by rw [List.getElem?_mapIdx, hp]; rfl, by simp, by simp [hj]⟩

/-- The items' lengths are the same in every state. (The channel block is laid out by 12.6.) -/
theorem statusItems_lengths (s : State) (k : Nat) :
    (s.statusItems k).map List.length = (State.reset.statusItems k).map List.length := by
  unfold State.statusItems
  split
  · simp [State.supItems, State.timerItems, Function.comp_def]
  · simp [State.zoneItems, flatMap_lengths _ _ zoneShown_lengths]
  · simp [State.gateItems]
  · simp [State.sensorItems, Function.comp_def]
  · simp [State.fanItems, flatMap_lengths _ _ fanShown_lengths, pointItems_lengths, measurementItem_length]
  · simp [State.railItems]
  · simp only [State.scheduleItems, List.map_append, List.map_map, Function.comp_def, item32_length, timeItem_length,
      listItems_lengths _ _ _ _ outcomeItems_lengths]
    simp
  · simp only [State.keypadItems, List.map_append, listItems_lengths _ _ _ _ runItems_lengths,
      listItems_lengths _ _ _ _ codeItems_lengths]
    simp
  · simp [State.chordItems, itemOr_length 1 _ _ fun _ => setItem_length 1 _]
  · rfl

/-- Each block has room for all of its items. -/
theorem statusItems_fit (s : State) (k : Nat) (h : k < 10) : ((s.statusItems k).map List.length).sum ≤ statusSize k := by
  rw [statusItems_lengths s k, statusSize]
  have := statusBlock_step k h
  have : ((State.reset.statusItems k).map List.length).sum ≤ statusRoom k := by
    match k, h with
    | 0, _ | 1, _ | 2, _ | 3, _ | 4, _ | 5, _ | 6, _ | 7, _ | 8, _ | 9, _ => decide +kernel
  omega

/-- Byte j of an item stands j bytes above the address at which the item begins (R168). -/
theorem State.blockByte_item (s : State) (k i j : Nat) (h : k < 10) (hk : k ≠ 6) (hi : i < (s.statusItems k).length)
    (hj : j < (s.statusItems k)[i].length) :
    s.blockByte k ((statusStarts k ((s.statusItems k).map List.length) (statusSize k)).getD i 0 + j)
      = (s.statusItems k)[i][j] := by
  have hs : i < (statusStarts k ((s.statusItems k).map List.length) (statusSize k)).length := by simpa using hi
  have e : (statusStarts k ((s.statusItems k).map List.length) (statusSize k)).getD i 0
      = (statusStarts k ((s.statusItems k).map List.length) (statusSize k))[i] := by
    rw [List.getD_eq_getElem?_getD, List.getElem?_eq_getElem hs, Option.getD_some]
  have f := find_placed _ (s.statusItems k) (statusSize k) (by simp)
    (statusStarts_whole k ((s.statusItems k).map List.length) (statusSize k) (statusItems_fit s k h))
    i ((statusStarts k ((s.statusItems k).map List.length) (statusSize k))[i] + j) hi (by omega) (by omega)
  simp only [State.blockByte, if_neg hk, e]
  rw [f]
  simp [byteOf, List.getElem?_eq_getElem hj]

/-- An offset within no item reads 0x00 (R131). -/
theorem State.blockByte_free (s : State) (k o : Nat) (hk : k ≠ 6)
    (h : ∀ (i : Nat) (hi : i < (s.statusItems k).length),
      let start := (statusStarts k ((s.statusItems k).map List.length) (statusSize k)).getD i 0
      o < start ∨ start + (s.statusItems k)[i].length ≤ o) : s.blockByte k o = 0#8 := by
  simp only [State.blockByte, if_neg hk]
  rw [List.find?_eq_none.2]
  intro x hx
  obtain ⟨i, hi, rfl⟩ := List.mem_iff_getElem.1 hx
  have hi' : i < (s.statusItems k).length := by simp at hi; omega
  have := h i hi'
  simp only [List.getD_eq_getElem?_getD] at this
  rw [List.getElem?_eq_getElem (by simpa using hi'), Option.getD_some] at this
  simp only [List.getElem_zip, decide_eq_true_eq]
  omega

/-! ### The unassigned region (R131) -/

/-- The unassigned region "reads 0x00" (R131), in every state. -/
theorem State.readByte_unassigned (s : State) (a : Nat) (h : 0x0E00 ≤ a) (h' : a < 0x1000) : s.readByte a = 0#8 := by
  unfold State.readByte
  repeat rw [if_neg (by omega)]
  rw [if_pos h']

/-! ### The port's evaluation of a rail (R138) -/

@[simp] theorem Link.evaluate_isOpen (l : Link) (r : Fin 6) (x : Rail) :
    (l.evaluate r x).isOpen = (x.commanded && x.good) := rfl

/-- A port that stays OPEN goes on with its transaction, and a FENCED one has none. -/
theorem Link.evaluate_transfer (l : Link) (r : Fin 6) (x : Rail) :
    (l.evaluate r x).transfer = if x.commanded && x.good then l.transfer else none := rfl

/-- A port that is FENCED serves no transaction. -/
theorem Link.serving_fenced (l : Link) (h : l.isOpen = false) : l.serving = none := by simp [Link.serving, h]

end Sys2Proof.Machine
end

