-- ==== Sys2Proof/Tests/Slice0.lean ====
section
/-! SUPPORT. Tests: the well-formedness checks, small cases with the expected results of the manual's worked examples, and
for every statement with hypotheses a witness, a concrete state that meets them, at the ends of its ranges. -/

namespace Sys2Proof.Tests

open Sys2Proof Sys2Proof.Machine Host

set_option Elab.async false

/-- The state a command leaves; the same state when it leaves none. -/
def after (c : Instr) (s : State) : State :=
  match exec c s with
  | .next t => t
  | _ => s

/-- A channel that gives a value. -/
def sensor (held : Int) : Sensor := { held := held, sampled := true, nextSample := some 250000 }

/-- A part at work, with nothing in the settings region: every periodic event of chapters 1, 2 and 5 is due. -/
def live : State := { State.reset with
  partState := .ready
  sensors := Vector.replicate 9 (sensor 320)
  nextPass := some 1000000
  fans := Vector.replicate 2 { nextUpdate := some 250000 }
  keypad := { nextScan := some 5000 } }

/-- The same part with some bytes of the exchange memory. -/
def live.with (m : Memory) : State := { live with mem := m }

/-- The same part with an OPEN port. -/
def opened : State := { live with link := { commanded := true, good := true } }

/-- The same part with a transaction begun, its status byte captured. -/
def selected : State := { opened with link := { opened.link with transfer := some { status := 1 } } }

/-- The rising edge of a chip select period, at once. -/
def rises : SelectEvent := { us := 0, moment := .rises }

/-- The same part with the supervisor as given. -/
def supervised (u : Sup) : State := { live with sup := u }

/-- The same part with channel c as given. -/
def channelled (c : Fin 4) (x : Channel) : State := { live with channels := put live.channels c x }

/-! ### Well-formedness: each check refuses an ill-formed command -/

theorem test_wf_bad_command : (Instr.badCommand { us := 0, moment := .rises } 0xA1#8 []).WellFormed = false := by decide

theorem test_wf_link_moment :
    (Instr.read { us := 0, moment := .falls } [1]).WellFormed = false ∧
    (Instr.read { us := 0, moment := .acts } [1]).WellFormed = false ∧
    (Instr.status { us := 0, moment := .acts } []).WellFormed = false ∧
    (Instr.read { us := 0, moment := .acts } [1, 2]).WellFormed = true := by decide

theorem test_wf_tick_ladder : (Instr.tickLadderEdit [1, 2] [1, 3]).WellFormed = false := by decide

theorem test_wf_posting :
    (Instr.reportPosting { kind := .key, subkind := 1, urgent := true, stamp := 0, source := 0, payload := {} }).WellFormed
      = false := by decide

theorem test_wf_collection : (Instr.collection [(3, 1), (3, 2)]).WellFormed = false := by decide

theorem test_wf_cold_mode : (Instr.s4ColdModeUpdate .ok 2001 true).WellFormed = false := by decide

theorem test_reset_memory : State.reset.mem.wf = true ∧ State.reset.nv.image.imageWf = true := by decide

theorem test_write_keeps_form : (Memory.write (Memory.write [] 0x3000 5) 0x3000 0) = [] := by decide

/-! ### The manual's worked examples -/

/-- 1.3.4, pass 2 of the table: e 16, p 40, I 16, d 41. -/
theorem test_zone_example :
    let cfg : ZoneCfg := { control := 1, plate := none, target := 160, release := 0, boostBelow := -400, plateLimit := 1440
                           failSafe := 300, rated := 300, ramp := 16, kp := 40, ki := 16, priority := 1, gating := true
                           fallback := 30 }
    let r := (zonePass cfg (sensor (-200)) false { setpoint := some (-200) }).2
    r.setpoint = some (-184) ∧ r.error = 16 ∧ r.proportional = 40 ∧ r.integrator = 16 ∧ r.demand = 41 := by decide

/-- 1.3.4, pass 4: the integrator is held by the short grant of pass 3. -/
theorem test_integrator_held :
    let cfg : ZoneCfg := { control := 1, plate := none, target := 160, release := 0, boostBelow := -400, plateLimit := 1440
                           failSafe := 300, rated := 300, ramp := 16, kp := 40, ki := 16, priority := 1, gating := true
                           fallback := 30 }
    let r := (zonePass cfg (sensor (-197)) false
      { setpoint := some (-168), integrator := 47, lastDemand := 79, lastGrant := 60 }).2
    r.proportional = 112 ∧ r.integrator = 47 ∧ r.demand = 114 := by decide

/-- 1.4.1: Td 16, margins 40 and -8. -/
theorem test_dew_example :
    let td := dewPoint (sensor 64) (sensor 85)
    td = 16 ∧ surfaceMargin (sensor 56) td = some 40 ∧ surfaceMargin (sensor 8) td = some (-8) := by decide

/-- 2.6.1: 702 tenths of a watt served in priority order. -/
theorem test_budget_example :
    serve #v[244, 248, 600] [0, 1, 2] 702 #v[0, 0, 0] = (#v[244, 248, 210], 0) ∧
    grantedDuty false 1000 600 600 210 = 350 := by decide

/-- 2.11.1: CLOGGED, worst point 3, deviation 110. -/
theorem test_sweep_example :
    let m : Memory := [(0x10B2, 80), (0x10B4, 120), (0x10B6, 0xB0), (0x10B7, 4), (0x10B8, 0x6C), (0x10B9, 7), (0x10BA, 0x60)
      , (0x10BB, 9), (0x10BC, 0xF0), (0x10BD, 10)]
    evaluateTest m 0 #v[1260, 2030, 2664, 3010] = (.clogged, 3, 110) := by decide +kernel

/-- 5.10, scan 9: with A, B, C and D closed, C and D complete a rectangle. -/
theorem test_ghost_example :
    let reading := BitVec.ofNat 64 (2 ^ 19 + 2 ^ 21 + 2 ^ 35 + 2 ^ 37)
    completesRectangle reading 35 = true ∧ completesRectangle reading 37 = true ∧
    completesRectangle (BitVec.ofNat 64 (2 ^ 21 + 2 ^ 35)) 35 = false := by decide +kernel

/-- 3.7: the beacon's first performance ends at 1 ms and binds the DELAY of 500 ms. -/
theorem test_beacon_example :
    let a : Action := { index := 30, next := 31, operation := 5, target := 3, argument := 0 }
    let s : State := { channelled 1 { state := .running, step := 30, repeatLeft := 5, runs := .left 2
                                      activity := .performing a 1000 } with
      mem := [(0x14F8, 2), (0x14F9, 32), (0x14FA, 0xF4), (0x14FB, 1)] }
    (after (.actionPerformanceEnd 1) s).channels[(1 : Fin 4)].activity = .boundDelay a 32 501000 := by decide +kernel

/-- 10.3, at 1.000 s: the number 101 in cell 0 and the coalesce timer started, here for the shortest time. -/
theorem test_pool_example :
    let s := after (.reportPosting { kind := .key, subkind := 1, urgent := false, stamp := 0, source := 0, payload := {} })
      { live with pool := { generator := 101 }, clock := 1000000 }
    s.pool.order = [0] ∧ s.pool.newest = 101 ∧ s.pool.generator = 102 ∧ s.pool.coalesceTimer = some 1010000 := by
  decide +kernel

/-- 2.8.1, at 3.00 s, with a limit of 1 s: the first late try, counted and reported. -/
theorem test_late_spin_up :
    let s : State := { live with fans := put live.fans 1 { state := .spinningUp, spinLimit := some 3000000 } }
    let t := after (.spinUpLimitExpiry 1) s
    t.fans[(1 : Fin 2)].lateTries = 1 ∧ t.fans[(1 : Fin 2)].spinLimit = some 4000000 ∧ t.transit.length = 2 := by
  decide +kernel

/-- 6.4: a progress of 875 lights 7 of the row's 8 positions. -/
theorem test_progress_bar :
    let s : State := { live with mem := [(0x18C4, 9)], chords := { published := .warming, progress := 875 } }
    s.light 6 = 9 ∧ s.light 7 = 0 := by decide +kernel

/-- 9.6, at 5: a changed toggle of a taken slot is an overpost, and the slot keeps its request. -/
theorem test_overpost :
    let r : Request := { kind := 7, args := {}, toggle := 1 }
    let s : State := { selected with mem := [(0x121, 1)], slots := put opened.slots 1 { taken := some r } }
    let t := after (.write rises [0x01, 0x21, 0]) s
    t.transit.head? = some (.deskOverpost 1) ∧ t.slots[(1 : Fin 8)].taken = some r := by decide +kernel

/-- 11.6: a reset while the store is in progress, before its erase and after it. -/
theorem test_store_cut_short :
    let s (eraseAt : Nat) : State := { live with
      nv := { image := [], crc := 0, valid := true, count := 41 }, store := .storing 0 [] 7 eraseAt }
    let reset (eraseAt : Nat) := (after (.powerOnReset { us := 2000, held := false } 0) (s eraseAt)).nv
    (reset 2001).valid = true ∧ (reset 2001).count = 41 ∧ (reset 2000).valid = false ∧ (reset 2000).count = 42 := by
  decide +kernel

/-! ### Witnesses: queue, start-up and sensors -/

theorem witness_StepRunsFront :
    ({ live with pending := [.ageTick] } : State).pending = .ageTick :: [] ∧ live.pending = [] ∧ live.transit = [] ∧
    ({ live with transit := [.gateRearm] } : State).transit = .gateRearm :: [] := by decide

theorem witness_PowerOnReset : ({ live with resetHeld := true } : State).resetHeld = true ∧ live.resetHeld = false := by
  decide

/-- The state whose stored image matches: its CRC is the image's. -/
def stored : State := { State.reset with nv := { image := [], crc := imageCrc [], valid := true, count := 1 } }

theorem witness_StartUpLoad :
    (State.reset.partState = .starting ∧ State.reset.resetHeld = false ∧ State.reset.nv.image.imageWf = true ∧
      State.reset.pool = {} ∧ ¬ (State.reset.nv.valid = true)) ∧
    (stored.partState = .starting ∧ stored.resetHeld = false ∧ stored.nv.image.imageWf = true ∧ stored.nv.valid = true ∧
      imageCrc stored.nv.image = stored.nv.crc) := by
  exact ⟨by decide, by decide, by decide, by decide, by decide, by simp only [stored]⟩

/-- One channel in a state with its invalid run. -/
def sampling (c : Sensor) : State := { live with sensors := put live.sensors 4 { c with nextSample := some 250000 } }

theorem witness_InvalidSample :
    (sampling { invalidRun := 3 }).sensors[(4 : Fin 9)].nextSample = some 250000 ∧
    (¬ inSpan 4 (-881) ∧ ¬ inSpan 4 2001 ∧ ¬ inSpan 8 (-1) ∧ ¬ inSpan 8 101) ∧
    (after (.sensorSample 4 (some 2001)) (sampling { invalidRun := 2 })).sensors[(4 : Fin 9)].state = .ok ∧
    (after (.sensorSample 4 none) (sampling { invalidRun := 3 })).sensors[(4 : Fin 9)].state = .holding ∧
    (after (.sensorSample 4 none) (sampling { state := .holding, invalidRun := 38 })).sensors[(4 : Fin 9)].state = .holding ∧
    (after (.sensorSample 4 (some (-881))) (sampling { state := .holding, invalidRun := 39 })).sensors[(4 : Fin 9)].state
      = .failed ∧
    (after (.sensorSample 4 none) (sampling { state := .failed, invalidRun := 40 })).sensors[(4 : Fin 9)].state = .failed := by
  refine ⟨by decide, by unfold inSpan; decide, ?_⟩
  decide +kernel

theorem witness_ValidSample :
    (inSpan 4 (-880) ∧ inSpan 4 2000 ∧ inSpan 8 0 ∧ inSpan 8 100) ∧
    (sampling {}).sensors[(4 : Fin 9)].nextSample = some 250000 ∧
    (after (.sensorSample 4 (some 7)) (sampling {})).sensors[(4 : Fin 9)].held = 7 ∧
    (after (.sensorSample 4 (some 7)) (sampling { state := .failed, validRun := 6 })).sensors[(4 : Fin 9)].state = .failed ∧
    (after (.sensorSample 4 (some 7)) (sampling { state := .failed, validRun := 7 })).sensors[(4 : Fin 9)].state = .ok ∧
    (after (.sensorSample 4 (some 7)) (sampling { state := .holding, validRun := 7 })).sensors[(4 : Fin 9)].sampled = true := by
  refine ⟨by unfold inSpan; decide, by decide, ?_⟩
  decide +kernel

/-- With a cold threshold of -160: -161, -160, -129 and -128 (R94's bounds). -/
theorem witness_ColdModeFollowsS4 :
    let s : State := { live with mem := [(0x1984, 0x60), (0x1985, 0xFF)] }
    let cold : State := { s with keypad := { s.keypad with coldMode := true } }
    let mode (held : Int) (s : State) := (after (.s4ColdModeUpdate .ok held true) s).keypad.coldMode
    mode (-161) s = true ∧ mode (-160) s = false ∧ mode (-160) cold = true ∧ mode (-129) cold = true ∧
    mode (-128) cold = false ∧ (after (.s4ColdModeUpdate .failed (-128) true) cold).keypad.coldMode = true := by
  decide +kernel

/-! ### Witnesses: the climate pass -/

/-- Zone 0: control S0, plate S5 at 1440, target 160, boost threshold -400, fail-safe 300, 40.0 W, ramp 16, Kp 40, Ki 16,
gating. -/
def zonal : Memory :=
  [(0x1001, 5), (0x1002, 0xA0), (0x1006, 0x70), (0x1007, 0xFE), (0x1008, 0xA0), (0x1009, 5), (0x100A, 0x2C), (0x100B, 1),
    (0x100C, 0x90), (0x100D, 1), (0x100E, 16), (0x100F, 40), (0x1010, 16), (0x1012, 1), (0x1080, 0xE8), (0x1081, 3)]

/-- The part at work with zone 0's record and control sensor as given, no re-arm pending. -/
def heating (z : Zone) (c : Sensor) : State := { live.with zonal with
  zones := put live.zones 0 z, sensors := put live.sensors 0 c, gate := { rearmPending := false } }

/-- Zone 0 after a pass. -/
def zoneAfter (s : State) : Zone := (after (.climatePass false) s).zones[(0 : Fin 3)]

theorem witness_ZoneDemand :
    live.nextPass = some 1000000 ∧ (zoneCfg zonal 1).rated = 0 ∧ (zoneCfg zonal 0).rated = 400 ∧
    (zoneAfter (heating { override := some { duty := 7, remaining := 1 } } (sensor 0))).lastDemand = 7 ∧
    (zoneAfter (heating { override := some { duty := 7, remaining := 1 } } (sensor 0))).override = none ∧
    (zoneAfter (heating { boost := 1 } (sensor 0))).lastDemand = 1000 ∧
    (zoneAfter (heating {} { state := .failed, sampled := true })).lastDemand = 300 ∧
    (zoneAfter (heating {} (sensor (-401)))).lastDemand = 1000 ∧
    (zoneAfter (heating {} (sensor (-400)))).lastDemand = 0 ∧
    (zoneAfter (heating { setpoint := some 0 } (sensor 0))).setpoint = some 16 ∧
    (zoneAfter (heating { setpoint := some 150 } (sensor 0))).setpoint = some 160 ∧
    (zoneAfter (heating { lastDemand := 1000, integrator := 5, setpoint := some 0 } (sensor 0))).integrator = 5 ∧
    (zoneAfter (heating { lastDemand := 999, lastGrant := 999, integrator := 5, setpoint := some 0 } (sensor 0))).integrator
      = 21 := by decide +kernel

/-- Air 64 and humidity as given, the board and the glass as given, a minimum margin of 32, seconds since re-arm. -/
def damp (air hum : Sensor) (board glass : Int) (since : Nat) : State := { live.with [(0x1060, 32)] with
  sensors := put (put (put (put live.sensors 0 air) 8 hum) 1 (sensor board)) 2 (sensor glass)
  gate := { rearmPending := false, sinceRearm := since } }

/-- The outcome of the dew check of a pass. -/
def dewMet (s : State) : Bool := (after (.climatePass false) s).shown.gate.dewMet

theorem witness_DewCheck :
    live.nextPass = some 1000000 ∧ ¬ ({ state := .failed, sampled := true } : Sensor).Live ∧ (sensor 64).Live ∧
    dewMet (damp (sensor 64) (sensor 85) 48 48 0) = true ∧ dewMet (damp (sensor 64) (sensor 85) 48 47 0) = false ∧
    dewMet (damp (sensor 64) (sensor 49) (-65) 0 0) = true ∧ dewMet (damp (sensor 64) (sensor 50) (-65) 0 0) = false ∧
    dewMet (damp {} (sensor 85) 0 0 58) = false ∧ dewMet (damp {} (sensor 85) 0 0 59) = true := by decide +kernel

/-- A gate with the conditions met (dry air) or not, a soak time and a limit policy. -/
def gated (g : Gate) (met : Bool) (soak policy : Byte) : State := { live.with
    ((if soak = 0 then [] else [(0x1063, soak)]) ++ (if policy = 0 then [] else [(0x1066, policy)])) with
  sensors := put live.sensors 8 (if met then sensor 40 else sensor 100)
  gate := g }

/-- The gate's state after a pass. -/
def gateAfter (s : State) : GateState := (after (.climatePass false) s).gate.state

theorem witness_GateMoves :
    live.nextPass = some 1000000 ∧
    gateAfter (gated {} true 5 0) = .opened ∧ gateAfter (gated { state := .opened } false 5 0) = .opened ∧
    gateAfter (gated { rearmPending := false } true 0 0) = .opened ∧
    gateAfter (gated { rearmPending := false } true 5 0) = .soaking ∧
    gateAfter (gated { rearmPending := false, state := .soaking, soakRemaining := some 2 } true 5 0) = .soaking ∧
    let last := gated { rearmPending := false, state := .soaking, soakRemaining := some 1 } true 5 0
    gateAfter last = .opened ∧ (after (.climatePass false) last).gate.soakRemaining = none := by decide +kernel

/-- The reports of a re-arm that opens, of an entry into SOAKING and of a limit under RELEASE ANYWAY, and T0 at a re-arm. -/
theorem witness_GateMoves_reports :
    let kinds (s : State) := (after (.climatePass false) s).transit.filterMap fun c => match c with
      | .reportPosting r => some (r.kind, r.subkind, r.urgent, r.payload.w1)
      | _ => none
    kinds (gated {} true 5 0) = [(.warmUp, 3, false, 1000)] ∧
    kinds (gated { rearmPending := false } true 5 0) = [(.warmUp, 1, false, 1000)] ∧
    kinds { gated { rearmPending := false, state := .soaking, soakRemaining := some 9, sinceRearm := 59 } false 5 1 with
      sensors := put (put live.sensors 8 (sensor 100)) 1 (sensor 0) }
      = [(.warmUp, 2, false, 1000), (.warmUpLimit, 0, true, 1000), (.warmUp, 3, false, 1000)] ∧
    (zoneAfter { heating {} (sensor 5) with gate := {} }).rearmTemp = some 5 ∧
    (zoneAfter { heating { rearmTemp := some 7 } {} with gate := {} }).rearmTemp = none := by
  decide +kernel

/-- The limit of one minute: 58 and 59 seconds before the pass, under STAY COLD and RELEASE ANYWAY. -/
theorem witness_GateMoves_limit :
    let cold (g : Gate) (policy : Byte) : State := { gated g false 5 policy with
      sensors := put (put live.sensors 8 (sensor 100)) 1 {} }
    gateAfter (cold { rearmPending := false } 1) = .closed ∧
    gateAfter (cold { rearmPending := false, state := .soaking, soakRemaining := some 9 } 0) = .closed ∧
    gateAfter (cold { rearmPending := false, sinceRearm := 58, limitExpired := false } 1) = .closed ∧
    (after (.climatePass false) (cold { rearmPending := false, sinceRearm := 58 } 0)).gate.limitExpired = false ∧
    (after (.climatePass false) (gated { rearmPending := false, sinceRearm := 59 } true 5 0)).gate.limitExpired = true ∧
    gateAfter (gated { rearmPending := false, sinceRearm := 59 } true 5 1) = .opened ∧
    let soaking : Gate := { rearmPending := false, state := .soaking, soakRemaining := some 9, sinceRearm := 59 }
    (after (.climatePass false) (gated soaking true 5 0)).gate.limitExpired = true ∧
    gateAfter (gated soaking true 5 0) = .soaking ∧ gateAfter (gated soaking true 5 1) = .opened ∧
    let wet : State := { gated soaking false 5 0 with sensors := put (put live.sensors 8 (sensor 100)) 1 (sensor 0) }
    (after (.climatePass false) wet).gate.limitExpired = true ∧ gateAfter wet = .closed := by decide +kernel

theorem witness_GrantsWithinBudget :
    let s := heating { boost := 2 } (sensor 0)
    let grant (low : Bool) (s : State) := (after (.climatePass low) s).shown.zones[(0 : Fin 3)].grant
    s.nextPass = some 1000000 ∧ grant false s = 400 ∧ grant true s = 0 ∧
    (after (.climatePass false) { s with sensors := put s.sensors 5 {} }).budget.tripped[(0 : Fin 3)] = true ∧
    (zoneAfter { s with mem := [(0x100C, 0x90), (0x100D, 1), (0x1080, 100)] }).lastGrant = 250 := by decide +kernel

theorem witness_InterlocksAndWindows :
    let plate (held : Int) (was : Bool) := (after (.climatePass false) { heating { boost := 2 } (sensor 0) with
      sensors := put live.sensors 5 (sensor held), budget := { tripped := put live.budget.tripped 0 was } })
    let heater (d : Nat) := (after (.climatePass false)
      (heating { override := some { duty := d, remaining := 2 } } (sensor 0))).heaters[(0 : Fin 3)]
    (zoneCfg zonal 0).plate = some 5 ∧ (zoneCfg zonal 1).plate = none ∧
    (plate 1440 false).budget.tripped[(0 : Fin 3)] = true ∧ (plate 1439 false).budget.tripped[(0 : Fin 3)] = false ∧
    (plate 1361 true).budget.tripped[(0 : Fin 3)] = true ∧ (plate 1360 true).budget.tripped[(0 : Fin 3)] = false ∧
    heater 0 = { on := false, offAt := none } ∧ heater 1 = { on := true, offAt := some 1001000 } ∧
    heater 999 = { on := true, offAt := some 1999000 } ∧ heater 1000 = { on := true, offAt := none } := by decide +kernel

theorem witness_InterlocksAndWindows_episode :
    let pass (low : Bool) (b : Budget) := (after (.climatePass low) { heating { boost := 2 } (sensor 0) with budget := b })
    (pass true { shortRun := 28 }).budget.inEpisode = false ∧ (pass true { shortRun := 29 }).budget.inEpisode = true ∧
    (pass false { shortRun := 29 }).budget.shortRun = 0 ∧
    (pass false { inEpisode := true, clearRun := 28 }).budget.inEpisode = true ∧
    (pass false { inEpisode := true, clearRun := 29 }).budget.inEpisode = false ∧
    (pass true { inEpisode := true, clearRun := 29 }).budget.clearRun = 0 := by decide +kernel

theorem witness_FanDemands :
    let pass (air : Int) (x : Fan) := (after (.climatePass false) { live.with [(0x10C8, 0x90), (0x10C9, 1)] with
      sensors := put live.sensors 0 (sensor air), fans := put live.fans 1 x, gate := { rearmPending := false } })
    live.nextPass = some 1000000 ∧ live.sweep = none ∧
    (pass 0 {}).fans[(1 : Fin 2)].demand = 400 ∧ (pass 1 {}).fans[(1 : Fin 2)].demand = 0 ∧
    (pass 0 {}).fans[(1 : Fin 2)].state = .spinningUp ∧ (pass 1 {}).fans[(1 : Fin 2)].state = .resting ∧
    (pass 1 { state := .running, restCount := 8 }).fans[(1 : Fin 2)].state = .running ∧
    (pass 1 { state := .running, restCount := 9 }).fans[(1 : Fin 2)].state = .resting ∧
    (pass 0 { state := .running, restCount := 9 }).fans[(1 : Fin 2)].restCount = 0 ∧
    (pass 0 { state := .failed }).fans[(1 : Fin 2)].state = .failed := by decide +kernel

/-- A sweep at the abort's limit of cabinet air and one above it. -/
theorem witness_FanDemands_abort :
    let w : Sweep := { fan := 1, mode := .test, starter := .chord, slot := some 2, wasFailed := false, point := 2
                       phase := .measuring [], measured := Vector.replicate 4 700 }
    let pass (air : Int) := after (.climatePass false) { live with
      sensors := put live.sensors 0 (sensor air), fans := put live.fans 1 { state := .sweeping }, sweep := some w }
    (pass 160).sweep = some w ∧ (pass 160).fans[(1 : Fin 2)].state = .sweeping ∧ (pass 161).sweep = none ∧
    (pass 161).fans[(1 : Fin 2)].state = .running ∧
    (pass 161).fans[(1 : Fin 2)].lastResult.map (fun r => r.result) = some .aborted ∧
    .deskAnswer 2 .failed { w0 := 6 } ∈ (pass 161).transit := by decide +kernel

theorem witness_PassEnd :
    let chords : ChordUnit := { rearmAwaited := true }
    live.nextPass = some 1000000 ∧ live.chords.rearmAwaited = false ∧ live.gate.rearmPending = true ∧
    (after (.climatePass false) { live with chords := chords }).chords.rearmAwaited = false ∧
    (after (.climatePass false) { live with chords := chords, gate := { rearmPending := false } }).chords = chords := by
  decide +kernel

theorem witness_ClimateRequests :
    let s : State := { live with heaters := put live.heaters 2 { on := true, offAt := some 1500000 } }
    let boosted (n : Word) (s : State) := (after (.boostRequest (.zone 2) n) s).zones[(2 : Fin 3)].boost
    s.heaters[(2 : Fin 3)].offAt = some 1500000 ∧ boosted 65535 live = 65535 ∧
    boosted 1 { live with zones := put live.zones 2 { boost := 9 } } = 9 ∧
    boosted 0 { live with zones := put live.zones 2 { boost := 9 } } = 0 ∧
    (after (.boostRequest (.zone 3) 1) live).lastRefusal = some .badArgument ∧
    ((2 : Word).toNat < 3 ∧ (1000 : Word).toNat ≤ 1000 ∧ (1 : Word).toNat ≤ 1) ∧
    (after (.climateOverride 0 2 1000 65535) live).zones[(2 : Fin 3)].override
      = some { duty := 1000, remaining := 65535 } := by decide +kernel

/-! ### Witnesses: fans and sweeps -/

/-- Fan 0 in a state with its two most recent pulses, at a moment. -/
def spinning (x : Fan) (now a b : Nat) : State := { live with
  clock := now, fans := put live.fans 0 { x with lastPulse := some a, pulseBefore := some b, nextUpdate := some 250000 } }

theorem witness_TachometerRpm :
    let rpm (s : State) := (after (.tachometerUpdate 0) s).fans[(0 : Fin 2)].rpm
    (spinning {} 600000 100000 50000).fans[(0 : Fin 2)].nextUpdate = some 250000 ∧
    (spinning {} 600000 100000 50000).fans[(0 : Fin 2)].lastPulse = some 100000 ∧
    (spinning {} 600000 100000 50000).fans[(0 : Fin 2)].pulseBefore = some 50000 ∧ live.fans[(0 : Fin 2)].lastPulse = none ∧
    rpm (spinning {} 600000 100000 50000) = 600 ∧ rpm (spinning {} 600001 100000 50000) = 0 ∧
    rpm (spinning {} 600000 599999 599998) = 65535 ∧ rpm live = 0 := by decide +kernel

/-- A sweep of fan 0. -/
def sweeping (mode : SweepMode) (point : Fin 4) (phase : SweepPhase) : Sweep :=
  { fan := 0, mode := mode, starter := .desk, slot := some 3, wasFailed := false, point := point, phase := phase
    measured := #v[1260, 2030, 2664, 0] }

theorem witness_SpinUps :
    let x : Fan := { state := .spinningUp, spinLimit := some 3000000 }
    let late (n : Nat) : State := { live with fans := put live.fans 0 { x with lateTries := n } }
    let w := sweeping .test 0 .spinningUp
    let s : State := { spinning { x with sweepPending := true } 600000 600000 300000 with sweep := some w }
    (spinning x 600000 600000 300000).fans[(0 : Fin 2)].state = .spinningUp ∧
    (spinning x 600000 600000 300000).fans[(0 : Fin 2)].nextUpdate = some 250000 ∧
    (after (.tachometerUpdate 0) (spinning x 600000 600000 300000)).fans[(0 : Fin 2)].state = .running ∧
    (after (.tachometerUpdate 0) (spinning x 610000 610000 306969)).fans[(0 : Fin 2)].state = .spinningUp ∧
    s.sweep = some w ∧ w.fan = 0 ∧ (after (.tachometerUpdate 0) s).fans[(0 : Fin 2)].state = .sweeping ∧
    (late 1).fans[(0 : Fin 2)].spinLimit = some 3000000 ∧
    (after (.spinUpLimitExpiry 0) (late 1)).fans[(0 : Fin 2)].state = .spinningUp ∧
    (after (.spinUpLimitExpiry 0) (late 2)).fans[(0 : Fin 2)].state = .failed ∧
    let swept := after (.spinUpLimitExpiry 0) { live with
      fans := put live.fans 0 { x with lateTries := 2, sweepPending := true }, sweep := some w }
    let again := after (.spinUpLimitExpiry 0) { live with
      fans := put live.fans 0 { x with lateTries := 2, sweepPending := true }, sweep := some { w with wasFailed := true } }
    swept.sweep = none ∧ swept.transit.getLast? = some (.deskAnswer 3 .done { w0 := 2 }) ∧ swept.transit.length = 5 ∧
    again.fans[(0 : Fin 2)].state = .failed ∧ again.transit.length = 3 ∧
    .counterIncrement (.fanFailures 0) ∉ again.transit := by decide +kernel

/-- Fan 0 in SWEEPING for a sweep in its measuring phase, its last pulses 10 ms apart: 3000 RPM. -/
def measuring (w : Sweep) : State := { spinning { state := .sweeping } 600000 600000 590000 with sweep := some w }

theorem witness_SweepPoint :
    let s := measuring (sweeping .test 2 (.measuring [3000, 3000, 3000]))
    (measuring (sweeping .test 0 (.settling 3000000))).sweep = some (sweeping .test 0 (.settling 3000000)) ∧
    (after .sweepSettleEnd (measuring (sweeping .test 0 (.settling 3000000)))).clock = 3000000 ∧
    s.fans[(0 : Fin 2)].state = .sweeping ∧ s.fans[(0 : Fin 2)].nextUpdate = some 250000 ∧
    (after (.tachometerUpdate 0) s).sweep.map (fun w => w.point) = some 3 ∧
    (after (.tachometerUpdate 0) (measuring (sweeping .test 2 (.measuring [1, 2])))).sweep.map (fun w => w.phase)
      = some (.measuring [1, 2, 3000]) ∧
    (after (.tachometerUpdate 0) (measuring (sweeping .test 3 (.measuring [1, 2, 3])))).sweep = none := by decide +kernel

theorem witness_TestSweepResult :
    let w := sweeping .test 3 (.measuring [3000, 3000, 3000])
    let s : State := { measuring w with mem := [(0x10B2, 80), (0x10B4, 120), (0x10B6, 0xB0), (0x10B7, 4), (0x10B8, 0x6C)
      , (0x10B9, 7), (0x10BA, 0x60), (0x10BB, 9), (0x10BC, 0xF0), (0x10BD, 10)] }
    let result (s : State) := (after (.tachometerUpdate 0) s).fans[(0 : Fin 2)].lastResult.map fun r => (r.result, r.worst)
    (s.sweep = some w ∧ w.mode = .test ∧ w.phase = .measuring [3000, 3000, 3000] ∧ w.point = 3 ∧
      s.fans[w.fan].state = .sweeping ∧ s.fans[w.fan].nextUpdate = some 250000) ∧
    result s = some (.clogged, 3) ∧ result (measuring w) = some (.noReference, 0) ∧
    (after (.tachometerUpdate 0) s).transit.getLast?
      = some (.deskAnswer 3 .done { w0 := 3, w1 := 3, w2 := 110, w3 := 2664 }) := by decide +kernel

theorem witness_RecordSweepResult :
    let w := sweeping .record 3 (.measuring [3000, 3000, 3000])
    let stalled : Sweep := { w with measured := #v[0, 1, 1, 0] }
    let s := measuring w
    (s.sweep = some w ∧ w.mode = .record ∧ w.phase = .measuring [3000, 3000, 3000] ∧ w.point = 3 ∧
      s.fans[w.fan].state = .sweeping ∧ s.fans[w.fan].nextUpdate = some 250000) ∧
    (after (.tachometerUpdate 0) s).mem.read16 (referenceAddr 0 3) = 3000#16 ∧
    (after (.tachometerUpdate 0) (measuring stalled)).mem = [] ∧
    (after (.tachometerUpdate 0) (measuring stalled)).fans[(0 : Fin 2)].state = .resting := by decide +kernel

theorem witness_FanSweepStart :
    let fan (x : FanState) : State := { live with
      sensors := put live.sensors 0 {}, fans := put live.fans 0 { state := x }, gate := { state := .opened } }
    let busy : State := { fan .running with sweep := some (sweeping .test 0 .spinningUp) }
    let hot (t : Int) : State := { fan .running with sensors := put live.sensors 0 (sensor t) }
    let ends (c : AnswerCode) (s : State) := decide ((after (.fanSweep 3 0 1) s).transit = [.deskAnswer 3 c {}])
    (1 : Word).toNat < 2 ∧ (0 : Word).toNat < 2 ∧ ends .busy busy = true ∧ ends .wrongState (hot 161) = true ∧
    ends .wrongState (hot 160) = false ∧
    ends .busy { fan .running with store := .reloading 2 } = true ∧
    (after (.fanSweep 3 0 1) (fan .running)).fans[(0 : Fin 2)].state = .sweeping ∧
    (after (.fanSweep 3 0 1) (fan .failed)).fans[(0 : Fin 2)].state = .spinningUp ∧
    (after (.fanSweep 3 1 1) live).transit = [.deskAnswer 3 .wrongState {}] := by decide +kernel

/-! ### Witnesses: sequencer -/

/-- Step 1 is an ACTION that releases PNL, step 2 a DELAY of 7 ms, step 3 a WAIT for RAIL4 good of 9 ms; head 2 begins at 3;
the host rail mask is RAIL0. -/
def steps : Memory :=
  [(0x10E0, 1), (0x1110, 3), (0x1111, 0x10), (0x1112, 1), (0x1113, 0xFF), (0x1408, 1), (0x140A, 4), (0x140B, 2), (0x1410, 2)
  , (0x1412, 7), (0x1418, 3), (0x141A, 4), (0x141B, 1), (0x141C, 9)]

/-- Channel 1 doing something, with a repeat left. -/
def busy (a : Activity) (left : Nat) : State := { channelled 1
    { state := .running, sequence := 2, mask := 0x10, repeatLeft := left, runs := .left 1, starter := some .desk
      activity := a } with mem := steps }

/-- The action of step 1, with a next index. -/
def act (next : Byte) : Action := { index := 1, next := next, operation := 4, target := 2, argument := 0 }

/-- Channel 1 after a command. -/
def chan (c : Instr) (s : State) : Channel := (after c s).channels[(1 : Fin 4)]

theorem witness_StepTimersEnd :
    (busy (.delay 3 5000) 0).channels[(1 : Fin 4)].activity = .delay 3 5000 ∧
    (chan (.delayEnd 1) (busy (.delay 3 5000) 0)).activity = .wait 4 true 0 14000 ∧
    (chan (.delayEnd 1) (busy (.delay 0 5000) 0)).state = .finished ∧
    (chan (.delayEnd 1) (busy (.boundDelay (act 2) 3 5000) 1)).activity = .performing (act 2) 6000 ∧
    (chan (.delayEnd 1) (busy (.boundDelay (act 2) 3 5000) 0)).state = .waiting ∧
    (chan (.waitMatchedComplete 1) (busy (.matchedWait 2 5000) 0)).activity = .delay 0 12000 ∧
    (chan (.waitTimeout 1) (busy (.wait 4 true 2 5000) 0)).fault = some .waitTimeout := by decide +kernel

theorem witness_PerformanceEnds :
    (busy (.performing (act 2) 5000) 1).channels[(1 : Fin 4)].activity = .performing (act 2) 5000 ∧
    (chan (.actionPerformanceEnd 1) (busy (.performing (act 2) 5000) 0)).activity = .boundDelay (act 2) 0 12000 ∧
    (chan (.actionPerformanceEnd 1) (busy (.performing (act 3) 5000) 1)).activity = .performing (act 3) 6000 ∧
    (chan (.actionPerformanceEnd 1) (busy (.performing (act 3) 5000) 0)).state = .waiting ∧
    (chan (.actionPerformanceEnd 1) (busy (.performing (act 128) 5000) 0)).fault = some .badStep := by decide +kernel

theorem witness_PgChange :
    let s := busy (.wait 4 true 2 5000) 0
    let on : State := { s with rails := put s.rails 5 { commanded := true, good := true, watched := true } }
    s.rails[(4 : Fin 6)].good = false ∧ (hostMask s.mem).getLsbD 5 = false ∧ on.rails[(5 : Fin 6)].good = true ∧
    s.channels[(1 : Fin 4)].activity = .wait 4 true 2 5000 ∧ s.channels[(2 : Fin 4)].activity = .none ∧
    (chan (.pgChange 10 4 true) s).activity = .delay 0 7010 ∧
    (after (.pgChange 10 5 false) on).transit.length = 2 ∧
    (after (.pgChange 10 4 false) s).rails = s.rails := by decide +kernel

/-- A drop of a host rail, in RUNNING and in SHUTTING. -/
theorem witness_PgChange_host :
    let s (u : SupState) : State := { supervised { state := u } with
      mem := [(0x10E0, 1)], rails := put live.rails 0 { commanded := true, good := true, watched := true }
      link := { commanded := true, good := true } }
    let t (u : SupState) := after (.pgChange 1 0 false) (s u)
    (s .running).rails[(0 : Fin 6)].watched = true ∧ (hostMask (s .running).mem).getLsbD 0 = true ∧
    (t .running).sup.state = .restarting ∧ (t .shutting).sup.state = .shutting ∧ (t .shutting).transit.length = 2 ∧
    (t .shutting).link.isOpen = false := by decide +kernel

theorem witness_ChannelRequests :
    let s := live.with steps
    let full : State := { s with channels := Vector.replicate 4 { state := .running } }
    let shared := busy (.delay 3 5000) 0
    (15 : Word).toNat < 16 ∧ (1 : Fin 4).val = (1 : Word).toNat ∧
    (chan (.startSequence 0 2) s).activity = .wait 4 true 0 9000 ∧ (chan (.startSequence 0 15) s).fault = some .badStep ∧
    (after (.startSequence 0 2) full).transit = [.deskAnswer 0 .noChannel {}] ∧
    (after (.startSequence 0 2) shared).transit = [.deskAnswer 0 .conflict {}] ∧
    (chan (.stopChannel 0 1) shared).state = .aborted ∧
    (after (.stopChannel 0 1) s).transit = [.deskAnswer 0 .done { w0 := 0 }] := by decide +kernel

theorem witness_HostMaskEdit :
    let s : State := { busy (.delay 3 5000) 0 with
      mem := [(0x10E0, 0x11)], rails := put live.rails 4 { commanded := true }, lines := { hrst := false, pnl := true } }
    let t := after (.hostRailMaskEdit 1 0x11) s
    s.sup.state = .off ∧ ((1 : Byte) &&& 0x3F#8 ≠ 0x11 &&& 0x3F#8) ∧
    t.rails[(4 : Fin 6)].commanded = false ∧ t.channels[(1 : Fin 4)].state = .aborted ∧ t.lines.hrst = true ∧
    (after (.hostRailMaskEdit 0x51 0x11) s).rails = s.rails ∧
    (after (.hostRailMaskEdit 1 0x11) { s with sup := { state := .powering } }).rails = s.rails := by decide +kernel

/-! ### Witnesses: supervisor -/

theorem witness_GateReport :
    let s := supervised { state := .warming, gateWait := true }
    let go (r : Bool) (s : State) := (after (.gateReport .opened r) s).sup.state
    s.sup.state = .warming ∧ go false s = .warming ∧ go true s = .powering ∧
    go false (supervised { state := .warming }) = .powering ∧ go true live = .off ∧
    (after (.gateReport .closed true) s).sup.gateWait = false ∧
    let t := after (.gateReport .opened true) { s with mem := [(0x1100, 1), (0x1101, 4), (0x1408, 1), (0x140A, 1), (0x140B, 2)] }
    t.rails[(2 : Fin 6)].commanded = true ∧ t.channels[(0 : Fin 4)].state = .running := by decide +kernel

theorem witness_Channel0Outcome :
    let r : Restart := { rung := 0, mode := some .rewarm, origin := .ladder }
    let go (f : Option FaultCode) (u : Sup) := (after (.channel0Outcome 3 f) (supervised { u with awaiting := some 3 })).sup
    (go none { state := .powering }).state = .booting ∧
    (go (some .waitTimeout) { state := .powering }).history.length = 1 ∧
    (go none { state := .restarting, restart := some { r with mode := some .direct } }).state = .booting ∧
    (go none { state := .restarting, restart := some r }).state = .warming ∧
    (go none { state := .shutting, target := some .off, wakeAfter := some 1 }).wakeTimer = some 60000000 ∧
    (go none { state := .shutting, target := some .off, wakeAfter := some 0 }).wakeTimer = none ∧
    (go none { state := .shutting, target := some .heldByLadder }).state = .held ∧
    (go none { state := .shutting, target := some .heldByRequest }).state = .held ∧
    (after (.channel0Outcome 2 none) (supervised { state := .powering, awaiting := some 3 })).sup.state = .powering := by
  decide +kernel

theorem witness_SupervisorTimers :
    let r : Restart := { rung := 5, mode := none, origin := .request }
    let s (u : Sup) := supervised u
    (after .wakeTimerExpiry (s { wakeTimer := some 60000000 })).sup.state = .warming ∧
    (after .heldRetryExpiry (s { state := .held, heldRetryTimer := some 60000000 })).sup.state = .warming ∧
    (after .pauseTimerExpiry (s { state := .running, sub := .paused, pauseTimer := some 1000000 })).sup.sub = .watching ∧
    (after .settleExpiry (s { state := .running, settleTimer := some 1000000, attempts := 1 })).sup.attempts = 0 ∧
    (after .holdOffExpiry (s { state := .restarting, restart := some r, holdOffTimer := some 1000000 })).sup.sub
      = .sequence ∧
    (after .haltDelayExpiry (s { state := .shutting, target := some .off, haltTimer := some 1000000 })).sup.starts = 1 := by
  decide +kernel

theorem witness_BootCheckpoints :
    let go (v : Byte) (u : Sup) := (after (.checkpoint v none) (supervised u)).sup
    (go 14 { state := .booting, bootStage := 13 }).bootStage = 14 ∧ (go 15 { state := .booting }).state = .running ∧
    (go 16 { state := .booting }).bootStage = 0 ∧ (go 3 { state := .booting, bootStage := 3 }).checkpointCopy = some 3 ∧
    (go 5 { state := .booting, checkpointCopy := some 5 }).bootStage = 0 ∧ (go 5 {}).checkpointCopy = some 5 ∧
    (after (.checkpoint 15 (some 9)) (supervised { state := .booting })).transit = [.counterIncrement .kicks] ∧
    (after (.checkpoint 1 (some 9)) (supervised { state := .shutting })).transit = [.counterIncrement .lateKicks] := by
  decide +kernel

theorem witness_HeartbeatWatch :
    let kick (u : Sup) := (after (.heartbeatKick 9) (supervised u)).sup
    let late (m : Memory) := (after .heartbeatTimerExpiry { supervised
      { state := .running, sub := .watching, heartbeatTimer := some 5000000 } with mem := m }).sup
    (kick { state := .running, sub := .late, graceTimer := some 5 }).sub = .watching ∧
    (kick { state := .running, sub := .paused }).sub = .paused ∧ (kick { state := .shutting }).heartbeatCopy = 9 ∧
    (kick { state := .booting }).heartbeatCopy = 9 ∧ (kick { state := .running, heartbeatCopy := 9, lastKick := 7 }).lastKick
      = 7 ∧
    (late [(0x11A6, 1)]).graceTimer = some 6000000 ∧ (late []).state = .restarting := by decide +kernel

theorem witness_PauseHeartbeat :
    let go (n : Word) (u : Sup) := after (.pauseHeartbeat 0 n) (supervised u)
    (go 3601 { state := .running }).transit = [.deskAnswer 0 .badArgument {}] ∧
    (go 3600 { state := .booting }).transit = [.deskAnswer 0 .wrongState {}] ∧
    (go 3600 { state := .running, sub := .watching }).sup.pauseTimer = some 3600000000 ∧
    (go 1 { state := .running, sub := .late }).sup.sub = .paused ∧
    (go 0 { state := .running, sub := .late }).sup.sub = .late ∧
    (go 0 { state := .running, sub := .paused }).sup.sub = .watching := by decide +kernel

theorem witness_LadderCauses :
    let s : State := { supervised { state := .running, sub := .late, graceTimer := some 5000000 } with
      mem := [(0x10E0, 1)], rails := put live.rails 0 { commanded := true, good := true, watched := true } }
    let t := after .stageDeadlineExpiry (supervised { state := .booting, bootStage := 4, stageTimer := some 5000000 })
    s.sup.graceTimer = some 5000000 ∧ (hostMask s.mem).getLsbD 0 = true ∧ s.rails[(0 : Fin 6)].watched = true ∧
    s.channels[(3 : Fin 4)].activity = .none ∧ t.sup.history.map (fun h => h.cause) = [.bootStall] ∧
    (after .graceExpiry s).sup.attempts = 1 ∧ (after (.pgChange 1 0 false) s).sup.state = .restarting ∧
    (after (.pgChange 1 0 false) { s with sup := { state := .shutting } }).sup.state = .shutting := by decide +kernel

theorem witness_RestartHost :
    let go (n : Word) (u : Sup) := after (.restartHost 0 n) (supervised u)
    live.sup.ladder.rungCount ≤ 6 ∧ (go 1 { state := .running }).transit = [.deskAnswer 0 .badArgument {}] ∧
    (go 0 { state := .powering }).transit = [.deskAnswer 0 .wrongState {}] ∧
    (go 0 { state := .booting }).sup.state = .restarting := by decide +kernel

theorem witness_ShutDownHost :
    let go (h t w : Word) (u : Sup) := after (.shutDownHost 0 h t w) (supervised u)
    (go 601 0 0 { state := .running }).transit = [.deskAnswer 0 .badArgument {}] ∧
    (go 0 2 0 { state := .running }).transit = [.deskAnswer 0 .badArgument {}] ∧
    (go 0 0 10081 { state := .running }).transit = [.deskAnswer 0 .badArgument {}] ∧
    (go 600 1 10080 {}).transit = [.deskAnswer 0 .wrongState {}] ∧
    (go 600 1 10080 { state := .running }).sup.haltTimer = some 600000000 ∧
    (go 0 0 10080 { state := .booting }).sup.wakeAfter = some 10080 := by decide +kernel

/-! ### Witnesses: keypad, lights and schedule -/

/-- Position 9 in a state, with code 40 and REPEAT in the key map. -/
def keyed (k : Key) : State := { live.with [(0x1812, 40), (0x1813, 0x40), (0x1981, 3), (0x1982, 4), (0x1983, 1)] with
  keypad := { live.keypad with keys := put live.keypad.keys 9 k } }

/-- What position 9's machine does at a scan that reads it closed, or open. -/
def scanned (k : Key) (closed : Bool) (lock : Bool := false) : KeyStep :=
  k.scan { now := 5, mem := (keyed {}).mem, cold := false, locked := lock } 9 closed false

theorem witness_KeyMachines :
    (keyed {}).keypad.nextScan = some 5000 ∧ (scanned {} true).key.state = .pressing ∧ (scanned {} false).key = {} ∧
    (scanned { state := .pressing, run := 1, target := 3 } true).key.run = 2 ∧
    (scanned { state := .pressing, run := 2, target := 3 } true).key.state = .down ∧
    (scanned { state := .pressing, run := 2, target := 3 } false).key = {} ∧
    (scanned { state := .down, downTime := some 5 } false).key.state = .releasing ∧
    (scanned { state := .down, downTime := some (5 - 999) } true).key.state = .down ∧
    (scanned { state := .down, downTime := some (5 - 1000) } true).key.state = .stuck ∧
    (scanned { state := .releasing, run := 3, target := 4 } false).key = {} ∧
    (scanned { state := .stuck, run := 2, target := 4 } true).key.run = 0 ∧
    (scanned { state := .blocked } true).key.state = .pressing ∧
    (scanned { state := .blocked, run := 3, target := 4 } false).key = {} := by decide +kernel

theorem witness_KeyReports :
    let press : Key := { state := .pressing, run := 2, target := 3 }
    let e : KeyEntry := { code := 40, group := 0, rep := true, power := false }
    let gone : Key := { state := .releasing, run := 3, target := 4, latched := some e }
    (keyed press).keypad.nextScan = some 5000 ∧ keyEntry (keyed press).mem 9 = e ∧
    (scanned press true).counted = some .keyDowns ∧ (scanned press true).report = some (.down, e) ∧
    (scanned press true true).report = none ∧ (scanned gone false).report = some (.up, e) ∧
    (scanned { gone with unreported := true } false).report = none ∧
    (scanned { gone with state := .stuck } false).report = some (.freed, e) ∧
    (scanned { gone with state := .down, run := 0, downTime := some (5 - 1000) } true).report = some (.stuck, e) := by
  decide +kernel

/-- The repeat check one millisecond before its time and at it, and the fault mark at two stuck keys and at three. -/
theorem witness_KeyReports_repeat :
    let e : KeyEntry := { code := 40, group := 0, rep := true, power := false }
    let down (next : DWord) : Key := { state := .down, latched := some e, downTime := some 0, nextRepeat := some next }
    let stuck (n : Nat) : State := { live with keypad := { live.keypad with
      keys := Vector.ofFn fun p => if p.val < n then { state := .stuck } else {} } }
    (scanned (down 6) true).report = none ∧ (scanned (down 5) true).report = some (.rep, e) ∧
    (scanned (down 5) true true).report = none ∧
    (stuck 2).checkKeypadFault.keypad.faultArmed = true ∧ (stuck 3).checkKeypadFault.keypad.faultArmed = false ∧
    (stuck 3).checkKeypadFault.transit.length = 1 := by decide +kernel

/-- Chord 0 with key set 40 and a hold time of 100 ms, its match 99 or 100 ms old at a hand-off of key 40; and the power key's
press at its 500 ms, by the state published, and at its forced hold's 1 s. -/
theorem witness_HandOff :
    let held : List (Fin 64 × KeyEntry) := [(9, { code := 40, group := 0, rep := false, power := true })]
    let s (at_ : Nat) (u : SupState) (c : ChordUnit) : State := { supervised { state := u } with
      mem := [(0x1900, 40), (0x1903, 1), (0x1904, 7), (0x1940, 5), (0x1942, 10)], clock := at_ * 1000
      chords := { c with published := u } }
    let chord (x : Chord) (at_ : Nat) := (s at_ .warming { chords := put (Vector.replicate 8 {}) 0 x }).handOff held
    let power (at_ : Nat) (u : SupState) := (s at_ u { press := some { start := 0, longDone := decide (600 < at_) } }).handOff held
    (keyed {}).keypad.nextScan = some 5000 ∧
    (chord { matchStart := some 1 } 100).transit = [] ∧ (chord { matchStart := some 1 } 101).transit.length = 2 ∧
    (chord { matchStart := some 1 } 101).chords.testEnds = some 5101000 ∧
    (chord { armed := false, matchStart := some 1 } 101).transit = [] ∧
    (power 499 .off).sup.state = .off ∧ (power 500 .off).sup.state = .warming ∧ (power 500 .held).sup.state = .warming ∧
    (power 500 .running).chords.forcedOffTimer = some 1500000 ∧ (power 500 .shutting).transit = [.counterIncrement .chordsRefused] ∧
    (power 999 .running).sup.state = .running ∧ (power 1000 .running).sup.state = .shutting ∧
    (power 1000 .held).sup.state = .held := by decide +kernel

/-- A chord's POWER ON and a long press in OFF at one hand-off: the press still sees OFF, so its own POWER ON is refused,
counted and reported, and it is disarmed (R69, R114). -/
theorem witness_HandOff_seen :
    let held : List (Fin 64 × KeyEntry) := [(9, { code := 40, group := 0, rep := false, power := true })]
    let t : State := { live with
      mem := [(0x1900, 40), (0x1903, 1), (0x1904, 2), (0x1940, 5)], clock := 500000
      chords := { chords := put (Vector.replicate 8 {}) 0 { matchStart := some 1 }, press := some { start := 0 } } }.handOff held
    t.sup.state = .warming ∧ t.chords.published = .warming ∧ t.chords.rearmAwaited = true ∧
    t.chords.press = some { start := 0, longDone := true, disarmed := true } ∧
    t.transit.drop 3 = [.counterIncrement .chordsRefused, posting 500 .powerKey 1 true 0 { w1 := 1 }] := by decide +kernel

theorem witness_ForcedOffExpiry :
    let s (u : Sup) : State := { supervised u with chords := { forcedOffTimer := some 60000000 } }
    let go (u : Sup) := (after .forcedOffTimerExpiry (s u)).sup
    (s {}).chords.forcedOffTimer = some 60000000 ∧ (go {}).state = .off ∧ (go { state := .held }).state = .held ∧
    (go { state := .running }).state = .shutting ∧
    (go { state := .shutting, target := some .heldByLadder }).target = some .off ∧
    (go { state := .shutting, target := some .heldByRequest, haltTimer := some 90000000 }).starts = 1 := by decide +kernel

/-- A RESTART HOST at the moment the forced-off timer is due, and a millisecond before it. Publication first: the restart goes on.
Expiry first: RESTARTING takes the order and ends in a shutdown to OFF, and the report carries RUNNING (R115). -/
theorem witness_ForcedOffExpiry_together :
    let u : Sup := { state := .running, sub := .watching, ladder := { rungCount := 1, limits := Vector.replicate 6 1 } }
    let s (clock : Nat) : State := { supervised u with
      clock := clock, chords := { published := .running, publishedSub := .watching, forcedOffTimer := some 60000000 } }
    let first (clock : Nat) := after (.restartHost 0 0) (s clock)
    let x : OpenExpiry := { moment := 60000000, word := 0x104 }
    let t := after .forcedOffTimerExpiry (first 60000000)
    (first 60000000).sup.state = .restarting ∧ (first 60000000).chords.forcedOffTimer = none ∧
    (first 60000000).chords.openExpiry = some x ∧ (first 60000000).clock ≤ x.moment ∧
    t.sup.state = .shutting ∧ t.sup.target = some .off ∧ t.chords.openExpiry = none ∧
    t.transit.getLast? = some (posting 60000 .powerKey 4 true 0 { w0 := 0x104 }) ∧
    (first 59999000).chords.openExpiry = none ∧ after .forcedOffTimerExpiry (first 59999000) = first 59999000 ∧
    (after .forcedOffTimerExpiry ((first 60000000).elapse 1)).sup.state = .restarting := by decide +kernel

theorem witness_LightsComposed :
    let m : Memory := [(0x18C0, 9), (0x18C2, 70), (0x18C4, 10), (0x18C6, 20), (0x18C9, 4)]
    let s (ms : Nat) (c : ChordUnit) : State := { live.with m with clock := ms * 1000, chords := c }
    (s 0 {}).light 0 = 9 ∧ ({ s 0 {} with partState := .starting } : State).light 0 = 0 ∧
    (s 0 { testEnds := some 1 }).light 63 = 20 ∧ (s 1 { testEnds := some 1000 }).light 63 = 9 ∧
    (s 124 { published := .held }).light 2 = 20 ∧ (s 125 { published := .held }).light 2 = 0 ∧
    (s 0 { published := .warming, progress := 124 }).light 0 = 0 ∧
    (s 0 { published := .warming, progress := 125 }).light 0 = 10 ∧
    (after .lightTestEnd (s 0 { testEnds := some 5000000 })).clock = 5000000 := by decide +kernel

theorem witness_TickAdvance :
    let at_ (period count action : Byte) : State := { live.with
        [(0x1211, period), (0x1212, count), (0x1214, action)] with
      sched := { lengths := Vector.replicate 8 10, nextAdvance := Vector.replicate 8 (some 10000) } }
    let out (p c a : Byte) := after (.tickAdvance 0) (at_ p c a)
    (at_ 1 1 3).sched.nextAdvance[(0 : Fin 8)] = some 10000 ∧ (out 255 9 3).mem.read 0x1211 = 0#8 ∧
    (out 254 2 3).mem.read 0x1212 = 1#8 ∧ (out 254 2 3).sched.outcomes[(0 : Fin 32)] = none ∧
    (out 255 1 3).pool.order.length = 4 ∧ (out 255 1 3).pool.newest = 4 ∧
    (out 255 1 5).sched.outcomes[(0 : Fin 32)].isSome = true ∧
    (after (.tickLadderEdit [1] [2]) (at_ 1 1 3)).sched.lengths[(1 : Fin 8)] = 2 ∧
    (after (.tickLadderEdit [1] [1]) (at_ 1 1 3)).sched.lengths[(1 : Fin 8)] = 10 := by decide +kernel

/-! ### Witnesses: link port, desk and store -/

/-- A fence within a chip select period discards the transaction, and an opening within it begins none (R138); a period of
an OPEN port applies its WRITE at the rising edge. -/
theorem witness_FencedPort :
    let falls (s : State) := after (.write { us := 1, moment := .falls } []) s
    let closes (s : State) := after (.write { us := 4, moment := .rises } [0x30, 0, 1]) s
    let fence (s : State) := after (.linkRailEdit 0 1) s
    let opening (s : State) := after (.linkRailEdit 1 2) { s with rails := put s.rails 2 { commanded := true, good := true } }
    ¬ live.PortOpen ∧ (∀ x, ¬ live.Serves x) ∧ opened.PortOpen ∧ selected.Serves { status := 1 } ∧
    (closes (falls live)).mem = [] ∧ (closes (falls opened)).mem = [(0x3000, 1)] ∧
    (closes (fence (falls opened))).mem = [] ∧ (closes (opening (fence (falls opened)))).mem = [] ∧
    (closes (opening (falls live))).mem = [] ∧ (closes (falls (opening live))).mem = [(0x3000, 1)] ∧
    (after (.linkRailEdit 0 6) live).link.rail = 5 ∧ (5 : Fin 6).val = min (6 : Byte).toNat 5 := by
  refine ⟨?_, fun x h => absurd h.1 (by decide), ?_, ?_, ?_, ?_, ?_, ?_, ?_, ?_, ?_, ?_⟩ <;> decide +kernel

/-- What each moment shows: the status byte is that of the falling edge, whatever mark is set by the rising one, and a READ
shows the memory as its completed address found it. -/
theorem witness_PortReads :
    let out (c : Instr) (s : State) := (after c s).link.out
    let s : State := { opened with mem := [(0x3FFF, 8)] }
    let begun := after (.read { us := 0, moment := .falls } []) s
    let copied := after (.read { us := 0, moment := .acts } [0x3F, 0xFF])
    let changed (s : State) : State := { s with mem := [(0x3FFF, 7)], notice := { marks := 1 } }
    selected.Serves { status := 1 } ∧ begun.Serves { status := 1 } ∧
    out (.status rises [1, 2]) selected = some [1, 0, 0] ∧ out (.badCommand rises 0xA3 [7]) selected = some [1, 0] ∧
    (after (.badCommand { us := 0, moment := .acts } 0xA3 []) selected).transit = [.counterIncrement .badCommands] ∧
    out (.read rises [0x10]) selected = some [1, 0] ∧
    out (.read rises [0x3F, 0xFF, 9, 9]) (changed (copied begun)) = some [1, 0, 0, 8, 0x60] ∧
    out (.read rises [0x3F, 0xFF, 9, 9]) (copied (changed begun)) = some [1, 0, 0, 7, 0x60] ∧
    (after (.read { us := 0, moment := .falls } []) (changed s)).link.transfer = some { status := 3 } := by
  decide +kernel

/-- The keypad block's sets, runs and codes: position 1 RELEASING with a run of 2 of 3, position 10 DOWN, code 40, unreported. -/
theorem test_keypad_block :
    let key (st : KeyState) (run target : Nat) (code : BitVec 7) (unreported : Bool) : Key :=
      { state := st, run := run, target := target, unreported := unreported
        latched := some { code := code, group := 0, rep := false, power := false } }
    let items := (keyed {}).keypadItems
    let s : State := { live with keypad := { live.keypad with
      keys := put (put live.keypad.keys 1 (key .releasing 2 3 7 false)) 10 (key .down 0 0 40 true) } }
    items.length = 28 ∧ (s.keypadItems.drop 1).take 2 = [[0, 4, 0, 0, 0, 0, 0, 0], [2, 0, 0, 0, 0, 0, 0, 0]] ∧
    (s.keypadItems.drop 5).take 2 = [[0, 4, 0, 0, 0, 0, 0, 0], [2]] ∧
    (s.keypadItems.drop 13).take 3 = [[2], [3], [0xFF]] ∧ (s.keypadItems.drop 23).take 3 = [[7], [40], [0xFF]] := by decide +kernel

/-- The schedule block shows the entries that have acted, wherever they stand in the table: four of them whole, all five of five
in the packed form. -/
theorem test_schedule_block :
    let s (entries : List (Fin 32)) : State := { live with sched := { live.sched with
      outcomes := entries.foldl (fun v e => put v e (some { refusal := none, channel := some 2, stamp := 9 })) live.sched.outcomes } }
    ((s [30]).scheduleItems.drop 16).take 5 = [[30], [1], [2], [9, 0, 0, 0], [0xFF]] ∧
    ((s [30, 3, 9, 1]).scheduleItems.drop 28) = [[30], [1], [2], [9, 0, 0, 0]] ∧
    (s [30, 3, 9, 1, 4]).scheduleItems[16]? = some [Config.statusPacked 0 ([1, 3, 4, 9, 30].flatMap fun e =>
      [[e], [1], [2], [9, 0, 0, 0]]) 0 0] := by
  refine ⟨?_, ?_, rfl⟩ <;> decide +kernel

/-- Five keys in PRESSING are shown whole, and all seven of seven packed; the sets and the codes stand as before. -/
theorem test_keypad_block_packed :
    let s (n : Nat) : State := { live with keypad := { live.keypad with
      keys := ((indices 64).take n).foldl (fun v i => put v i { state := .pressing, run := i.val + 1, target := 9 })
        live.keypad.keys } }
    ((s 5).keypadItems.drop 13).take 10 = [[1], [9], [2], [9], [3], [9], [4], [9], [5], [9]] ∧
    (s 7).keypadItems[0]? = some [127, 0, 0, 0, 0, 0, 0, 0] ∧ (s 7).keypadItems.drop 23 = [[0xFF], [0xFF], [0xFF], [0xFF], [0xFF]] ∧
    (s 7).keypadItems[22]? = some [Config.statusPacked 1 [[1], [9], [2], [9], [3], [9], [4], [9], [5], [9], [6], [9], [7], [9]] 9 0] := by
  refine ⟨?_, ?_, ?_, rfl⟩ <;> decide +kernel

theorem witness_WriteApplies :
    let t := after (.write rises [0x0F, 0xFF, 1, 2]) selected
    let u := after (.write rises [0x02, 0, 0, 0]) selected
    selected.Serves { status := 1 } ∧ t.mem = [(0x1000, 2)] ∧
    t.transit = [.noticeMarkSet .stray, .counterIncrement .strayWrites, .counterIncrement .transactions] ∧
    u.transit = [.collection [(0, 0)], .counterIncrement .transactions] := by
  decide +kernel

/-- What a write of each word of the header and of the rail set tells. -/
theorem witness_WriteApplies_told :
    let told (d : List Byte) := ((after (.write rises d) selected).transit).dropLast
    told [0, 8, 1] = [.noticeEnable 1 none] ∧ told [0, 8, 1, 2] = [.noticeEnable 1 (some 2)] ∧
    told [0, 9, 2] = [.noticeAcknowledge 2] ∧ told [0, 10, 3, 0, 7] = [.checkpoint 3 (some 7), .lightTableWrite] ∧
    told [0, 15, 1] = [.heartbeatKick 0x1000000] ∧ told [0x18, 0xD0, 1] = [.lightTableWrite] ∧ told [0x18, 0xD1, 1] = [] ∧
    told [0x10, 0xE0, 1, 5] = [.hostRailMaskEdit 0 1, .linkRailEdit 0 5] ∧
    told [0x12, 0x08, 9] = [.tickLadderEdit [0, 0, 0, 0, 0, 0, 0, 0, 0] [0, 0, 0, 0, 0, 0, 0, 0, 9]] := by decide +kernel

theorem witness_DeskAnswers :
    let r : Request := { kind := 8, args := {}, toggle := 1 }
    let s (kind toggle : Byte) : State := { opened with
      mem := (if kind = 0 then [] else [(0x100, kind)]) ++ [(0x101, toggle)]
      slots := put opened.slots 0 { taken := some r } }
    let slot (s : State) := (after (.deskAnswer 0 .done {}) s).slots[(0 : Fin 8)].taken
    (s 8 2).slots[(0 : Fin 8)].taken = some r ∧ live.slots[(0 : Fin 8)].taken = none ∧ slot (s 8 1) = none ∧
    slot (s 8 2) = some { kind := 8, args := {}, toggle := 2 } ∧ slot (s 14 2) = some { kind := 14, args := {}, toggle := 2 } ∧
    slot (s 0 2) = some { kind := 0, args := {}, toggle := 2 } ∧ slot (s 5 2) = none ∧
    (after (.badKind 0) (s 8 1)).slots[(0 : Fin 8)].answerCode = some .badKind := by decide +kernel

theorem witness_DeskTakes :
    let s (m : Memory) : State := { selected with mem := m }
    let sent (m : Memory) := (after (.write rises [1, 1, 7]) (s m)).transit.head?
    let refused := some (Instr.noticeMarkSet .desk)
    (s []).Serves { status := 1 } ∧ (s []).slots[(0 : Fin 8)].taken = none ∧
    sent [] = some (.badKind 0) ∧ sent [(0x100, 14)] = some (.badKind 0) ∧ sent [(0x100, 1)] = some (.restartHost 0 0) ∧
    sent [(0x100, 2), (0x102, 9)] = some (.shutDownHost 0 9 0 0) ∧ sent [(0x100, 3)] = some (.pauseHeartbeat 0 0) ∧
    sent [(0x100, 4), (0x102, 15)] = some (.startSequence 0 15) ∧ sent [(0x100, 4), (0x102, 16)] = refused ∧
    sent [(0x100, 5)] = refused ∧ sent [(0x100, 5), (0x102, 3)] = some (.stopChannel 0 3) ∧
    sent [(0x100, 5), (0x102, 4)] = refused ∧
    sent [(0x100, 6), (0x102, 2), (0x104, 0xE8), (0x105, 3)] = some (.climateOverride 0 2 1000 0) ∧
    sent [(0x100, 6), (0x102, 3)] = refused ∧ sent [(0x100, 6), (0x104, 0xE9), (0x105, 3)] = refused ∧
    sent [(0x100, 7), (0x102, 1), (0x104, 1)] = some (.fanSweep 0 1 1) ∧ sent [(0x100, 7), (0x104, 2)] = refused ∧
    sent [(0x100, 8)] = some (.storeSettings 0) ∧ sent [(0x100, 9)] = some (.reloadSettings 0) ∧
    sent [(0x100, 10), (0x102, 6)] = some (.clearCounters 0 6) ∧ sent [(0x100, 10), (0x102, 7)] = refused ∧
    sent [(0x100, 11), (0x102, 1)] = some (.freezeCounters 0 1) ∧ sent [(0x100, 11), (0x102, 2)] = refused ∧
    sent [(0x100, 12), (0x102, 1)] = some (.flushReports 0 1) ∧ sent [(0x100, 12), (0x102, 2)] = refused ∧
    sent [(0x100, 13), (0x102, 1)] = some (.keypadLock 0 1) ∧ sent [(0x100, 13), (0x102, 2)] = refused := by
  decide +kernel

theorem witness_StoreSettings :
    let s : State := { live with store := .storing 3 [(0x1000, 1)] 7 0 }
    live.store = .idle ∧ s.store ≠ .idle ∧ s.store = .storing 3 [(0x1000, 1)] 7 0 ∧
    (after (.storeComplete 5 true) s).nv.valid = true ∧ (after (.storeComplete 5 false) s).nv.valid = false ∧
    (after (.storeSettings 1) s).transit = [.deskAnswer 1 .busy {}] ∧ (after (.storeSettings 1) live).store ≠ .idle := by
  decide +kernel

theorem witness_ReloadSettings :
    let s : State := { live with store := .reloading 3 }
    live.store = .idle ∧ live.sweep = none ∧ s.store = .reloading 3 ∧ s.nv.image.imageWf = true ∧
    (after (.reloadSettings 1) s).transit = [.deskAnswer 1 .busy {}] ∧
    (after (.reloadApply 9) s).partState = .defaulted ∧
    (after (.reloadApply 9) { s with mem := [(0x10E0, 0)], sup := { state := .running } }).sup.state = .running := by
  decide +kernel

/-! ### Witnesses: counters, pool and invariants -/

/-- A cell with a report of a number. -/
def cell (urgent : Bool) (number : Word) (aged : Bool) : Option PoolCell :=
  some { report := { kind := .mark, subkind := 0, urgent := urgent, stamp := 0, source := 0, payload := {} }
         number := number, shown := number, aged := aged }

/-- A pool of two reports: an URGENT one, marked, in cell 7 and a NORMAL one in cell 0. -/
def small : Pool :=
  { cells := put (put (Vector.replicate 64 none) 7 (cell true 1 true)) 0 (cell false 2 false), order := [7, 0], generator := 3
    newest := 2, coalesceTimer := some 4000000, ageTimer := some 5000000 }

/-- A pool with every cell filled, urgent from cell n on. -/
def full (n : Nat) : Pool :=
  { cells := Vector.ofFn fun c => cell (decide (n ≤ c.val)) (BitVec.ofNat 16 (c.val + 1)) false, order := indices 64
    generator := 65, newest := 64, coalesceTimer := some 4000000 }

theorem empty_pool_ok : ({} : Pool).Ok := by
  refine ⟨by decide, by decide, ?_, ?_, by decide, by decide⟩
  · intro c d x y h; simp at h
  · intro c x h; simp at h

/-- A posting into an empty pool, and into full ones: 64 URGENT reports drop a NORMAL one, and the oldest NORMAL is
overwritten. -/
theorem witness_ReportPosting :
    let r (u : Bool) : Posting := { kind := .key, subkind := 1, urgent := u, stamp := 0, source := 0, payload := {} }
    let post (u : Bool) (p : Pool) := after (.reportPosting (r u)) { live with pool := p }
    (post false {}).pool.order = [0] ∧ (post false (full 0)).pool = full 0 ∧
    (post true (full 0)).pool.order.getLast? = some 0 ∧ (post true (full 64)).pool.order.getLast? = some 0 ∧
    (post false small).pool.order = [7, 0, 1] ∧
    (post false { small with generator := 1 }).pool.order = [0, 1] ∧
    (post false { small with generator := 65535 }).pool.generator = 1 := by decide +kernel

theorem witness_Collections :
    let take (c : Fin 64) (w : Word) (p : Pool) := (after (.collection [(c, w)]) { live with pool := p }).pool
    (take 7 1 small).order = [0] ∧ (take 7 5 small).order = [7, 0] ∧ (take 7 0 small) = small ∧ (take 9 1 small) = small ∧
    (take 7 0 (take 7 5 small)).order = [0] ∧ (take 0 2 (take 7 1 small)).coalesceTimer = none ∧
    (([(0, 2), (9, 1), (7, 1)] : List (Fin 64 × Word)).map Prod.fst).Nodup ∧
    (after (.collection [(0, 2), (9, 1), (7, 1)]) { live with pool := small }).pool.order = [] := by decide +kernel

theorem witness_AgingAndFlushing :
    let s : State := { live with pool := small }
    small.ageTimer = some 5000000 ∧ small.coalesceTimer = some 4000000 ∧ (after .ageTick s).pool.order = [0] ∧
    (after (.flushReports 0 0) s).pool.order = [7] ∧ (after (.flushReports 0 1) s).pool.order = [] ∧
    (after .restartFlush s).pool.order = [7, 0] ∧
    (after .restartFlush { s with mem := [(0x19A3, 1)] }).pool.order = [7] ∧
    (after .coalesceTimerExpiry s).pool.coalesceTimer = some 4010000 := by decide +kernel

/-- A step from a sound pool with an empty queue. -/
theorem witness_StepKeepsPoolOk : live.pool.Ok ∧ step live = .next { live with clock := 1000 } :=
  ⟨empty_pool_ok, rfl⟩

theorem witness_StepKeepsMemoryOk :
    ({ live with pending := [.counterIncrement .passes] } : State).MemoryOk ∧
    step { live with pending := [.counterIncrement .passes] } = exec (.counterIncrement .passes) live := by
  refine ⟨⟨by decide, by decide, ?_⟩, rfl⟩
  intro slot snapshot crc eraseAt h
  cases h

theorem witness_StepKeepsMasksDisjoint :
    (busy (.delay 2 5000) 0).ChannelsOk ∧ step { busy (.delay 2 5000) 0 with pending := [.delayEnd 1] }
      = exec (.delayEnd 1) (busy (.delay 2 5000) 0) := by
  refine ⟨⟨?_, ?_⟩, rfl⟩ <;> decide +kernel

theorem witness_StepKeepsHostRailsOff :
    (live.with [(0x10E0, 1)]).HostRailsOff ∧ (live.with [(0x10E0, 1)]).sup.state.hostOff = true := by
  refine ⟨?_, by decide⟩
  unfold State.HostRailsOff
  decide +kernel

theorem witness_StepKeepsLadderOk : live.sup.LadderOk := by
  unfold Sup.LadderOk
  decide +kernel

theorem witness_PoweringOnlyFromWarming :
    let s : State := { supervised { state := .warming } with pending := [.gateReport .opened false] }
    s.sup.state ≠ .powering ∧
    (match step s with
      | .next t => decide (t.sup.state = .powering)
      | _ => false) = true := by decide +kernel

theorem witness_CountersNeverDecrease :
    let s : State := { live with
      counters := { values := put live.counters.values 0 9 }, pending := [.clearCounters 0 0] }
    (match step s with
      | .next t => decide (t.counters.values[(0 : Fin 54)] < s.counters.values[(0 : Fin 54)])
      | _ => false) = true := by decide +kernel

end Sys2Proof.Tests
end

section
/-! SUPPORT. One sample of a sensor channel (R1 to R4): what the span admits, what a sample makes of the channel, which
events its change of state sends, and what the command leaves of the whole state. Obligations O4 and O5. -/

namespace Sys2Proof.Machine

open Sys2Proof Host

/-! ### The span (R1) -/

theorem validSample_eq_some_iff (ch : Fin 9) (raw : Option Int) (v : Int) :
    validSample ch raw = some v ↔ raw = some v ∧ inSpan ch v := by
  cases raw with
  | none => simp [validSample]
  | some w =>
    by_cases humidity : ch = 8
    · simp only [validSample, inSpan, humidity, Option.bind_some, if_true]
      grind
    · simp only [validSample, inSpan, humidity, Option.bind_some, if_false]
      grind

theorem validSample_of_inSpan {ch : Fin 9} {v : Int} (h : inSpan ch v) : validSample ch (some v) = some v :=
  (validSample_eq_some_iff ch (some v) v).2 ⟨rfl, h⟩

theorem validSample_eq_none {ch : Fin 9} {raw : Option Int} (h : ∀ v, raw = some v → ¬ inSpan ch v) :
    validSample ch raw = none :=
  Option.eq_none_iff_forall_ne_some.2 fun v hv =>
    have ⟨given, within⟩ := (validSample_eq_some_iff ch raw v).1 hv
    h v given within

/-! ### The channel after an invalid sample (R2) -/

section
variable (c : Sensor)

@[simp] theorem Sensor.takeInvalid_invalidRun : c.takeInvalid.invalidRun = min (c.invalidRun + 1) 40 := rfl
@[simp] theorem Sensor.takeInvalid_validRun : c.takeInvalid.validRun = 0 := rfl
@[simp] theorem Sensor.takeInvalid_held : c.takeInvalid.held = c.held := rfl
@[simp] theorem Sensor.takeInvalid_sampled : c.takeInvalid.sampled = c.sampled := rfl

variable {c}

theorem Sensor.takeInvalid_state_of_ok (h : c.state = .ok) :
    c.takeInvalid.state = if 4 ≤ c.invalidRun + 1 then .holding else .ok := by
  have run : 4 ≤ min (c.invalidRun + 1) 40 ↔ 4 ≤ c.invalidRun + 1 := by omega
  simp only [takeInvalid, h, run]

theorem Sensor.takeInvalid_state_of_holding (h : c.state = .holding) :
    c.takeInvalid.state = if 40 ≤ c.invalidRun + 1 then .failed else .holding := by
  have run : 40 ≤ min (c.invalidRun + 1) 40 ↔ 40 ≤ c.invalidRun + 1 := by omega
  simp only [takeInvalid, h, run]

theorem Sensor.takeInvalid_state_of_failed (h : c.state = .failed) : c.takeInvalid.state = .failed := by
  simp only [takeInvalid, h]

/-! ### The channel after a valid sample (R3) -/

theorem Sensor.takeValid_eq (c : Sensor) (v : Int) :
    c.takeValid v =
      if c.state = .ok ∨ 8 ≤ c.validRun + 1 then
        { c with state := .ok, held := v, sampled := true, validRun := min (c.validRun + 1) 8, invalidRun := 0 }
      else { c with validRun := min (c.validRun + 1) 8, invalidRun := 0 } := by
  have run : min (c.validRun + 1) 8 = 8 ↔ 8 ≤ c.validRun + 1 := by omega
  simp only [takeValid, run]

theorem Sensor.takeValid_validRun (c : Sensor) (v : Int) : (c.takeValid v).validRun = min (c.validRun + 1) 8 := by
  rw [takeValid_eq]; split <;> rfl

theorem Sensor.takeValid_invalidRun (c : Sensor) (v : Int) : (c.takeValid v).invalidRun = 0 := by
  rw [takeValid_eq]; split <;> rfl

theorem Sensor.takeValid_published (v : Int) (h : c.state = .ok ∨ 8 ≤ c.validRun + 1) :
    (c.takeValid v).state = .ok ∧ (c.takeValid v).held = v ∧ (c.takeValid v).sampled = true := by
  rw [takeValid_eq, if_pos h]
  exact ⟨rfl, rfl, rfl⟩

theorem Sensor.takeValid_waiting (v : Int) (notOk : c.state ≠ .ok) (early : c.validRun + 1 < 8) :
    (c.takeValid v).state = c.state ∧ (c.takeValid v).held = c.held ∧ (c.takeValid v).sampled = c.sampled := by
  rw [takeValid_eq, if_neg (not_or.2 ⟨notOk, Nat.not_le.2 early⟩)]
  exact ⟨rfl, rfl, rfl⟩

/-- A channel is OK after a valid sample only when it has published that sample. -/
theorem Sensor.takeValid_ok_iff (c : Sensor) (v : Int) :
    (c.takeValid v).state = .ok ↔ c.state = .ok ∨ 8 ≤ c.validRun + 1 := by
  rw [takeValid_eq]
  split
  · next published => exact iff_of_true rfl published
  · next waiting => exact iff_of_false (fun ok => waiting (.inl ok)) waiting

/-- A valid sample never leads into FAILED: the channel that is FAILED after it was FAILED before. -/
theorem Sensor.failed_of_takeValid_failed {v : Int} (h : (c.takeValid v).state = .failed) : c.state = .failed := by
  rw [takeValid_eq] at h
  split at h
  · cases h
  · exact h

end

/-! ### The events a sample sends -/

/-- What a channel's change of state sends: the failure counted and reported (R2), or the return from FAILED (R3). -/
def sensorChangeEvents (ch : Fin 9) (old new : Sensor) (stamp : DWord) : List Instr :=
  if old.state ≠ .failed ∧ new.state = .failed then
    [.counterIncrement (.sensorFailures ch),
     posting stamp .zoneSensor 1 true (BitVec.ofNat 8 ch.val) { w0 := new.word }]
  else if old.state = .failed ∧ new.state = .ok then
    [posting stamp .zoneSensor 2 true (BitVec.ofNat 8 ch.val) { w0 := new.word }]
  else []

theorem State.reportSensor_eq_sendAll (s : State) (ch : Fin 9) (old new : Sensor) :
    s.reportSensor ch old new = s.sendAll (sensorChangeEvents ch old new s.uptime) := by
  unfold reportSensor sensorChangeEvents
  split
  · simp [report, send, sendAll, posting, uptime]
  · split
    · rfl
    · simp [sendAll]

/-- An invalid sample never leads out of FAILED, so of the two reports it can post only FAILED (R2). -/
theorem sensorChangeEvents_takeInvalid (ch : Fin 9) (c : Sensor) (stamp : DWord) :
    sensorChangeEvents ch c c.takeInvalid stamp =
      if c.state ≠ .failed ∧ c.takeInvalid.state = .failed then
        [.counterIncrement (.sensorFailures ch),
         posting stamp .zoneSensor 1 true (BitVec.ofNat 8 ch.val) { w0 := sensorWord .failed c.held c.sampled }]
      else [] := by
  unfold sensorChangeEvents
  split
  · next enters => simp only [Sensor.word, enters.2, Sensor.takeInvalid_held, Sensor.takeInvalid_sampled]
  · have notRestored : ¬ (c.state = .failed ∧ c.takeInvalid.state = .ok) := by
      rintro ⟨failed, ok⟩
      simp [Sensor.takeInvalid_state_of_failed failed] at ok
    rw [if_neg notRestored]

/-- A valid sample never leads into FAILED, so of the two reports it can post only RESTORED, with its own value (R3). -/
theorem sensorChangeEvents_takeValid (ch : Fin 9) (c : Sensor) (v : Int) (stamp : DWord) :
    sensorChangeEvents ch c (c.takeValid v) stamp =
      if c.state = .failed ∧ (c.takeValid v).state = .ok then
        [posting stamp .zoneSensor 2 true (BitVec.ofNat 8 ch.val) { w0 := sensorWord .ok v true }]
      else [] := by
  have notFailing : ¬ (c.state ≠ .failed ∧ (c.takeValid v).state = .failed) :=
    fun ⟨before, after⟩ => before (Sensor.failed_of_takeValid_failed after)
  unfold sensorChangeEvents
  rw [if_neg notFailing]
  split
  · next restored =>
    obtain ⟨ok, held, sampled⟩ := Sensor.takeValid_published v ((Sensor.takeValid_ok_iff c v).1 restored.2)
    simp only [Sensor.word, ok, held, sampled]
  · rfl

/-- What is handed to the keypad scanner after a sample: S4 only (R94). -/
def scannerHandOff (ch : Fin 9) (c : Sensor) : List Instr :=
  if ch = 4 then [.s4ColdModeUpdate c.state c.held c.sampled] else []

/-! ### The command -/

/-- The state once channel ch stands as `new` at its sample instant `due`. -/
def State.afterSample (s : State) (ch : Fin 9) (due : Nat) (new : Sensor) : State :=
  { s with
    clock := max s.clock due
    sensors := put s.sensors ch { new with nextSample := some (due + 250000) }
    transit := s.transit ++ sensorChangeEvents ch s.sensors[ch] new (s.reachTime due).uptime ++ scannerHandOff ch new }

theorem exec_sensorSample {ch : Fin 9} {s : State} {due : Nat} (raw : Option Int)
    (h : s.sensors[ch].nextSample = some due) :
    exec (.sensorSample ch raw) s = .next (s.afterSample ch due (s.sensors[ch].takeSample ch raw)) := by
  show execSensorSample ch raw s = _
  simp only [execSensorSample, h, State.reportSensor_eq_sendAll]
  by_cases s4 : ch = 4
  · simp only [State.afterSample, scannerHandOff, s4, if_true]; rfl
  · simp only [State.afterSample, scannerHandOff, s4, if_false, List.append_nil]; rfl

section
variable (s : State) (ch : Fin 9) (due : Nat) (new : Sensor)

theorem State.afterSample_channel :
    (s.afterSample ch due new).sensors[ch] = { new with nextSample := some (due + 250000) } := put_same _ _ _

theorem State.afterSample_other (e : Fin 9) (h : e ≠ ch) : (s.afterSample ch due new).sensors[e] = s.sensors[e] :=
  put_other _ h.symm _

theorem State.afterSample_clock : (s.afterSample ch due new).clock = max s.clock due := rfl

theorem State.afterSample_transit :
    (s.afterSample ch due new).transit
      = s.transit ++ sensorChangeEvents ch s.sensors[ch] new (s.afterSample ch due new).uptime
        ++ scannerHandOff ch new := rfl

theorem State.afterSample_frame :
    s.afterSample ch due new = { s with
      clock := (s.afterSample ch due new).clock
      sensors := (s.afterSample ch due new).sensors
      transit := (s.afterSample ch due new).transit } := rfl

end

theorem exec_sensorSample_invalid {ch : Fin 9} {raw : Option Int} {s : State} {due : Nat}
    (h : s.sensors[ch].nextSample = some due) (invalid : ∀ v, raw = some v → ¬ inSpan ch v) :
    exec (.sensorSample ch raw) s = .next (s.afterSample ch due s.sensors[ch].takeInvalid) := by
  rw [exec_sensorSample raw h, Sensor.takeSample, validSample_eq_none invalid]

theorem exec_sensorSample_valid {ch : Fin 9} {v : Int} {s : State} {due : Nat}
    (h : s.sensors[ch].nextSample = some due) (valid : inSpan ch v) :
    exec (.sensorSample ch (some v)) s = .next (s.afterSample ch due (s.sensors[ch].takeValid v)) := by
  rw [exec_sensorSample (some v) h, Sensor.takeSample, validSample_of_inSpan valid]

end Sys2Proof.Machine

namespace Sys2Proof.Settled

open Sys2Proof Sys2Proof.Machine Host

/-- Settles O4: the channel is `takeInvalid` of what it was, which restores nothing, so of the two reports only
FAILED can be among the events. -/
theorem invalidSample : Obligations.InvalidSample := by
  intro ch raw s due h invalid
  refine ⟨_, exec_sensorSample_invalid h invalid, ?_⟩
  dsimp only
  rw [State.afterSample_channel]
  refine ⟨rfl, rfl, rfl, rfl, rfl, Sensor.takeInvalid_state_of_ok, Sensor.takeInvalid_state_of_holding,
    Sensor.takeInvalid_state_of_failed, State.afterSample_other s ch due _, State.afterSample_clock .., ?_,
    State.afterSample_frame ..⟩
  rw [State.afterSample_transit, sensorChangeEvents_takeInvalid]
  rfl

/-- Settles O5: the channel is `takeValid` of what it was, which never fails it, so of the two reports only
RESTORED can be among the events. -/
theorem validSample : Obligations.ValidSample := by
  intro ch v s due h valid
  refine ⟨_, exec_sensorSample_valid h valid, ?_⟩
  dsimp only
  rw [State.afterSample_channel]
  refine ⟨Sensor.takeValid_validRun .., Sensor.takeValid_invalidRun .., rfl, Sensor.takeValid_published v,
    Sensor.takeValid_waiting v, State.afterSample_other s ch due _, State.afterSample_clock .., ?_,
    State.afterSample_frame ..⟩
  rw [State.afterSample_transit, sensorChangeEvents_takeValid]
  rfl

end Sys2Proof.Settled
end

section
/-! SUPPORT. The end of a fan test sweep (R43, R45 to R47): what the engine's last measurement begins, the worst point and
the result of a TEST sweep, the references a RECORD sweep writes, and what every sweep's end leaves. Obligations O18 and
O19. -/

namespace Sys2Proof.Machine

open Sys2Proof Host

@[simp] theorem any_indices {n : Nat} (p : Fin n → Bool) : (indices n).any p = true ↔ ∃ k, p k = true := by
  simp [List.any_eq_true]

/-! ### The worst point (R45) -/

/-- The tail's worst point takes the place of the first only where it is strictly larger in magnitude. -/
theorem worstOf_cons (k : Nat) (d : Int) (t : List Int) :
    worstOf k (d :: t) =
      if (worstOf (k + 1) t).1 ≠ 0 ∧ d.natAbs < (worstOf (k + 1) t).2.natAbs then worstOf (k + 1) t else (k, d) := rfl

/-- The worst of a list, numbered from k: the first of its entries of the largest magnitude. -/
theorem worstOf_spec (l : List Int) : ∀ k : Nat, l ≠ [] →
    ∃ (i : Nat) (h : i < l.length), worstOf k l = (k + i, l[i]) ∧
      (∀ (j : Nat) (hj : j < l.length), l[j].natAbs ≤ l[i].natAbs) ∧
      ∀ (j : Nat) (hj : j < i), l[j].natAbs < l[i].natAbs := by
  induction l with
  | nil => exact fun _ h => absurd rfl h
  | cons d t ih =>
    intro k _
    rw [worstOf_cons]
    by_cases single : t = []
    · subst single
      exact ⟨0, by simp, by simp [worstOf], by simp, by simp⟩
    · obtain ⟨i, hi, worst, largest, lowest⟩ := ih (k + 1) single
      by_cases later : d.natAbs < t[i].natAbs
      · refine ⟨i + 1, by simpa using hi, ?_, ?_, ?_⟩
        · rw [worst, if_pos ⟨by omega, later⟩]
          simp only [List.getElem_cons_succ, Prod.mk.injEq, and_true]
          omega
        · intro j hj
          cases j with
          | zero => exact later.le
          | succ j => exact largest j (by simpa using hj)
        · intro j hj
          cases j with
          | zero => exact later
          | succ j => exact lowest j (by omega)
      · refine ⟨0, by simp, ?_, ?_, fun j hj => absurd hj (Nat.not_lt_zero j)⟩
        · rw [worst, if_neg fun both => later both.2]
          rfl
        · intro j hj
          cases j with
          | zero => exact le_rfl
          | succ j => exact (largest j (by simpa using hj)).trans (not_lt.1 later)

section
variable (m : Memory) (f : Fin 2) (v : Vector Nat 4)

/-- The deviation of point k of a sweep of fan f (R45). -/
def pointDeviation (k : Fin 4) : Int := deviation v[k] (reference m f k)

theorem deviations_eq : deviations m f v = List.ofFn (pointDeviation m f v) := by
  simp [deviations, indices, pointDeviation]

theorem any_deviations (p : Int → Bool) : (deviations m f v).any p = true ↔ ∃ k, p (pointDeviation m f v k) = true := by
  simp only [deviations_eq, List.any_eq_true, List.mem_ofFn, exists_exists_eq_and]

/-- The worst point is the lowest of the points whose deviation is largest in magnitude (R45). -/
theorem worstOf_deviations :
    ∃ k : Fin 4, worstOf 1 (deviations m f v) = (k.val + 1, pointDeviation m f v k) ∧
      (∀ j, (pointDeviation m f v j).natAbs ≤ (pointDeviation m f v k).natAbs) ∧
      ∀ j, j < k → (pointDeviation m f v j).natAbs < (pointDeviation m f v k).natAbs := by
  rw [deviations_eq]
  obtain ⟨i, hi, worst, largest, lowest⟩ := worstOf_spec (List.ofFn (pointDeviation m f v)) 1 (by simp)
  rw [List.length_ofFn] at hi
  simp only [List.length_ofFn, List.getElem_ofFn] at worst largest lowest
  exact ⟨⟨i, hi⟩, by rw [worst, Nat.add_comm], fun j => largest j j.isLt, fun j hj => lowest j hj⟩

/-! ### The result of a TEST sweep (R45) -/

variable {m f v}

theorem evaluateTest_noReference (h : ∃ k : Fin 4, reference m f k = 0) : evaluateTest m f v = (.noReference, 0, 0) := by
  rw [evaluateTest, if_pos (by simpa using h)]

/-- With every reference set, the worst point stands beside the first of the four results that applies. -/
theorem evaluateTest_of_references (h : ∀ k : Fin 4, reference m f k ≠ 0) :
    evaluateTest m f v =
      (if ∃ k : Fin 4, v[k] = 0 then .stalled
        else if ∃ k, (clogLimit m f : Int) < pointDeviation m f v k then .clogged
        else if ∃ k, pointDeviation m f v k < -(slowLimit m f : Int) then .slow
        else .normal, worstOf 1 (deviations m f v)) := by
  rw [evaluateTest, if_neg (by simpa using h)]
  simp only [any_indices, any_deviations, decide_eq_true_eq]
  split_ifs <;> rfl

end

/-! ### The end of a sweep (R47) -/

/-- The record a sweep's end stores (R47). -/
def sweepRecord (w : Sweep) (result : SweepResult) (worst : Nat) (dev : Int) : SweepRecord :=
  { mode := w.mode, starter := w.starter, result := result, worst := worst, deviation := dev, measured := w.measured }

/-- The desk's answer at a sweep's end, for a sweep that a slot started (R151). -/
def sweepAnswers (slot : Option (Fin 8)) (r : SweepRecord) : List Instr :=
  match slot with
  | some k => [.deskAnswer k (sweepAnswer r).1 (sweepAnswer r).2]
  | none => []

theorem sweepAnswer_worst (r : SweepRecord) (p : Fin 4) (h : r.worst = p.val + 1) :
    (sweepAnswer r).2.w3 = BitVec.ofNat 16 r.measured[p] := by
  simp [sweepAnswer, h]

theorem sweepAnswers_answersSweep (slot : Option (Fin 8)) (r : SweepRecord) : AnswersSweep (sweepAnswers slot r) slot r := by
  cases slot with
  | none => exact ⟨fun _ => rfl, by simp⟩
  | some k =>
    refine ⟨by simp, ?_⟩
    rintro _ ⟨⟩
    refine ⟨(sweepAnswer r).2, rfl, rfl, rfl, fun low high => if_pos ⟨low, high⟩, fun noPoint => ?_, sweepAnswer_worst r⟩
    simp [sweepAnswer, noPoint]

theorem State.send_eq_sendAll (s : State) (c : Instr) : s.send c = s.sendAll [c] := rfl

theorem State.report_eq_sendAll (s : State) (k : ReportKind) (n : Nat) (u : Bool) (i : Nat) (p : Payload) :
    s.report k n u i p = s.sendAll [posting s.uptime k (BitVec.ofNat 8 n) u (BitVec.ofNat 8 i) p] := rfl

theorem State.sendAll_sendAll (s : State) (cs ds : List Instr) : (s.sendAll cs).sendAll ds = s.sendAll (cs ++ ds) := by
  simp [State.sendAll]

/-- What a sweep's end sends, in the order of R47: the clog counted, the FAN report, the desk's answer. -/
def sweepEndEvents (stamp : DWord) (w : Sweep) (r : SweepRecord) : List Instr :=
  (if r.result = .clogged then [.counterIncrement .sweepsClogged] else [])
    ++ [posting stamp .fan 2 false (BitVec.ofNat 8 w.fan.val)
      { w0 := natWord (sweepCode r.result), w1 := natWord r.worst, w2 := signedWord r.deviation }]
    ++ sweepAnswers w.slot r

/-- What a sweep's end makes of its fan's record. -/
def Fan.afterSweep (x : Fan) (r : SweepRecord) (state : FanState) : Fan :=
  { x with
    lastResult := some r, clogged := cloggedAfter x.clogged r.result, sweepPending := false, state := state
    spinLimit := none, restCount := if state = .running then 0 else x.restCount }

section
variable (s : State) (w : Sweep) (result : SweepResult) (worst : Nat) (dev : Int) (spunOut : Bool)

theorem State.endSweep_eq :
    s.endSweep w result worst dev spunOut =
      (((s.setFan w.fan (s.fans[w.fan].afterSweep (sweepRecord w result worst dev)
        (fanAfterSweep w result spunOut))).setSweep none).publishFan w.fan).sendAll
        (sweepEndEvents s.uptime w (sweepRecord w result worst dev)) := by
  obtain ⟨f, mode, starter, slot, wasFailed, point, phase, measured⟩ := w
  unfold State.endSweep sweepEndEvents sweepRecord sweepAnswers
  by_cases clogged : result = .clogged <;> cases slot <;>
    simp only [clogged, if_true, if_false, State.count_eq, State.answer_eq, State.report_eq_sendAll,
      State.send_eq_sendAll, State.sendAll_sendAll, List.append_assoc] <;> rfl

theorem State.endSweep_mem : (s.endSweep w result worst dev spunOut).mem = s.mem :=
  congrArg Kept.mem (s.endSweep_kept w result worst dev spunOut)

/-- What `endSweep` does is what the statements call the end of a sweep. -/
theorem State.endSweep_sweepEnded :
    SweepEnded s (s.endSweep w result worst dev spunOut) w (sweepRecord w result worst dev)
      (fanAfterSweep w result spunOut) := by
  rw [State.endSweep_eq]
  refine ⟨rfl, rfl, ?_, fun g other => put_other _ other.symm _, ⟨_, sweepAnswers_answersSweep .., ?_⟩, rfl⟩
  · refine (put_same _ _ _).trans ?_
    cases result <;> rfl
  · simp [sweepEndEvents, sweepRecord]

end

/-! ### The last measurement (R43) -/

/-- The state once an update of fan f has formed its RPM (R41), but for the fan status block. -/
def State.atUpdate (s : State) (f : Fin 2) (due rpm : Nat) : State :=
  { s with
    clock := max s.clock due, freeCount := s.freeCount + 1
    fans := put s.fans f { s.fans[f] with rpm := rpm, nextUpdate := some (due + 250000) } }

/-- The sweep with its fourth point measured. -/
def Sweep.lastMeasured (w : Sweep) (taken : List Nat) (rpm : Nat) : Sweep :=
  { w with measured := put w.measured 3 ((taken.sum + rpm) / 4) }

theorem State.takeMeasurement_last (s : State) {w : Sweep} {taken : List Nat} (rpm : Nat) (three : taken.length = 3)
    (last : w.point = 3) : s.takeMeasurement w taken rpm = s.completeSweep (w.lastMeasured taken rpm) := by
  simp [State.takeMeasurement, three, last, Sweep.lastMeasured]

/-- The update that completes the last point of a sweep hands the sweep on, with its fourth mean, to its end. -/
theorem exec_tachometerUpdate_last {s : State} {w : Sweep} {due : Nat} {taken : List Nat} (running : s.sweep = some w)
    (phase : w.phase = .measuring taken) (three : taken.length = 3) (last : w.point = 3)
    (sweeping : s.fans[w.fan].state = .sweeping) (h : s.fans[w.fan].nextUpdate = some due) :
    ∃ rpm, exec (.tachometerUpdate w.fan) s =
      .next (((s.atUpdate w.fan due rpm).showRpm w.fan rpm).completeSweep (w.lastMeasured taken rpm)) := by
  refine ⟨(s.reachTime due).measureRpm w.fan, ?_⟩
  show execTachometerUpdate w.fan s = _
  rw [execTachometerUpdate, h]
  show Outcome.next (State.deliverRpm (((s.atUpdate w.fan due _).showRpm w.fan _)) w.fan _) = _
  generalize (s.reachTime due).measureRpm w.fan = rpm
  have state : ((s.atUpdate w.fan due rpm).showRpm w.fan rpm).fans[w.fan].state = .sweeping := by
    simpa [State.showRpm, State.atUpdate] using sweeping
  have engine : ((s.atUpdate w.fan due rpm).showRpm w.fan rpm).sweep = some w := running
  simp only [State.deliverRpm, state, engine, phase, if_true, State.takeMeasurement_last _ rpm three last]

section
variable {s t : State} {w : Sweep} {r : SweepRecord} {st : FanState} {due rpm : Nat}

/-- The end of a sweep rewrites the fan status block, whatever RPM it showed before. -/
theorem sweepEnded_showRpm {f : Fin 2} {n : Nat} : SweepEnded (s.showRpm f n) t w r st ↔ SweepEnded s t w r st := Iff.rfl

theorem sweepEnded_lastMeasured {taken : List Nat} :
    SweepEnded s t (w.lastMeasured taken rpm) r st ↔ SweepEnded s t w r st := Iff.rfl

theorem SweepEnded.rpm_eq (h : SweepEnded (s.atUpdate w.fan due rpm) t w r st) : t.fans[w.fan].rpm = rpm := by
  obtain ⟨-, -, fan, -⟩ := h
  rw [fan]
  simp [State.atUpdate]

end

/-! ### The record of a TEST sweep (R45) -/

/-- The record that ends a TEST sweep. -/
def testRecord (m : Memory) (w : Sweep) : SweepRecord :=
  sweepRecord w (evaluateTest m w.fan w.measured).1 (evaluateTest m w.fan w.measured).2.1
    (evaluateTest m w.fan w.measured).2.2

section
variable {m : Memory} {w : Sweep}

theorem testRecord_noReference (h : ∃ k : Fin 4, reference m w.fan k = 0) :
    (testRecord m w).result = .noReference ∧ (testRecord m w).worst = 0 ∧ (testRecord m w).deviation = 0 := by
  rw [testRecord, evaluateTest_noReference h]
  exact ⟨rfl, rfl, rfl⟩

theorem testRecord_worst (h : ∀ k : Fin 4, reference m w.fan k ≠ 0) :
    ∃ k : Fin 4, (testRecord m w).worst = k.val + 1 ∧
      (testRecord m w).deviation = pointDeviation m w.fan w.measured k ∧
      (∀ j, (pointDeviation m w.fan w.measured j).natAbs ≤ (pointDeviation m w.fan w.measured k).natAbs) ∧
      ∀ j, j < k → (pointDeviation m w.fan w.measured j).natAbs < (pointDeviation m w.fan w.measured k).natAbs := by
  obtain ⟨k, worst, largest, lowest⟩ := worstOf_deviations m w.fan w.measured
  rw [testRecord, evaluateTest_of_references h, worst]
  exact ⟨k, rfl, rfl, largest, lowest⟩

theorem testRecord_result (h : ∀ k : Fin 4, reference m w.fan k ≠ 0) :
    (testRecord m w).result =
      if ∃ k : Fin 4, w.measured[k] = 0 then .stalled
      else if ∃ k, (clogLimit m w.fan : Int) < pointDeviation m w.fan w.measured k then .clogged
      else if ∃ k, pointDeviation m w.fan w.measured k < -(slowLimit m w.fan : Int) then .slow
      else .normal := by
  rw [testRecord, evaluateTest_of_references h]
  rfl

section
variable (allSet : ∀ k : Fin 4, reference m w.fan k ≠ 0)
include allSet

theorem testRecord_stalled (zero : ∃ k : Fin 4, w.measured[k] = 0) : (testRecord m w).result = .stalled := by
  rw [testRecord_result allSet, if_pos zero]

variable (nonzero : ∀ k : Fin 4, w.measured[k] ≠ 0)
include nonzero

theorem testRecord_clogged (above : ∃ k, (clogLimit m w.fan : Int) < pointDeviation m w.fan w.measured k) :
    (testRecord m w).result = .clogged := by
  rw [testRecord_result allSet, if_neg (not_exists.2 nonzero), if_pos above]

variable (within : ∀ k, pointDeviation m w.fan w.measured k ≤ clogLimit m w.fan)
include within

theorem testRecord_slow (below : ∃ k, pointDeviation m w.fan w.measured k < -(slowLimit m w.fan : Int)) :
    (testRecord m w).result = .slow := by
  rw [testRecord_result allSet, if_neg (not_exists.2 nonzero), if_neg (not_exists.2 fun k => (within k).not_gt),
    if_pos below]

theorem testRecord_normal (above : ∀ k, -(slowLimit m w.fan : Int) ≤ pointDeviation m w.fan w.measured k) :
    (testRecord m w).result = .normal := by
  rw [testRecord_result allSet, if_neg (not_exists.2 nonzero), if_neg (not_exists.2 fun k => (within k).not_gt),
    if_neg (not_exists.2 fun k => (above k).not_gt)]

end

end

/-! ### The end of the last point (R45, R46) -/

theorem State.completeSweep_test (s : State) {w : Sweep} (mode : w.mode = .test) :
    SweepEnded s (s.completeSweep w) w (testRecord s.mem w) (fanAfterSweep w (testRecord s.mem w).result false) := by
  simp only [State.completeSweep, mode]
  exact s.endSweep_sweepEnded ..

/-- The last update of a TEST sweep ends it with the record of its four means. -/
theorem exec_tachometerUpdate_test {s : State} {w : Sweep} {due : Nat} {taken : List Nat} (running : s.sweep = some w)
    (mode : w.mode = .test) (phase : w.phase = .measuring taken) (three : taken.length = 3) (last : w.point = 3)
    (sweeping : s.fans[w.fan].state = .sweeping) (h : s.fans[w.fan].nextUpdate = some due) :
    ∃ t, exec (.tachometerUpdate w.fan) s = .next t ∧ ∃ rpm,
      SweepEnded (s.atUpdate w.fan due rpm) t w (testRecord s.mem (w.lastMeasured taken rpm))
        (fanAfterSweep w (testRecord s.mem (w.lastMeasured taken rpm)).result false) := by
  obtain ⟨rpm, run⟩ := exec_tachometerUpdate_last running phase three last sweeping h
  exact ⟨_, run, rpm, sweepEnded_lastMeasured.1 (sweepEnded_showRpm.1 (State.completeSweep_test _ mode))⟩

/-- The record that ends a RECORD sweep. -/
def recordRecord (w : Sweep) : SweepRecord :=
  sweepRecord w (if ∃ k : Fin 4, w.measured[k] = 0 then .stalled else .normal) 0 0

/-- The exchange memory after a RECORD sweep: its four references written, unless it stalled. -/
def recordMemory (m : Memory) (w : Sweep) : Memory :=
  if ∃ k : Fin 4, w.measured[k] = 0 then m else m.writeBytes (referenceAddr w.fan 0) (referenceBytes w.measured)

theorem State.completeSweep_record (s : State) {w : Sweep} (mode : w.mode = .record) :
    (s.completeSweep w).mem = recordMemory s.mem w ∧
    SweepEnded { s with mem := recordMemory s.mem w } (s.completeSweep w) w (recordRecord w)
      (fanAfterSweep w (recordRecord w).result false) := by
  simp only [State.completeSweep, mode, any_indices, decide_eq_true_eq, recordMemory, recordRecord]
  split
  · exact ⟨s.endSweep_mem .., s.endSweep_sweepEnded ..⟩
  · exact ⟨State.endSweep_mem .., State.endSweep_sweepEnded ..⟩

theorem recordRecord_result_of_zero {w : Sweep} (h : ∃ k : Fin 4, w.measured[k] = 0) :
    (recordRecord w).result = .stalled := if_pos h

theorem recordRecord_result_of_nonzero {w : Sweep} (h : ∀ k : Fin 4, w.measured[k] ≠ 0) :
    (recordRecord w).result = .normal := if_neg (not_exists.2 h)

theorem recordMemory_of_zero {m : Memory} {w : Sweep} (h : ∃ k : Fin 4, w.measured[k] = 0) : recordMemory m w = m :=
  if_pos h

theorem recordMemory_of_nonzero {m : Memory} {w : Sweep} (h : ∀ k : Fin 4, w.measured[k] ≠ 0) :
    recordMemory m w = m.writeBytes (referenceAddr w.fan 0) (referenceBytes w.measured) := if_neg (not_exists.2 h)

/-- After a RECORD sweep, whose result is NORMAL or STALLED, only NORMAL leads to RUNNING (R47 step 3). -/
theorem fanAfterSweep_recordRecord (w v : Sweep) :
    fanAfterSweep w (recordRecord v).result false = if (recordRecord v).result = .normal then .running
      else if w.wasFailed = true then .failed else .resting := by
  by_cases zero : ∃ k : Fin 4, v.measured[k] = 0
  · simp [recordRecord_result_of_zero zero, fanAfterSweep]
  · simp [recordRecord_result_of_nonzero (not_exists.1 zero), fanAfterSweep]

/-- The last update of a RECORD sweep ends it with its record, and its references in the memory. -/
theorem exec_tachometerUpdate_record {s : State} {w : Sweep} {due : Nat} {taken : List Nat} (running : s.sweep = some w)
    (mode : w.mode = .record) (phase : w.phase = .measuring taken) (three : taken.length = 3) (last : w.point = 3)
    (sweeping : s.fans[w.fan].state = .sweeping) (h : s.fans[w.fan].nextUpdate = some due) :
    ∃ t, exec (.tachometerUpdate w.fan) s = .next t ∧ ∃ rpm,
      t.mem = recordMemory s.mem (w.lastMeasured taken rpm) ∧
      SweepEnded ({ s with mem := t.mem }.atUpdate w.fan due rpm) t w (recordRecord (w.lastMeasured taken rpm))
        (fanAfterSweep w (recordRecord (w.lastMeasured taken rpm)).result false) := by
  obtain ⟨rpm, run⟩ := exec_tachometerUpdate_last running phase three last sweeping h
  obtain ⟨mem, ended⟩ := State.completeSweep_record ((s.atUpdate w.fan due rpm).showRpm w.fan rpm)
    (w := w.lastMeasured taken rpm) mode
  refine ⟨_, run, rpm, mem, ?_⟩
  rw [mem]
  exact ended

/-! ### The references a RECORD sweep writes (R46) -/

theorem bytes16_append (w : Word) : (w >>> 8).setWidth 8 ++ w.setWidth 8 = w := by
  ext i hi
  simp only [BitVec.getElem_append, BitVec.getElem_setWidth, BitVec.getLsbD_ushiftRight]
  split <;> grind

theorem referenceBytes_length (v : Vector Nat 4) : (referenceBytes v).length = 8 := rfl

theorem referenceBytes_append (v : Vector Nat 4) (k : Fin 4) :
    (referenceBytes v).getD (2 * k.val + 1) 0 ++ (referenceBytes v).getD (2 * k.val) 0 = BitVec.ofNat 16 v[k] := by
  rw [← bytes16_append (BitVec.ofNat 16 v[k])]
  fin_cases k <;> rfl

theorem Memory.read16_referenceBytes (m : Memory) (f : Fin 2) (v : Vector Nat 4) (k : Fin 4) :
    (m.writeBytes (referenceAddr f 0) (referenceBytes v)).read16 (referenceAddr f k.val) = BitVec.ofNat 16 v[k] := by
  rw [← referenceBytes_append]
  have place : referenceAddr f k.val = referenceAddr f 0 + 2 * k.val := rfl
  have low : referenceAddr f k.val - referenceAddr f 0 = 2 * k.val := by omega
  have high : referenceAddr f k.val + 1 - referenceAddr f 0 = 2 * k.val + 1 := by omega
  rw [Memory.read16, Memory.read_writeBytes, Memory.read_writeBytes, referenceBytes_length, if_pos (by omega),
    if_pos (by omega), low, high]

theorem Memory.read_referenceBytes_other (m : Memory) (f : Fin 2) (v : Vector Nat 4) {a : Nat}
    (h : a < referenceAddr f 0 ∨ referenceAddr f 0 + 8 ≤ a) :
    (m.writeBytes (referenceAddr f 0) (referenceBytes v)).read a = m.read a := by
  rw [Memory.read_writeBytes, referenceBytes_length, if_neg (by omega)]

end Sys2Proof.Machine

namespace Sys2Proof.Settled

open Sys2Proof Sys2Proof.Machine Host

/-- Settles O18: the last update ends the sweep with the record of its four means, whose result and worst point are
those of R45. -/
theorem testSweepResult : Obligations.TestSweepResult := by
  intro s w due taken running mode phase three last sweeping h
  obtain ⟨t, run, rpm, ended⟩ := exec_tachometerUpdate_test running mode phase three last sweeping h
  refine ⟨t, testRecord s.mem (w.lastMeasured taken rpm), run, ?_⟩
  dsimp only
  rw [ended.rpm_eq]
  refine ⟨rfl, testRecord_noReference (w := w.lastMeasured taken rpm), fun references => ?_, ended⟩
  have allSet : ∀ k, reference s.mem (w.lastMeasured taken rpm).fan k ≠ 0 := references
  exact ⟨testRecord_worst allSet, testRecord_stalled allSet, testRecord_clogged allSet, testRecord_slow allSet,
    testRecord_normal allSet⟩

/-- Settles O19: the last update ends the sweep with STALLED and the memory it found, or with NORMAL and the fan's
eight reference bytes written. -/
theorem recordSweepResult : Obligations.RecordSweepResult := by
  intro s w due taken running mode phase three last sweeping h
  obtain ⟨t, run, rpm, mem, ended⟩ := exec_tachometerUpdate_record running mode phase three last sweeping h
  refine ⟨t, recordRecord (w.lastMeasured taken rpm), run, ?_⟩
  dsimp only
  rw [ended.rpm_eq, ← fanAfterSweep_recordRecord w]
  refine ⟨rfl, rfl, rfl, fun zero => ⟨recordRecord_result_of_zero zero, mem.trans (recordMemory_of_zero zero)⟩,
    fun nonzero => ⟨recordRecord_result_of_nonzero nonzero, ?_⟩, ended⟩
  rw [mem, recordMemory_of_nonzero nonzero]
  exact ⟨Memory.read16_referenceBytes s.mem w.fan _, fun a outside => Memory.read_referenceBytes_other _ _ _ outside⟩

end Sys2Proof.Settled
end

section
/-! SUPPORT. The heater budget of a climate pass (R27 to R30): the order in which the zones are served, what serving them
in turn grants, the granted duties, and what of a pass's grants stands in the state after it. Obligation O10. -/

namespace Sys2Proof.Machine

open Sys2Proof Host

/-! ### Serving in turn (R29) -/

section
variable (requests : Vector Nat 3)

theorem serve_cons (z : Fin 3) (order : List (Fin 3)) (remaining : Nat) (grants : Vector Nat 3) :
    serve requests (z :: order) remaining grants =
      serve requests order (remaining - min requests[z] remaining) (put grants z (min requests[z] remaining)) := rfl

theorem serve_notMem (z : Fin 3) (order : List (Fin 3)) : ∀ (remaining : Nat) (grants : Vector Nat 3), z ∉ order →
    (serve requests order remaining grants).1[z] = grants[z] := by
  induction order with
  | nil => intros; rfl
  | cons y order ih =>
    intro remaining grants absent
    obtain ⟨other, absent⟩ := not_or.1 (mt List.mem_cons.2 absent)
    rw [serve_cons, ih _ _ absent, put_other _ (Ne.symm other)]

theorem serve_head {z : Fin 3} {order : List (Fin 3)} (remaining : Nat) (grants : Vector Nat 3) (once : z ∉ order) :
    (serve requests (z :: order) remaining grants).1[z] = min requests[z] remaining := by
  rw [serve_cons, serve_notMem _ _ _ _ _ once, put_same]

/-- A zone is granted the smaller of its request and what the zones served before it have left. -/
theorem serve_grant (z : Fin 3) (after before : List (Fin 3)) : ∀ (remaining : Nat) (grants : Vector Nat 3),
    (before ++ z :: after).Nodup →
    (serve requests (before ++ z :: after) remaining grants).1[z] =
      min requests[z]
        (remaining - (before.map fun y => (serve requests (before ++ z :: after) remaining grants).1[y]).sum) := by
  induction before with
  | nil =>
    intro remaining grants nodup
    exact serve_head _ _ _ (List.nodup_cons.1 nodup).1
  | cons y before ih =>
    intro remaining grants nodup
    rw [List.cons_append] at nodup ⊢
    obtain ⟨once, nodup⟩ := List.nodup_cons.1 nodup
    rw [List.map_cons, List.sum_cons, serve_head _ _ _ once, serve_cons, ih _ _ nodup, Nat.sub_sub]

/-- The grants never exceed what there was. -/
theorem serve_sum_le (order : List (Fin 3)) : ∀ (remaining : Nat) (grants : Vector Nat 3), order.Nodup →
    (order.map fun y => (serve requests order remaining grants).1[y]).sum ≤ remaining := by
  induction order with
  | nil => intros; exact Nat.zero_le _
  | cons y order ih =>
    intro remaining grants nodup
    obtain ⟨once, nodup⟩ := List.nodup_cons.1 nodup
    rw [List.map_cons, List.sum_cons, serve_head _ _ _ once, serve_cons]
    have rest := ih (remaining - min requests[y] remaining) (put grants y (min requests[y] remaining)) nodup
    omega

end

/-! ### The order of service (R29) -/

/-- Zone y is served before zone z: by its priority, equal priorities by their numbers. -/
abbrev ServedBefore (m : Memory) (y z : Fin 3) : Prop :=
  (zoneCfg m y).priority < (zoneCfg m z).priority ∨ ((zoneCfg m y).priority = (zoneCfg m z).priority ∧ y < z)

section
variable (m : Memory)

theorem ServedBefore.asymm {m : Memory} {y z : Fin 3} (h : ServedBefore m y z) : ¬ ServedBefore m z y := by
  unfold ServedBefore at *
  omega

theorem zoneCfg_priority_le (z : Fin 3) : (zoneCfg m z).priority ≤ 2 := Nat.min_le_right _ _

theorem mem_serveOrder (z : Fin 3) : z ∈ serveOrder m := by
  have := zoneCfg_priority_le m z
  simp only [serveOrder, List.mem_flatMap, List.mem_filter, mem_indices, decide_eq_true_eq, true_and]
  exact ⟨_, by simp; omega, rfl⟩

theorem indices_pairwise_lt (n : Nat) : (indices n).Pairwise (· < ·) := by
  simp [indices, List.pairwise_ofFn]

theorem serveOrder_pairwise : (serveOrder m).Pairwise (ServedBefore m) := by
  refine List.pairwise_flatMap.2 ⟨fun p _ => ?_, ?_⟩
  · refine ((indices_pairwise_lt 3).filter _).imp_of_mem fun {y z} hy hz lower => .inr ⟨?_, lower⟩
    simp only [List.mem_filter, decide_eq_true_eq] at hy hz
    rw [hy.2, hz.2]
  · refine List.Pairwise.imp (R := (· < ·)) (fun {p q} lower y hy z hz => .inl ?_) (by decide)
    simp only [List.mem_filter, decide_eq_true_eq] at hy hz
    rw [hy.2, hz.2]
    exact lower

theorem serveOrder_nodup : (serveOrder m).Nodup :=
  (serveOrder_pairwise m).imp (S := (· ≠ ·)) fun {y z} before same => by
    subst same
    exact before.asymm before

theorem serveOrder_perm : (serveOrder m).Perm (indices 3) :=
  (List.perm_ext_iff_of_nodup (serveOrder_nodup m) indices_nodup).2 fun z => by simp [mem_serveOrder]

/-- The zones served before z are those of higher priority, or of equal priority and lower number. -/
theorem serveOrder_before (z : Fin 3) : ∃ before after : List (Fin 3), serveOrder m = before ++ z :: after ∧
    before.Perm ((indices 3).filter fun y => decide (ServedBefore m y z)) := by
  obtain ⟨before, after, order⟩ := List.append_of_mem (mem_serveOrder m z)
  have sorted := serveOrder_pairwise m
  have nodup := serveOrder_nodup m
  rw [order] at sorted nodup
  obtain ⟨-, sortedAfter, sortedBefore⟩ := List.pairwise_append.1 sorted
  refine ⟨before, after, order, (List.perm_ext_iff_of_nodup nodup.of_append_left (indices_nodup.filter _)).2 fun y => ?_⟩
  simp only [List.mem_filter, mem_indices, true_and, decide_eq_true_eq]
  refine ⟨fun h => sortedBefore y h z List.mem_cons_self, fun earlier => ?_⟩
  have place := mem_serveOrder m y
  rw [order, List.mem_append, List.mem_cons] at place
  rcases place with h | rfl | h
  · exact h
  · exact absurd earlier earlier.asymm
  · exact absurd earlier ((List.pairwise_cons.1 sortedAfter).1 y h).asymm

end

/-! ### The granted duty (R30) -/

section
variable (demand rated request grant : Nat)

@[simp] theorem grantedDuty_tripped : grantedDuty true demand rated request grant = 0 := rfl

@[simp] theorem grantedDuty_full : grantedDuty false demand rated request request = demand := by simp [grantedDuty]

variable {request grant}

theorem grantedDuty_cut (cut : grant < request) :
    grantedDuty false demand rated request grant = grant * 1000 / rated := by
  simp [grantedDuty, cut.ne]

/-- A granted duty is at most the demand whose request it was granted on. -/
theorem grantedDuty_le (tripped : Bool) (within : grant ≤ request) (asked : request ≤ demand * rated / 1000) :
    grantedDuty tripped demand rated request grant ≤ demand := by
  cases tripped with
  | true => exact Nat.zero_le _
  | false =>
    rcases within.eq_or_lt with rfl | cut
    · rw [grantedDuty_full]
    · rw [grantedDuty_cut _ _ cut]
      refine Nat.div_le_of_le_mul ?_
      calc grant * 1000 ≤ demand * rated / 1000 * 1000 := Nat.mul_le_mul_right _ (within.trans asked)
        _ ≤ demand * rated := Nat.div_mul_le_self ..
        _ = rated * demand := Nat.mul_comm ..

end

/-! ### A pass's grants (R27 to R30) -/

section
variable (s : State) (low : Bool) (z : Fin 3)

theorem State.formGrants_request : (s.formGrants low).requests[z] = s.zoneRequest z := ofFn_get _ _

theorem State.formGrants_grants :
    (s.formGrants low).grants =
      (serve (s.formGrants low).requests (serveOrder s.mem) (s.formGrants low).available (Vector.replicate 3 0)).1 := rfl

theorem State.formGrants_duty :
    (s.formGrants low).duties[z] =
      grantedDuty s.budget.tripped[z] s.zones[z].lastDemand (zoneCfg s.mem z).rated (s.formGrants low).requests[z]
        (s.formGrants low).grants[z] := ofFn_get _ _

theorem State.formGrants_grant :
    (s.formGrants low).grants[z] = min (s.formGrants low).requests[z] ((s.formGrants low).available
      - (((indices 3).filter fun y => decide (ServedBefore s.mem y z)).map fun y => (s.formGrants low).grants[y]).sum) := by
  obtain ⟨before, after, order, perm⟩ := serveOrder_before s.mem z
  rw [← (perm.map _).sum_eq]
  have nodup := serveOrder_nodup s.mem
  rw [State.formGrants_grants, order]
  rw [order] at nodup
  exact serve_grant _ z after before _ _ nodup

theorem State.formGrants_sum_le :
    (s.formGrants low).grants[(0 : Fin 3)] + (s.formGrants low).grants[(1 : Fin 3)]
      + (s.formGrants low).grants[(2 : Fin 3)] ≤ (s.formGrants low).available := by
  have sum := serve_sum_le (s.formGrants low).requests (serveOrder s.mem) (s.formGrants low).available
    (Vector.replicate 3 0) (serveOrder_nodup s.mem)
  rw [((serveOrder_perm s.mem).map _).sum_eq] at sum
  refine le_trans (le_of_eq ?_) sum
  simp [indices, State.formGrants, Nat.add_assoc]

theorem State.zoneRequest_eq :
    s.zoneRequest z = if (zoneCfg s.mem z).rated = 0 ∨ s.budget.tripped[z] = true then 0
      else s.zones[z].lastDemand * (zoneCfg s.mem z).rated / 1000 := by
  simp [State.zoneRequest, ZoneCfg.used]

theorem State.zoneRequest_le : s.zoneRequest z ≤ s.zones[z].lastDemand * (zoneCfg s.mem z).rated / 1000 := by
  rw [State.zoneRequest_eq]
  split
  · exact Nat.zero_le _
  · exact le_rfl

theorem State.formGrants_duty_le : (s.formGrants low).duties[z] ≤ s.zones[z].lastDemand := by
  rw [State.formGrants_duty]
  refine grantedDuty_le _ _ _ ?_ ?_
  · rw [State.formGrants_grant]
    exact Nat.min_le_left _ _
  · rw [State.formGrants_request]
    exact s.zoneRequest_le z

end

/-! ### What the work of a pass before its grants leaves: the supervisor -/

section
variable (s : State)

@[simp] theorem State.openGate_sup (b p) : (s.openGate b p).sup = s.sup := by
  cases b <;> rfl

@[simp] theorem State.gateMove_sup (r m p) : (s.gateMove r m p).sup = s.sup := by
  unfold State.gateMove; dsimp only; repeat' split
  all_goals simp [State.reportWarmUp]

@[simp] theorem State.limitMove_sup (z d p) : (s.limitMove z d p).sup = s.sup := by
  unfold State.limitMove; dsimp only; repeat' split
  all_goals simp

@[simp] theorem takeT0_sup : (takeT0 s).sup = s.sup := by
  unfold takeT0; split <;> rfl

@[simp] theorem State.gatePass_sup (r) : (s.gatePass r).sup = s.sup := by
  unfold State.gatePass
  exact (takeT0_sup _).trans (by simp [State.gateWork])

@[simp] theorem State.wakeFan_sup (f) : (s.wakeFan f).sup = s.sup := rfl

@[simp] theorem State.fanStateWork_sup (f) : (s.fanStateWork f).sup = s.sup := by
  unfold State.fanStateWork; dsimp only; repeat' split
  all_goals simp

@[simp] theorem State.endSweep_sup (w r n d b) : (s.endSweep w r n d b).sup = s.sup := by
  rw [State.endSweep_eq]; simp

@[simp] theorem State.sweepAbortWork_sup : s.sweepAbortWork.sup = s.sup := by
  unfold State.sweepAbortWork; repeat' split
  all_goals simp

@[simp] theorem State.fanPass_sup : s.fanPass.sup = s.sup := by
  unfold State.fanPass; simp

@[simp] theorem State.demandPass_sup (r) : (s.demandPass r).sup = s.sup := rfl

@[simp] theorem State.interlockPass_sup : s.interlockPass.sup = s.sup := rfl

end

/-! ### The work after the grants -/

section
variable (s : State) (g : Grants)

theorem Budget.afterPass_tripped (b : Budget) (short : Bool) : (b.afterPass short).1.tripped = b.tripped := by
  unfold Budget.afterPass; dsimp only; repeat' split
  all_goals rfl

theorem State.episodePass_eq :
    s.episodePass g = { s with budget := (s.episodePass g).budget, transit := (s.episodePass g).transit } := by
  unfold State.episodePass; dsimp only; split <;> rfl

theorem State.episodePass_zones : (s.episodePass g).zones = s.zones := by rw [State.episodePass_eq]

theorem State.episodePass_driven : (s.episodePass g).driven = s.driven := by rw [State.episodePass_eq]; rfl

theorem State.episodePass_tripped : (s.episodePass g).budget.tripped = s.budget.tripped := by
  unfold State.episodePass; dsimp only; split <;> exact Budget.afterPass_tripped ..

end

section
variable (s : State) (g : Grants) (low : Bool) (z : Fin 3)

theorem State.applyGrants_budget : (s.applyGrants g low).budget = s.budget := rfl

theorem State.applyGrants_driven : (s.applyGrants g low).driven = s.driven := rfl

theorem State.applyGrants_available : (s.applyGrants g low).shown.budget.available = g.available := rfl

theorem State.applyGrants_zone : (s.applyGrants g low).zones[z] = { s.zones[z] with lastGrant := g.duties[z] } :=
  ofFn_get _ z

theorem State.applyGrants_request : (s.applyGrants g low).shown.zones[z].request = g.requests[z] :=
  congrArg ZoneShown.request (ofFn_get _ z)

theorem State.applyGrants_grant : (s.applyGrants g low).shown.zones[z].grant = g.grants[z] :=
  congrArg ZoneShown.grant (ofFn_get _ z)

end

/-- What is left of a pass after its grants: the fan status block, the light unit's progress, and two events (R7). -/
def State.closePass (s : State) (rearm : Bool) : State :=
  let s := (s.publishFan 0).publishFan 1
  let s := { s with chords := s.chords.takeProgress rearm s.gate.progress }
  (s.count .passes).send (.gateReport s.gate.state rearm)

section
variable (s : State) (rearm : Bool)

@[simp] theorem State.closePass_zones : (s.closePass rearm).zones = s.zones := rfl
@[simp] theorem State.closePass_budget : (s.closePass rearm).budget = s.budget := rfl
@[simp] theorem State.closePass_driven : (s.closePass rearm).driven = s.driven := rfl
@[simp] theorem State.closePass_shown_zones : (s.closePass rearm).shown.zones = s.shown.zones := rfl
@[simp] theorem State.closePass_shown_budget : (s.closePass rearm).shown.budget = s.shown.budget := rfl

end

/-- The state in which a pass forms its grants: after the demands, the gate, the fans and the interlocks (R7). -/
def State.beforeGrants (s : State) : State :=
  ((((s.setGate s.gate.passBegins).demandPass s.gate.rearmPending).gatePass s.gate.rearmPending).fanPass).interlockPass

/-- The grants of a pass. -/
def State.passGrants (s : State) (low : Bool) : Grants := s.beforeGrants.formGrants low

section
variable (s : State) (low : Bool) (z : Fin 3)

theorem State.beforeGrants_mem : s.beforeGrants.mem = s.mem :=
  have kept : s.beforeGrants.kept = s.kept := by simp [State.beforeGrants]
  congrArg Kept.mem kept

theorem State.beforeGrants_sup : s.beforeGrants.sup = s.sup := by simp [State.beforeGrants]

theorem State.climatePass_eq :
    s.climatePass low =
      ((s.beforeGrants.episodePass (s.passGrants low)).applyGrants (s.passGrants low) low).closePass
        s.gate.rearmPending := rfl

theorem State.climatePass_zone :
    (s.climatePass low).zones[z] = { s.beforeGrants.zones[z] with lastGrant := (s.passGrants low).duties[z] } := by
  simp only [State.climatePass_eq, State.closePass_zones, State.applyGrants_zone, State.episodePass_zones]

theorem State.climatePass_tripped : (s.climatePass low).budget.tripped = s.beforeGrants.budget.tripped := by
  rw [State.climatePass_eq, State.closePass_budget, State.applyGrants_budget, State.episodePass_tripped]

theorem State.climatePass_driven : (s.climatePass low).driven = s.beforeGrants.driven := by
  rw [State.climatePass_eq, State.closePass_driven, State.applyGrants_driven, State.episodePass_driven]

theorem State.climatePass_available : (s.climatePass low).shown.budget.available = (s.passGrants low).available := by
  rw [State.climatePass_eq, State.closePass_shown_budget, State.applyGrants_available]

theorem State.climatePass_request :
    (s.climatePass low).shown.zones[z].request = (s.passGrants low).requests[z] := by
  simp only [State.climatePass_eq, State.closePass_shown_zones, State.applyGrants_request]

theorem State.climatePass_grant : (s.climatePass low).shown.zones[z].grant = (s.passGrants low).grants[z] := by
  simp only [State.climatePass_eq, State.closePass_shown_zones, State.applyGrants_grant]

end

/-! ### The grants as the state after the pass tells them -/

section
variable (s : State) (low : Bool) (z : Fin 3)

theorem State.passGrants_available :
    (s.passGrants low).available =
      if low = true then 0
      else supplyBudget s.mem - (if s.sup.reservation = true then hostReservation s.mem else 0)
        - (fanRated s.mem 0 * (s.climatePass low).driven 0 / 1000
          + fanRated s.mem 1 * (s.climatePass low).driven 1 / 1000) := by
  rw [State.climatePass_driven, ← State.beforeGrants_mem, ← State.beforeGrants_sup]
  rfl

theorem State.passGrants_request :
    (s.passGrants low).requests[z] =
      if (zoneCfg s.mem z).rated = 0 ∨ (s.climatePass low).budget.tripped[z] = true then 0
      else (s.climatePass low).zones[z].lastDemand * (zoneCfg s.mem z).rated / 1000 := by
  rw [State.climatePass_tripped, State.climatePass_zone, State.passGrants, State.formGrants_request, State.zoneRequest_eq,
    State.beforeGrants_mem]

theorem State.passGrants_grant :
    (s.passGrants low).grants[z] = min (s.passGrants low).requests[z] ((s.passGrants low).available
      - (((indices 3).filter fun y => decide (ServedBefore s.mem y z)).map fun y => (s.passGrants low).grants[y]).sum) := by
  rw [← State.beforeGrants_mem]
  exact State.formGrants_grant ..

theorem State.climatePass_lastGrant :
    (s.climatePass low).zones[z].lastGrant =
      grantedDuty (s.climatePass low).budget.tripped[z] (s.climatePass low).zones[z].lastDemand (zoneCfg s.mem z).rated
        (s.passGrants low).requests[z] (s.passGrants low).grants[z] := by
  rw [State.climatePass_tripped, State.climatePass_zone, ← State.beforeGrants_mem]
  exact State.formGrants_duty ..

theorem State.climatePass_lastGrant_le :
    (s.climatePass low).zones[z].lastGrant ≤ (s.climatePass low).zones[z].lastDemand := by
  rw [State.climatePass_zone]
  exact State.formGrants_duty_le ..

end

theorem exec_climatePass (low : Bool) {s : State} {due : Nat} (h : s.nextPass = some due) :
    exec (.climatePass low) s =
      .next ({ s.reachTime due with nextPass := some (due + Config.passPeriod) }.climatePass low) := by
  show execClimatePass low s = _
  rw [execClimatePass, h]

end Sys2Proof.Machine

namespace Sys2Proof.Settled

open Sys2Proof Sys2Proof.Machine Host

/-- Settles O10: the zones stand in the order of service as R29 has them, so what is left to a zone is the budget less
the grants of those before it, and every figure of the pass stands in the state after it. -/
theorem grantsWithinBudget : Obligations.GrantsWithinBudget := by
  intro low s due h
  refine ⟨_, exec_climatePass low h, ?_⟩
  generalize atPass : ({ s.reachTime due with nextPass := some (due + Config.passPeriod) } : State) = u
  have mem : s.mem = u.mem := by rw [← atPass]; rfl
  have sup : s.sup = u.sup := by rw [← atPass]; rfl
  simp only [mem, sup, State.climatePass_available, State.climatePass_request, State.climatePass_grant]
  refine ⟨u.passGrants_available low, State.formGrants_sum_le .., fun z => ⟨u.passGrants_request low z,
    u.passGrants_grant low z, u.climatePass_lastGrant_le low z, ?_⟩⟩
  rw [State.climatePass_lastGrant]
  refine ⟨fun tripped => ?_, fun clear full => ?_, fun clear cut => ?_⟩
  · rw [tripped, grantedDuty_tripped]
  · rw [clear, full, grantedDuty_full]
  · rw [clear, grantedDuty_cut _ _ cut]

end Sys2Proof.Settled
end

section
/-! SUPPORT. The step (R7 of 95, logs 1 and 19), power-on reset (R164), and the units whose commands are one update of
their own record: counters (R162, R153), notice unit (R140 to R142), cold mode (R94) and the fence of the link port
(R138). -/

namespace Sys2Proof.Machine

open Sys2Proof Host

/-! ### What a step runs -/

section
variable {s t : State} {c : Instr} {rest : List Instr}

theorem step_cons (h : s.pending = c :: rest) : step s = exec c { s with pending := rest } := by
  unfold step
  rw [h]

theorem step_transit (h : s.pending = []) (h' : s.transit = c :: rest) : step s = exec c s := by
  unfold step
  rw [h, h']

theorem step_idle (h : s.pending = []) (h' : s.transit = []) : step s = .next s.idle := by
  unfold step
  rw [h, h']

/-- A step runs the command it takes on the state with what is left of the queue, or the part idles. -/
theorem step_next (h : step s = .next t) :
    (∃ c rest, s.taken = some c ∧ exec c { s with pending := rest } = .next t) ∨ t = s.idle := by
  cases queue : s.pending with
  | cons c rest =>
    rw [step_cons queue] at h
    exact .inl ⟨c, rest, by simp [State.taken, queue], h⟩
  | nil =>
    cases events : s.transit with
    | cons c rest =>
      rw [step_transit queue events] at h
      have whole : ({ s with pending := [], transit := c :: rest } : State) = s := by rw [← queue, ← events]
      exact .inl ⟨c, [], by simp [State.taken, queue, events], whole ▸ h⟩
    | nil =>
      rw [step_idle queue events] at h
      exact .inr (Outcome.next.inj h).symm

/-- A property that the queue and the clock do not touch is kept by every step when every command keeps it. -/
theorem step_keeps {P : State → Prop} (queue : ∀ u rest, P u → P { u with pending := rest })
    (idle : ∀ u, P u → P u.idle) (command : ∀ c u v, P u → exec c u = .next v → P v) (hs : P s) (h : step s = .next t) :
    P t := by
  obtain ⟨c, rest, -, run⟩ | rfl := step_next h
  · exact command c _ t (queue s rest hs) run
  · exact idle s hs

end

/-! ### Power-on reset (R164) -/

theorem State.nvNow_of_storing {s : State} {slot image crc at_} (h : s.store = .storing slot image crc at_) :
    s.nvNow = if at_ ≤ s.clock then s.nv.Erased else s.nv := by
  simp only [State.nvNow, h]
  rfl

/-- Step 1 of start-up: every block stands at its power-on values (R164). -/
theorem State.powerOn1_poweredOn (s : State) (low : Bool) (pg : Vector Bool 6) :
    PoweredOn s (s.powerOn1 low pg) fun r => pg[r] := by
  have erased : ∀ slot image crc at_, s.store = .storing slot image crc at_ → at_ ≤ s.clock → s.nvNow = s.nv.Erased :=
    fun _ _ _ _ storing begun => by rw [State.nvNow_of_storing storing, if_pos begun]
  have kept : (∀ slot image crc at_, s.store = .storing slot image crc at_ → s.clock < at_) → s.nvNow = s.nv := by
    intro early
    unfold State.nvNow
    split
    · next storing => rw [if_neg (Nat.not_le.mpr (early _ _ _ _ storing))]
    · rfl
  refine ⟨rfl, rfl, rfl, rfl, erased, kept, fun a => rfl, ?_⟩
  simp [State.powerOn1, State.reset, State.driven, Fan.drivenDuty, Link.isOpen]

theorem exec_powerOnReset (e : ResetEvent) (pg : BitVec 6) (s : State) :
    exec (.powerOnReset e pg) s = .next ((s.elapse e.us).powerOn1 e.held (Vector.ofFn fun r => pg.getLsbD r.val)) := rfl

theorem exec_resetRelease (s : State) :
    exec .resetRelease s =
      if s.resetHeld then .next (s.powerOn1 false (Vector.ofFn fun r => s.rails[r].good)) else .next s := rfl

/-! ### Counters (R162, R153) -/

section
variable (s : State)

theorem Counters.bump_frozen (u : Counters) (c : Counter) : (u.bump c).frozen = u.frozen := by
  unfold Counters.bump; split <;> rfl

theorem Counters.bump_values (u : Counters) (c : Counter) (i : Fin 54) :
    (u.bump c).values[i] =
      if i = counterPosition c ∧ u.frozen = false ∧ u.values[i] < Config.top32 then u.values[i] + 1 else u.values[i] := by
  unfold Counters.bump
  cases frozen : u.frozen with
  | true => simp
  | false =>
    by_cases here : i = counterPosition c
    · subst here
      rw [if_neg (by simp), upd_same, satSucc]
      simp
    · rw [if_neg (by simp), upd_other _ (Ne.symm here), if_neg (by simp [here])]

theorem Counters.clear_values (u : Counters) (g : Nat) (i : Fin 54) :
    (u.clear g).values[i] =
      if (groupSpan g).1 ≤ i.val ∧ i.val < (groupSpan g).1 + (groupSpan g).2 then 0 else u.values[i] := ofFn_get _ _

theorem exec_counterIncrement (c : Counter) :
    exec (.counterIncrement c) s = .next { s.taking (.counterIncrement c) with counters := s.counters.bump c } := rfl

theorem exec_clearCounters {slot : Fin 8} {group : Word} (h : group.toNat ≤ 6) :
    exec (.clearCounters slot group) s =
      .next ({ s.taking (.clearCounters slot group) with counters := s.counters.clear group.toNat }.answer slot .done) := by
  show execClearCounters slot group s = _
  unfold execClearCounters
  rw [if_neg (Nat.not_lt.mpr h)]
  rfl

/-- The desk's code of a group (12.3) spans what the statement names by its first and last position (12.9). -/
theorem groupSpan_eq (g : Fin 7) :
    (groupSpan g.val).1 = (![0, 14, 22, 34, 40, 45, 0] : Fin 7 → Nat) g ∧
      (groupSpan g.val).1 + (groupSpan g.val).2 = (![14, 22, 34, 40, 45, 54, 54] : Fin 7 → Nat) g := by
  decide +revert

end

/-! ### The notice unit (R140 to R142) -/

section
variable (s : State)

theorem State.noticeLine_floating_iff : s.noticeLine = .floating ↔ ¬ (s.link.commanded = true ∧ s.link.good = true) := by
  unfold State.noticeLine Link.isOpen
  cases commanded : s.link.commanded <;> cases good : s.link.good <;> simp
  split <;> simp

theorem six_marks_ne_zero_iff (b : Byte) : b &&& 0x3F#8 ≠ 0#8 ↔ ∃ i : Nat, i < 6 ∧ b.getLsbD i = true := by
  have low : b &&& 0x3F#8 = (b.setWidth 6).setWidth 8 := by decide +revert
  constructor
  · intro marked
    by_contra none
    push Not at none
    apply marked
    apply BitVec.eq_of_getLsbD_eq
    intro i hi
    have bits : i < 6 → b.getLsbD i = false := fun below => by simpa using none i below
    rw [low]
    simp
    grind
  · rintro ⟨i, below, set⟩ zero
    have : ((b.setWidth 6).setWidth 8).getLsbD i = true := by simp [below, set]; omega
    rw [← low, zero] at this
    simp at this

theorem State.noticeLine_asserted_iff :
    s.noticeLine = .asserted ↔ s.link.commanded = true ∧ s.link.good = true ∧
      ∃ i : Nat, i < 6 ∧ s.notice.marks.getLsbD i = true ∧ s.notice.enable.getLsbD i = true := by
  have marked := six_marks_ne_zero_iff (s.notice.marks &&& s.notice.enable)
  simp only [BitVec.getLsbD_and, Bool.and_eq_true] at marked
  rw [← marked, ← and_assoc]
  unfold State.noticeLine Link.isOpen
  cases commanded : s.link.commanded <;> cases good : s.link.good <;> simp

end

/-- The bit of a mark (12.2), by its number. -/
theorem markBit_getLsbD (m : Mark) (i : Nat) :
    (markBit m).getLsbD i = decide (i = match m with
      | .desk => 0 | .reports => 1 | .urgent => 2 | .heartbeat => 3 | .stray => 4 | .settings => 5) := by
  by_cases byte : i < 8
  · interval_cases i <;> cases m <;> rfl
  · rw [BitVec.getLsbD_of_ge _ _ (by omega)]
    cases m <;> simp <;> omega

/-! ### Cold mode (R94) -/

section
variable {cold sampled : Bool} {limit held : Int} {state : Validity}

theorem coldModeAfter_unknown (h : state = .failed ∨ sampled = false) :
    coldModeAfter cold limit state held sampled = cold := by
  unfold coldModeAfter
  rw [if_pos (by simpa using h)]

theorem coldModeAfter_known (notFailed : state ≠ .failed) (known : sampled = true) :
    coldModeAfter cold limit state held sampled =
      if held < limit then true else if limit + 32 ≤ held then false else cold := by
  unfold coldModeAfter
  rw [if_neg (by simp [notFailed, known])]

end

/-! ### The link port FENCED (R138) -/

section
variable {s : State}

theorem Link.serving_eq_some_iff {x : Transfer} : s.link.serving = some x ↔ s.Serves x := by
  unfold Link.serving Link.isOpen
  constructor
  · intro h
    split at h
    · next isOpen => exact ⟨by simpa using isOpen, h⟩
    · exact absurd h (by simp)
  · rintro ⟨isOpen, begun⟩
    rw [if_pos (by simpa using isOpen), begun]

theorem Link.serving_eq_none (h : ∀ x, ¬ s.Serves x) : s.link.serving = none :=
  Option.eq_none_iff_forall_ne_some.mpr fun x serves => h x (Link.serving_eq_some_iff.mp serves)

/-- Every command of a chip select period is the same moment at the port, with its own command byte (log 18). -/
theorem exec_select (cs : SelectEvent) (c : Byte) (inbound : List Byte) (s : State) :
    exec (.status cs inbound) s = .next (s.select cs 0xA0#8 inbound) ∧
      exec (.read cs inbound) s = .next (s.select cs 0xA1#8 inbound) ∧
      exec (.write cs inbound) s = .next (s.select cs 0xA2#8 inbound) ∧
      exec (.badCommand cs c inbound) s = .next (s.select cs c inbound) := ⟨rfl, rfl, rfl, rfl⟩

variable (us : Nat) (command : Byte) (inbound : List Byte)

theorem State.select_falls :
    s.select { us := us, moment := .falls } command inbound = { s with
      clock := s.clock + us
      link := { s.link with transfer :=
        if s.link.isOpen then some { status := (s.elapse us).statusByte } else none } } := rfl

theorem State.select_acts_idle (h : ∀ x, ¬ s.Serves x) :
    s.select { us := us, moment := .acts } command inbound = { s with clock := s.clock + us } := by
  have idle : (s.elapse us).link.serving = none := Link.serving_eq_none h
  simp only [State.select, idle]
  rfl

theorem State.select_rises_idle (h : ∀ x, ¬ s.Serves x) :
    s.select { us := us, moment := .rises } command inbound =
      { s with clock := s.clock + us, link := { s.link with transfer := none, out := none } } := by
  have idle : (s.elapse us).link.serving = none := Link.serving_eq_none h
  simp only [State.select, State.selectRises, idle]
  rfl

/-- The port's evaluation of a rail is what the statements call one (R138). -/
theorem Link.evaluate_eq (l : Link) (r : Fin 6) (x : Rail) :
    l.evaluate r x = { l with
      rail := r, commanded := x.commanded, good := x.good
      transfer := if x.commanded = true ∧ x.good = true then l.transfer else none } := by
  simp [Link.evaluate]

end

/-- The empty pool is sound. -/
theorem Pool.empty_ok : ({} : Pool).Ok := by
  refine ⟨.nil, fun c => by simp, fun c d x y hx => by simp at hx, fun c x hx => by simp at hx, by decide, by simp⟩

end Sys2Proof.Machine

namespace Sys2Proof.Settled

open Sys2Proof Sys2Proof.Machine Host

/-- Settles O1: each branch of the step is the equation of its case. -/
theorem stepRunsFront : Obligations.StepRunsFront :=
  ⟨fun _ _ _ h => step_cons h, fun _ h => ⟨fun _ _ h' => step_transit h h', fun h' => step_idle h h'⟩⟩

/-- Settles O2: both a power-on reset and a release run step 1, which leaves every block at its power-on values. -/
theorem powerOnReset : Obligations.PowerOnReset := by
  intro s
  refine ⟨fun e pg => ⟨_, exec_powerOnReset e pg s, rfl, ?_⟩, fun held =>
    ⟨s.powerOn1 false (Vector.ofFn fun r => s.rails[r].good), ?_, rfl, ?_⟩, fun free => ?_⟩
  · have h := (s.elapse e.us).powerOn1_poweredOn e.held (Vector.ofFn fun r => pg.getLsbD r.val)
    simp only [ofFn_get] at h
    exact h
  · rw [exec_resetRelease, if_pos held]
  · have h := s.powerOn1_poweredOn false (Vector.ofFn fun r => s.rails[r].good)
    simp only [ofFn_get] at h
    exact h
  · rw [exec_resetRelease, if_neg (by simp [free])]

/-- Settles O6: the mode after the event is decided by the threshold read then, with nothing decided on an unknown S4. -/
theorem coldModeFollowsS4 : Obligations.ColdModeFollowsS4 := by
  intro state held sampled s
  refine ⟨_, rfl, fun unknown => coldModeAfter_unknown unknown, fun notFailed known => ?_, rfl⟩
  dsimp only
  rw [coldModeAfter_known notFailed known, State.taking_mem, State.taking_keypad]
  exact ⟨fun below => if_pos below, fun above => by rw [if_neg (by omega), if_pos above],
    fun low high => by rw [if_neg (by omega), if_neg (by omega)]⟩

/-- Settles O41: with the port not OPEN a falling edge begins nothing, and a port that serves nothing does nothing at the
later moments. -/
theorem fencedPort : Obligations.FencedPort := by
  intro us c inbound s
  refine ⟨fun fenced => ?_, fun idle => ⟨?_, ?_⟩, fun before after => ?_⟩
  · have closed : s.link.isOpen = false := by simpa [Link.isOpen] using fenced
    obtain ⟨status, read, write, bad⟩ := exec_select { us := us, moment := .falls } c inbound s
    simp only [status, read, write, bad, State.select_falls, closed]
    exact ⟨rfl, rfl, rfl, rfl⟩
  · obtain ⟨status, read, write, bad⟩ := exec_select { us := us, moment := .acts } c inbound s
    simp only [status, read, write, bad, State.select_acts_idle us _ inbound idle, and_self]
  · obtain ⟨status, read, write, bad⟩ := exec_select { us := us, moment := .rises } c inbound s
    simp only [status, read, write, bad, State.select_rises_idle us _ inbound idle, and_self]
  · by_cases same : before = after
    · refine ⟨s.taking (.linkRailEdit before after), ?_, fun _ => rfl, fun _ h => absurd same h, rfl⟩
      show execLinkRailEdit before after s = _
      simp [execLinkRailEdit, same]
    · refine ⟨_, by show execLinkRailEdit before after s = _; simp only [execLinkRailEdit, if_neg same]; rfl,
        fun h => absurd h same, fun r _ named => ?_, rfl⟩
      obtain rfl : railOf after.toNat = r := Fin.ext named.symm
      exact Link.evaluate_eq ..

/-- Settles O44: the line follows the marks and the enable, and each command is one update of the unit's record. -/
theorem noticeUnit : Obligations.NoticeUnit := by
  intro s m e a
  dsimp only
  refine ⟨⟨_, rfl, fun i => ?_, rfl, State.noticeLine_floating_iff _, State.noticeLine_asserted_iff _⟩,
    ⟨_, rfl, State.noticeLine_floating_iff _, State.noticeLine_asserted_iff _, rfl⟩,
    ⟨_, rfl, rfl, fun i => ?_, rfl⟩, ⟨_, rfl, rfl, fun i => ?_, rfl⟩⟩
  · exact (BitVec.getLsbD_or ..).trans (congrArg _ (markBit_getLsbD m i))
  all_goals
    by_cases byte : i < 8
    · simp [Notice.acknowledge, byte]
    · simp [Notice.acknowledge, BitVec.getLsbD_of_ge _ _ (Nat.not_lt.mp byte)]

/-- Settles O49: an increment is the bump of one counter, a clear the zeroing of a group's span. -/
theorem counterUnit : Obligations.CounterUnit := by
  intro s slot
  refine ⟨fun c => ⟨_, exec_counterIncrement s c, Counters.bump_values s.counters c, ?_⟩, fun g => ?_, fun on => ?_⟩
  · have : s.counters.bump c = { s.counters with values := (s.counters.bump c).values } :=
      congrArg (Counters.mk _) (Counters.bump_frozen s.counters c)
    exact congrArg (fun u => ({ s.taking (.counterIncrement c) with counters := u } : State)) this
  · have code : (BitVec.ofNat 16 g.val).toNat = g.val := by rw [BitVec.toNat_ofNat]; omega
    refine ⟨_, exec_clearCounters s (by omega), fun i => ?_, rfl⟩
    obtain ⟨first, last⟩ := groupSpan_eq g
    simp only [State.answer_eq, State.send_counters, Counters.clear_values, code]
    rw [last, first]
  · cases on <;> rfl

/-- Settles O53: the reset state has empty memories, an empty pool, idle channels, rails commanded off and the ladder
position at its start. -/
theorem invariantsAtReset : Obligations.InvariantsAtReset := by
  refine ⟨⟨rfl, rfl, fun _ _ _ _ h => nomatch h⟩, ?_, ⟨?_, ?_⟩, ?_,
    by unfold Sup.LadderOk; decide⟩
  · exact Pool.empty_ok
  · intro c d _ busy
    simp [State.reset, Channel.busy] at busy
  · intro c
    simp [State.reset]
  · intro _ r _
    simp [State.reset]

end Sys2Proof.Settled
end

section
/-! SUPPORT. The report pool (R155 to R161): what reclaiming a set of cells leaves, which cell a posting takes, what a
collection makes of a cell, and that each of them keeps the pool sound. -/

namespace Sys2Proof.Machine

open Sys2Proof Host

/-! ### Vectors and searches by index -/

theorem vector_ext_get {α : Type} {n : Nat} {v w : Vector α n} (h : ∀ i : Fin n, v[i] = w[i]) : v = w :=
  Vector.ext fun i hi => h ⟨i, hi⟩

/-- A search through the indices finds the lowest one. -/
theorem find?_indices_eq_some_iff {n : Nat} {p : Fin n → Bool} {i : Fin n} :
    (indices n).find? p = some i ↔ p i = true ∧ ∀ j, j < i → p j = false := by
  rw [List.find?_eq_some_iff_append]
  refine and_congr_right fun holds => ⟨?_, fun lower => ?_⟩
  · rintro ⟨before, after, split, fails⟩ j below
    have sorted := indices_pairwise_lt n
    have place : j ∈ before ++ i :: after := split ▸ mem_indices j
    rw [split, List.pairwise_append, List.pairwise_cons] at sorted
    rcases List.mem_append.1 place with early | late
    · simpa using fails j early
    · rcases List.mem_cons.1 late with rfl | later
      · exact absurd below (lt_irrefl _)
      · exact absurd (sorted.2.1.1 j later) (not_lt.2 below.le)
  · obtain ⟨before, after, split⟩ := List.append_of_mem (mem_indices i)
    refine ⟨before, after, split, fun j early => ?_⟩
    have sorted := indices_pairwise_lt n
    rw [split, List.pairwise_append] at sorted
    simpa using lower j (sorted.2.2 j early i (List.mem_cons_self ..))

theorem find?_indices_eq_none_iff {n : Nat} {p : Fin n → Bool} :
    (indices n).find? p = none ↔ ∀ i, p i = false := by simp

/-! ### A sound pool -/

section
variable {p : Pool}

theorem Pool.Ok.nodup (h : p.Ok) : p.order.Nodup := by obtain ⟨nodup, -⟩ := h; exact nodup

theorem Pool.Ok.mem_order (h : p.Ok) (c : Fin 64) : c ∈ p.order ↔ p.cells[c].isSome := by
  obtain ⟨-, mem, -⟩ := h; exact mem c

theorem Pool.Ok.number_inj (h : p.Ok) {c d : Fin 64} {x y : PoolCell} (hx : p.cells[c] = some x)
    (hy : p.cells[d] = some y) (same : x.number = y.number) : c = d := by
  obtain ⟨-, -, inj, -⟩ := h; exact inj c d x y hx hy same

theorem Pool.Ok.generator_ne (h : p.Ok) : p.generator ≠ 0 := by obtain ⟨-, -, -, -, gen, -⟩ := h; exact gen

theorem Pool.Ok.timer_iff (h : p.Ok) : p.coalesceTimer = none ↔ p.order = [] := by
  obtain ⟨-, -, -, -, -, timer⟩ := h; exact timer

theorem Pool.Ok.length_le (h : p.Ok) : p.order.length ≤ 64 := by simpa using h.nodup.length_le_card

/-- What the soundness of a pool does not rest on. -/
theorem Pool.Ok.with_rest (h : p.Ok) {generator newest : Word} (ageTimer : Option Nat) (gen : generator ≠ 0) :
    ({ p with generator := generator, newest := newest, ageTimer := ageTimer } : Pool).Ok := by
  obtain ⟨nodup, mem, inj, shows, -, timer⟩ := h
  exact ⟨nodup, mem, inj, shows, gen, timer⟩

theorem Pool.eq_of_fields {q : Pool} (cells : p.cells = q.cells) (order : p.order = q.order)
    (coalesce : p.coalesceTimer = q.coalesceTimer) (generator : p.generator = q.generator) (newest : p.newest = q.newest)
    (age : p.ageTimer = q.ageTimer) : p = q := by
  obtain ⟨⟩ := p
  obtain ⟨⟩ := q
  simp_all

end

/-! ### Reclaiming a set of cells (R155, R157, R159) -/

/-- The cells named emptied and out of the order, the coalesce timer stopped with the last of them. -/
@[irreducible] def Pool.dropCells (p : Pool) (goes : Fin 64 → Bool) : Pool :=
  let order := p.order.filter fun c => !goes c
  { p with
    cells := Vector.ofFn fun c => if goes c then none else p.cells[c]
    order := order
    coalesceTimer := if order = [] then none else p.coalesceTimer }

section
variable {p : Pool} {goes : Fin 64 → Bool}

@[simp] theorem Pool.dropCells_cell (p : Pool) (goes : Fin 64 → Bool) (c : Fin 64) :
    (p.dropCells goes).cells[c] = if goes c then none else p.cells[c] := by
  rw [Pool.dropCells]
  exact ofFn_get _ _

@[simp] theorem Pool.dropCells_order (p : Pool) (goes : Fin 64 → Bool) :
    (p.dropCells goes).order = p.order.filter fun c => !goes c := by
  rw [Pool.dropCells]

@[simp] theorem Pool.dropCells_generator (p : Pool) (goes : Fin 64 → Bool) :
    (p.dropCells goes).generator = p.generator := by
  rw [Pool.dropCells]

@[simp] theorem Pool.dropCells_newest (p : Pool) (goes : Fin 64 → Bool) : (p.dropCells goes).newest = p.newest := by
  rw [Pool.dropCells]

@[simp] theorem Pool.dropCells_ageTimer (p : Pool) (goes : Fin 64 → Bool) : (p.dropCells goes).ageTimer = p.ageTimer := by
  rw [Pool.dropCells]

theorem Pool.dropCells_timer (p : Pool) (goes : Fin 64 → Bool) :
    (p.dropCells goes).coalesceTimer = if (p.dropCells goes).order = [] then none else p.coalesceTimer := by
  rw [Pool.dropCells_order, Pool.dropCells]

theorem Pool.dropCells_congr {goes' : Fin 64 → Bool} (h : ∀ c, goes c = goes' c) : p.dropCells goes = p.dropCells goes' := by
  rw [funext h]

/-- Naming no filled cell changes nothing. -/
theorem Pool.dropCells_empty (h : p.Ok) (none_ : ∀ c x, p.cells[c] = some x → goes c = false) : p.dropCells goes = p := by
  have order : (p.order.filter fun c => !goes c) = p.order := List.filter_eq_self.2 fun c hc => by
    obtain ⟨x, hx⟩ := Option.isSome_iff_exists.1 ((h.mem_order c).1 hc)
    simp [none_ c x hx]
  have cells : (Vector.ofFn fun c => if goes c then none else p.cells[c]) = p.cells := vector_ext_get fun c => by
    rw [ofFn_get]
    cases hx : p.cells[c] with
    | none => simp
    | some x => simp [none_ c x hx]
  have timer : (if p.order = [] then none else p.coalesceTimer) = p.coalesceTimer := by
    split
    · next empty => exact (h.timer_iff.2 empty).symm
    · rfl
  rw [Pool.dropCells]
  simp only [order, cells, timer]

theorem Pool.dropCells_dropCells (p : Pool) (goes goes' : Fin 64 → Bool) :
    (p.dropCells goes).dropCells goes' = p.dropCells fun c => goes c || goes' c := by
  have order : ((p.dropCells goes).dropCells goes').order = (p.dropCells fun c => goes c || goes' c).order := by
    simp only [Pool.dropCells_order, List.filter_filter]
    exact List.filter_congr fun c _ => by cases goes c <;> cases goes' c <;> rfl
  have cells : ((p.dropCells goes).dropCells goes').cells = (p.dropCells fun c => goes c || goes' c).cells :=
    vector_ext_get fun c => by
      simp only [Pool.dropCells_cell]
      cases goes c <;> cases goes' c <;> rfl
  have timer : ((p.dropCells goes).dropCells goes').coalesceTimer =
      (p.dropCells fun c => goes c || goes' c).coalesceTimer := by
    rw [Pool.dropCells_timer, Pool.dropCells_timer, order, Pool.dropCells_timer]
    by_cases left : (p.dropCells goes).order = []
    · have empty : (p.dropCells fun c => goes c || goes' c).order = [] := by
        rw [← order, Pool.dropCells_order, left, List.filter_nil]
      rw [if_pos empty, if_pos empty]
    · rw [if_neg left]
  exact Pool.eq_of_fields cells order timer (by simp) (by simp) (by simp)

theorem Pool.dropCells_ok (h : p.Ok) (goes : Fin 64 → Bool) : (p.dropCells goes).Ok := by
  obtain ⟨nodup, mem, inj, shows, gen, timer⟩ := h
  have left : ∀ {c : Fin 64} {x : PoolCell}, (p.dropCells goes).cells[c] = some x → p.cells[c] = some x := by
    intro c x hx
    rw [Pool.dropCells_cell] at hx
    split at hx
    · exact absurd hx (by simp)
    · exact hx
  refine ⟨by rw [Pool.dropCells_order]; exact nodup.filter _, ?_, ?_, ?_, by rwa [Pool.dropCells_generator], ?_⟩
  · intro c
    rw [Pool.dropCells_cell, Pool.dropCells_order, List.mem_filter, mem]
    cases goes c <;> simp
  · intro c d x y hx hy
    exact inj c d x y (left hx) (left hy)
  · intro c x hx
    exact shows c x (left hx)
  · rw [Pool.dropCells_timer]
    split
    · next empty => exact iff_of_true rfl empty
    · next left =>
      refine ⟨fun stopped => absurd ?_ left, fun empty => absurd empty left⟩
      rw [Pool.dropCells_order, timer.1 stopped, List.filter_nil]

theorem Pool.reclaim_eq (p : Pool) (c : Fin 64) : p.reclaim c = p.dropCells fun d => decide (d = c) := by
  have cells : put p.cells c none = (p.dropCells fun d => decide (d = c)).cells :=
    vector_ext_get fun d => by
      rw [put_get, Pool.dropCells_cell]
      by_cases here : c = d
      · simp [here]
      · simp [here, Ne.symm here]
  have order : (p.order.filter fun d => decide (d ≠ c)) = (p.dropCells fun d => decide (d = c)).order := by
    rw [Pool.dropCells_order]
    exact List.filter_congr fun d _ => by simp
  have timer := p.dropCells_timer fun d => decide (d = c)
  unfold Pool.reclaim Pool.stopIfEmpty
  rw [cells, order]
  simp only [List.isEmpty_iff]
  split
  · next empty =>
    rw [if_pos empty] at timer
    exact Pool.eq_of_fields rfl rfl timer.symm (by simp) (by simp) (by simp)
  · next left =>
    rw [if_neg left] at timer
    exact Pool.eq_of_fields rfl rfl timer.symm (by simp) (by simp) (by simp)

/-- Cells reclaimed in any order are the set of them reclaimed. -/
theorem Pool.reclaimAll_eq (l : List (Fin 64)) : ∀ {p : Pool}, p.Ok → p.reclaimAll l = p.dropCells fun c => decide (c ∈ l) := by
  induction l with
  | nil =>
    intro p h
    exact (Pool.dropCells_empty h fun _ _ _ => by simp).symm
  | cons c l ih =>
    intro p h
    rw [Pool.reclaimAll, Pool.reclaim_eq, ih (Pool.dropCells_ok h _), Pool.dropCells_dropCells]
    exact Pool.dropCells_congr fun d => by simp [List.mem_cons]

/-- The reports of which a predicate holds reclaimed: what is left of each cell (R155). -/
theorem Pool.dropCells_any_cell (p : Pool) (goes : PoolCell → Bool) (c : Fin 64) :
    (p.dropCells fun d => p.cells[d].any goes).cells[c] = p.cells[c].filter fun x => !goes x := by
  rw [Pool.dropCells_cell]
  cases p.cells[c] with
  | none => simp
  | some x => cases h : goes x <;> simp [Option.filter, h]

/-- Only the order's cells are filled, so reclaiming those of the order that answer a test reclaims all that do. -/
theorem Pool.reclaimAll_filter (h : p.Ok) (goes : PoolCell → Bool) {test : Fin 64 → Bool}
    (same : ∀ c, test c = p.cells[c].any goes) :
    p.reclaimAll (p.order.filter test) = p.dropCells fun c => p.cells[c].any goes := by
  rw [Pool.reclaimAll_eq _ h]
  refine Pool.dropCells_congr fun c => ?_
  rw [← same]
  cases hc : test c with
  | false => simp [hc]
  | true =>
    have filled : p.cells[c].isSome := by
      rw [same] at hc
      cases hx : p.cells[c] with
      | none => simp [hx] at hc
      | some x => rfl
    simp [(h.mem_order c).2 filled, hc]

end

/-! ### The cell a posting takes (R156) -/

section
variable {p : Pool}

theorem Pool.lowestEmpty_eq_none_iff : p.lowestEmpty = none ↔ ∀ c : Fin 64, p.cells[c] ≠ none := by
  unfold Pool.lowestEmpty
  rw [find?_indices_eq_none_iff]
  refine forall_congr' fun c => ?_
  simp [Pool.isEmpty, Option.ne_none_iff_isSome, ← Option.not_isSome]

theorem Pool.lowestEmpty_eq_some_iff {c : Fin 64} :
    p.lowestEmpty = some c ↔ p.cells[c] = none ∧ ∀ d, d < c → p.cells[d] ≠ none := by
  unfold Pool.lowestEmpty
  rw [find?_indices_eq_some_iff]
  refine and_congr (by simp [Pool.isEmpty]) (forall₂_congr fun d _ => ?_)
  simp [Pool.isEmpty, Option.ne_none_iff_isSome, ← Option.not_isSome]

/-- Cell c holds a NORMAL report. -/
theorem Pool.holdsNormal_iff {c : Fin 64} :
    p.holdsNormal c = true ↔ ∃ x, p.cells[c] = some x ∧ x.report.urgent = false := by
  unfold Pool.holdsNormal
  cases p.cells[c] <;> simp

theorem Pool.holdsNormal_eq (p : Pool) (c : Fin 64) : p.holdsNormal c = p.cells[c].any fun x => !x.report.urgent := by
  unfold Pool.holdsNormal
  cases p.cells[c] <;> rfl

theorem Pool.isAged_eq (p : Pool) (c : Fin 64) : p.isAged c = p.cells[c].any fun x => x.aged := by
  unfold Pool.isAged
  cases p.cells[c] <;> rfl

theorem Pool.Ok.mem_order_of_holdsNormal (h : p.Ok) {c : Fin 64} (normal : p.holdsNormal c = true) : c ∈ p.order := by
  obtain ⟨x, hx, -⟩ := Pool.holdsNormal_iff.1 normal
  rw [h.mem_order, hx]
  rfl

theorem Pool.oldestNormal_eq_none_iff (h : p.Ok) : p.oldestNormal = none ↔ ∀ c, p.holdsNormal c = false := by
  unfold Pool.oldestNormal
  rw [List.find?_eq_none]
  refine ⟨fun none_ c => ?_, fun none_ c _ => by simp [none_ c]⟩
  by_contra normal
  rw [Bool.not_eq_false] at normal
  exact none_ c (h.mem_order_of_holdsNormal normal) normal

/-- The number a posting takes is carried by cell c. -/
def Pool.carries (p : Pool) (n : Word) (c : Fin 64) : Bool := p.cells[c].any fun x => decide (x.number = n)

theorem Pool.carries_iff {n : Word} {c : Fin 64} : p.carries n c = true ↔ ∃ x, p.cells[c] = some x ∧ x.number = n := by
  unfold Pool.carries
  cases p.cells[c] <;> simp

theorem Pool.Ok.carries_unique (h : p.Ok) {n : Word} {c d : Fin 64} (hc : p.carries n c = true) (hd : p.carries n d = true) :
    c = d := by
  obtain ⟨x, hx, numbered⟩ := Pool.carries_iff.1 hc
  obtain ⟨y, hy, numbered'⟩ := Pool.carries_iff.1 hd
  exact h.number_inj hx hy (numbered.trans numbered'.symm)

theorem Pool.cellOf_eq (p : Pool) (n : Word) : p.cellOf n = p.order.find? (p.carries n) := by
  unfold Pool.cellOf
  congr 1
  funext c
  unfold Pool.carries
  cases p.cells[c] <;> rfl

theorem Pool.cellOf_eq_some_iff (h : p.Ok) {n : Word} {c : Fin 64} : p.cellOf n = some c ↔ p.carries n c = true := by
  rw [Pool.cellOf_eq]
  refine ⟨List.find?_some, fun carried => ?_⟩
  have filled : c ∈ p.order := by
    obtain ⟨x, hx, -⟩ := Pool.carries_iff.1 carried
    rw [h.mem_order, hx]
    rfl
  cases found : p.order.find? (p.carries n) with
  | none => exact absurd carried (List.find?_eq_none.1 found c filled)
  | some d => rw [h.carries_unique (List.find?_some found) carried]

theorem Pool.cellOf_eq_none_iff (h : p.Ok) {n : Word} : p.cellOf n = none ↔ ∀ c, p.carries n c = false := by
  rw [Option.eq_none_iff_forall_ne_some]
  refine forall_congr' fun c => ?_
  rw [Ne, Pool.cellOf_eq_some_iff h, Bool.not_eq_true]

/-- The cell a report takes (R156 steps 4 and 5): the lowest-numbered empty one, or the one of the report displaced. -/
def Pool.chosen (p : Pool) (r : Posting) : Option (Fin 64) := p.lowestEmpty <|> p.victim r

theorem Pool.chosen_of_empty {r : Posting} {c : Fin 64} (h : p.lowestEmpty = some c) : p.chosen r = some c := by
  simp [Pool.chosen, h]

theorem Pool.chosen_of_full {r : Posting} (h : p.lowestEmpty = none) : p.chosen r = p.victim r := by
  simp [Pool.chosen, h]

/-- A full pool has an oldest report. -/
theorem Pool.Ok.head_of_full (h : p.Ok) (full : p.lowestEmpty = none) : ∃ c, p.order.head? = some c := by
  have filled := Pool.lowestEmpty_eq_none_iff.1 full 0
  have : (0 : Fin 64) ∈ p.order := (h.mem_order 0).2 (Option.ne_none_iff_isSome.1 filled)
  cases order : p.order with
  | nil => rw [order] at this; exact absurd this (by simp)
  | cons c l => exact ⟨c, rfl⟩

theorem Pool.chosen_of_not_drops (h : p.Ok) {r : Posting} (room : p.drops r = false) : ∃ c, p.chosen r = some c := by
  cases empty : p.lowestEmpty with
  | some c => exact ⟨c, Pool.chosen_of_empty empty⟩
  | none =>
    rw [Pool.chosen_of_full empty]
    unfold Pool.victim
    cases normal : p.oldestNormal with
    | some c => exact ⟨c, rfl⟩
    | none =>
      have urgent : r.urgent = true := by simpa [Pool.drops, empty, normal] using room
      simpa [urgent] using h.head_of_full empty

/-! ### A posting (R156) -/

/-- The pool once the number n is issued and a report that still carries it reclaimed (R156 steps 2 and 3). -/
def Pool.numbered (p : Pool) (n : Word) : Pool :=
  { p with generator := nextNumber n, newest := n }.dropCells (p.carries n)

/-- The pool with a report written into a cell that is emptied for it (R156 steps 4 and 5). -/
@[irreducible] def Pool.written (p : Pool) (r : Posting) (n : Word) (c : Fin 64) (timer : Nat) : Pool :=
  let q := p.dropCells fun d => decide (d = c)
  { q with
    cells := put q.cells c (some { report := r, number := n, shown := n, aged := false })
    order := q.order ++ [c]
    coalesceTimer := if q.order = [] then some timer else q.coalesceTimer }

theorem nextNumber_ne_zero {n : Word} : nextNumber n ≠ 0 := by
  unfold nextNumber
  split
  · decide
  · next below => bv_omega

theorem Pool.numbered_ok (h : p.Ok) (n : Word) : (p.numbered n).Ok :=
  Pool.dropCells_ok (h.with_rest p.ageTimer nextNumber_ne_zero) _

theorem Pool.numbered_cell (p : Pool) (n : Word) (c : Fin 64) :
    (p.numbered n).cells[c] = if p.carries n c then none else p.cells[c] := Pool.dropCells_cell ..

theorem Pool.numbered_not_carries (p : Pool) (n : Word) {c : Fin 64} {x : PoolCell} (hx : (p.numbered n).cells[c] = some x) :
    x.number ≠ n := by
  rw [Pool.numbered_cell] at hx
  split at hx
  · exact absurd hx (by simp)
  · next clear =>
    intro same
    exact clear (Pool.carries_iff.2 ⟨x, hx, same⟩)

theorem Pool.written_cell (p : Pool) (r : Posting) (n : Word) (c : Fin 64) (timer : Nat) (d : Fin 64) :
    (p.written r n c timer).cells[d] =
      if c = d then some { report := r, number := n, shown := n, aged := false } else p.cells[d] := by
  rw [Pool.written]
  simp only [put_get, Pool.dropCells_cell, decide_eq_true_eq]
  split
  · rfl
  · next other => rw [if_neg (Ne.symm other)]

theorem Pool.written_order (p : Pool) (r : Posting) (n : Word) (c : Fin 64) (timer : Nat) :
    (p.written r n c timer).order = (p.order.filter fun d => !decide (d = c)) ++ [c] := by
  rw [Pool.written]
  simp only [Pool.dropCells_order]

@[simp] theorem Pool.written_generator (p : Pool) (r : Posting) (n : Word) (c : Fin 64) (timer : Nat) :
    (p.written r n c timer).generator = p.generator := by
  rw [Pool.written, Pool.dropCells_generator]

@[simp] theorem Pool.written_newest (p : Pool) (r : Posting) (n : Word) (c : Fin 64) (timer : Nat) :
    (p.written r n c timer).newest = p.newest := by
  rw [Pool.written, Pool.dropCells_newest]

@[simp] theorem Pool.written_ageTimer (p : Pool) (r : Posting) (n : Word) (c : Fin 64) (timer : Nat) :
    (p.written r n c timer).ageTimer = p.ageTimer := by
  rw [Pool.written, Pool.dropCells_ageTimer]

theorem Pool.written_timer (p : Pool) (r : Posting) (n : Word) (c : Fin 64) (timer : Nat) :
    (p.written r n c timer).coalesceTimer =
      if (p.order.filter fun d => !decide (d = c)) = [] then some timer else p.coalesceTimer := by
  rw [Pool.written]
  simp only [Pool.dropCells_timer, Pool.dropCells_order]
  split <;> simp_all

/-- A number no report carries is written into a sound pool soundly. -/
theorem Pool.written_ok (h : p.Ok) (r : Posting) {n : Word} (c : Fin 64) (timer : Nat) (issued : n ≠ 0)
    (fresh : ∀ (d : Fin 64) (x : PoolCell), p.cells[d] = some x → x.number ≠ n) : (p.written r n c timer).Ok := by
  have cell := p.written_cell r n c timer
  refine ⟨?_, ?_, ?_, ?_, by rw [Pool.written_generator]; exact h.generator_ne, ?_⟩
  · rw [Pool.written_order, List.nodup_append]
    refine ⟨h.nodup.filter _, List.nodup_singleton c, fun a ha b hb => ?_⟩
    rw [List.mem_singleton] at hb
    rw [hb]
    simpa using (List.mem_filter.1 ha).2
  · intro d
    rw [cell, Pool.written_order, List.mem_append, List.mem_filter, List.mem_singleton]
    by_cases here : c = d
    · simp [here]
    · simp [here, Ne.symm here, h.mem_order]
  · intro d e x y hx hy same
    rw [cell] at hx hy
    split at hx <;> split at hy
    · next hd he => rw [← hd, ← he]
    · cases hx; exact absurd same.symm (fresh e y hy)
    · cases hy; exact absurd same (fresh d x hx)
    · exact h.number_inj hx hy same
  · intro d x hx
    rw [cell] at hx
    split at hx
    · cases hx; exact ⟨issued, .inl rfl⟩
    · obtain ⟨-, -, -, shows, -⟩ := h
      exact shows d x hx
  · rw [Pool.written_timer, Pool.written_order]
    split
    · simp
    · next left =>
      refine ⟨fun stopped => ?_, fun empty => by simp at empty⟩
      rw [h.timer_iff.1 stopped] at left
      exact absurd rfl left

variable {s : State}

/-- The events a posting's marks send (R160, R161). -/
def markEvents (r : Posting) (threshold : Prop) [Decidable threshold] : List Instr :=
  (if r.urgent then [.noticeMarkSet .urgent] else []) ++ (if threshold then [.noticeMarkSet .reports] else [])

theorem State.postMarks_eq (r : Posting) :
    s.postMarks r = s.sendAll (markEvents r (noticeThreshold s.mem ≤ s.pool.order.length)) := by
  unfold State.postMarks markEvents
  cases r.urgent <;> by_cases many : noticeThreshold s.mem ≤ s.pool.order.length <;>
    simp [many, State.send, State.sendAll]

theorem State.post_of_drops {r : Posting} (full : s.pool.drops r = true) : s.post r = s.send (.counterIncrement .dropped) := by
  unfold State.post
  rw [if_pos full]
  rfl

/-- With no report that carries the number, only the number is issued. -/
theorem Pool.numbered_of_fresh {p : Pool} (h : p.Ok) {n : Word} (fresh : p.cellOf n = none) :
    p.numbered n = { p with generator := nextNumber n, newest := n } :=
  Pool.dropCells_empty (h.with_rest p.ageTimer nextNumber_ne_zero) fun c _ _ => (Pool.cellOf_eq_none_iff h).1 fresh c

/-- A collision empties a cell. -/
theorem Pool.numbered_cell_of_collision {p : Pool} (h : p.Ok) {n : Word} {c : Fin 64} (found : p.cellOf n = some c) :
    (p.numbered n).cells[c] = none := by
  rw [Pool.numbered_cell, if_pos ((Pool.cellOf_eq_some_iff h).1 found)]

theorem Pool.numbered_not_drops {p : Pool} (h : p.Ok) {n : Word} {r : Posting} (room : p.drops r = false) :
    (p.numbered n).drops r = false := by
  cases found : p.cellOf n with
  | none =>
    rw [Pool.numbered_of_fresh h found]
    exact room
  | some c =>
    have empty : (p.numbered n).lowestEmpty.isNone = false := by
      rw [Bool.eq_false_iff]
      intro full
      exact Pool.lowestEmpty_eq_none_iff.1 (Option.isNone_iff_eq_none.1 full) c (Pool.numbered_cell_of_collision h found)
    simp [Pool.drops, empty]

/-- Step 3 of R156: what still carries the number just issued is reclaimed and counted. -/
theorem State.postCollide_eq (h : s.pool.Ok) (n : Word) :
    (s.setPool { s.pool with generator := nextNumber n, newest := n }).postCollide n = { s with
      pool := s.pool.numbered n
      transit := s.transit ++ if (s.pool.cellOf n).isSome then [.counterIncrement .sequenceCollisions] else [] } := by
  have same : ({ s.pool with generator := nextNumber n, newest := n } : Pool).cellOf n = s.pool.cellOf n := rfl
  unfold State.postCollide
  rw [State.setPool_pool, same]
  cases found : s.pool.cellOf n with
  | some c =>
    have only : ∀ d, s.pool.carries n d = decide (d = c) := fun d => by
      have carried := (Pool.cellOf_eq_some_iff h).1 found
      by_cases here : d = c
      · simp [here, carried]
      · rw [decide_eq_false here, Bool.eq_false_iff]
        exact fun other => here (h.carries_unique other carried)
    have numbered : ({ s.pool with generator := nextNumber n, newest := n } : Pool).reclaim c = s.pool.numbered n := by
      rw [Pool.reclaim_eq, Pool.numbered]
      exact Pool.dropCells_congr fun d => (only d).symm
    simp [numbered, State.setPool, State.send]
  | none =>
    simp [Pool.numbered_of_fresh h found, State.setPool]

/-- Step 4 of R156: the cell chosen is emptied, and a report displaced counted. -/
theorem State.postPlace_eq (h : s.pool.Ok) {r : Posting} {c : Fin 64} (chosen : s.pool.chosen r = some c) :
    s.postPlace r = ({ s with
      pool := s.pool.dropCells fun d => decide (d = c)
      transit := s.transit ++ if s.pool.lowestEmpty.isNone then [.counterIncrement .overwritten] else [] }, some c) := by
  unfold State.postPlace
  cases empty : s.pool.lowestEmpty with
  | some e =>
    rw [Pool.chosen_of_empty empty] at chosen
    obtain rfl := Option.some.inj chosen
    have free := (Pool.lowestEmpty_eq_some_iff.1 empty).1
    have kept : (s.pool.dropCells fun d => decide (d = e)) = s.pool := Pool.dropCells_empty h fun d x hx => by
      rw [decide_eq_false_iff_not]
      rintro rfl
      rw [free] at hx
      exact absurd hx (by simp)
    simp [kept]
  | none =>
    rw [Pool.chosen_of_full empty] at chosen
    simp [chosen, Pool.reclaim_eq, State.setPool, State.send]

/-- Step 5 of R156: the report written into a cell emptied for it, and counted. -/
theorem State.postWrite_eq {p : Pool} (r : Posting) (n : Word) (c : Fin 64)
    (emptied : s.pool = p.dropCells fun d => decide (d = c)) :
    s.postWrite r n c = { s with
      pool := p.written r n c (s.clock + coalesceTime s.mem * 1000)
      transit := s.transit ++ [.counterIncrement .reportsPosted] } := by
  unfold State.postWrite
  rw [Pool.written, emptied]
  simp [State.setPool, State.send, State.inMs]

/-- What a posting into a sound pool that does not drop it does (R156): the number issued, a report that still carries it
reclaimed and counted, the cell chosen, a report displaced counted, and the report written, counted and marked. -/
theorem State.post_of_room {r : Posting} (h : s.pool.Ok) (room : s.pool.drops r = false) :
    ∃ c, (s.pool.numbered s.pool.generator).chosen r = some c ∧
      let q := (s.pool.numbered s.pool.generator).written r s.pool.generator c (s.clock + coalesceTime s.mem * 1000)
      s.post r = { s with
        pool := q
        transit := s.transit
          ++ (if (s.pool.cellOf s.pool.generator).isSome then [.counterIncrement .sequenceCollisions] else [])
          ++ (if (s.pool.numbered s.pool.generator).lowestEmpty.isNone then [.counterIncrement .overwritten] else [])
          ++ [.counterIncrement .reportsPosted]
          ++ markEvents r (noticeThreshold s.mem ≤ q.order.length) } := by
  have sound := Pool.numbered_ok h s.pool.generator
  obtain ⟨c, chosen⟩ := Pool.chosen_of_not_drops sound (Pool.numbered_not_drops h room)
  refine ⟨c, chosen, ?_⟩
  unfold State.post
  rw [if_neg (by simp [room])]
  dsimp only
  have collided := State.postCollide_eq h s.pool.generator
  generalize State.postCollide _ _ = u at collided ⊢
  have pool : u.pool = s.pool.numbered s.pool.generator := by rw [collided]
  rw [State.postPlace_eq (by rwa [pool]) (by rwa [pool])]
  dsimp only
  rw [State.postWrite_eq r _ c rfl, State.postMarks_eq, collided]
  simp [State.sendAll]

end

/-! ### What a posting makes of the pool (R156, R161) -/

section
variable {p : Pool} {r : Posting} {n : Word} {c : Fin 64}

theorem Pool.drops_iff (h : p.Ok) :
    p.drops r = true ↔ (∀ c : Fin 64, p.cells[c] ≠ none) ∧ r.urgent = false ∧
      ∀ c : Fin 64, ¬ ∃ x, p.cells[c] = some x ∧ x.report.urgent = false := by
  unfold Pool.drops
  rw [Bool.and_eq_true, Bool.and_eq_true, Option.isNone_iff_eq_none, Option.isNone_iff_eq_none,
    Pool.lowestEmpty_eq_none_iff, Pool.oldestNormal_eq_none_iff h, and_assoc, Bool.not_eq_true']
  simp only [← Pool.holdsNormal_iff, Bool.not_eq_true]

theorem Pool.cellOf_isSome_iff (h : p.Ok) :
    (p.cellOf n).isSome = true ↔ ∃ (c : Fin 64) (x : PoolCell), p.cells[c] = some x ∧ x.number = n := by
  simp only [Option.isSome_iff_exists, Pool.cellOf_eq_some_iff h, Pool.carries_iff]

theorem Pool.filter_not_decide (c : Fin 64) (l : List (Fin 64)) :
    (l.filter fun d => !decide (d = c)) = l.filter fun d => decide (d ≠ c) :=
  List.filter_congr fun d _ => by simp

/-- The order without one of its cells is one shorter. -/
theorem Pool.Ok.length_filter (h : p.Ok) {e : Fin 64} (filled : p.cells[e].isSome) :
    (p.order.filter fun d => decide (d ≠ e)).length + 1 = p.order.length := by
  have place := (h.mem_order e).2 filled
  have := List.length_erase_of_mem place
  have pos := List.length_pos_of_mem place
  rw [h.nodup.erase_eq_filter] at this
  have same : (p.order.filter fun d => decide (d ≠ e)) = p.order.filter (· != e) :=
    List.filter_congr fun d _ => by simp [bne, BEq.beq]
  rw [same]
  omega

/-- After a collision the report takes the lowest-numbered empty cell, the one just emptied among them (R156). -/
theorem Pool.chosen_of_collision (h : p.Ok) {e : Fin 64} (carried : p.carries n e = true)
    (chosen : (p.numbered n).chosen r = some c) :
    (c = e ∨ p.cells[c] = none) ∧ ∀ d, d = e ∨ p.cells[d] = none → c ≤ d := by
  have emptied : ∀ d, (p.numbered n).cells[d] = none ↔ d = e ∨ p.cells[d] = none := fun d => by
    rw [Pool.numbered_cell]
    by_cases here : d = e
    · simp [here, carried]
    · have other : p.carries n d = false := Bool.eq_false_iff.2 fun also => here (h.carries_unique also carried)
      simp [here, other]
  cases low : (p.numbered n).lowestEmpty with
  | none => exact absurd ((emptied e).2 (.inl rfl)) (Pool.lowestEmpty_eq_none_iff.1 low e)
  | some d =>
    obtain rfl : d = c := Option.some.inj ((Pool.chosen_of_empty low).symm.trans chosen)
    obtain ⟨free, lower⟩ := Pool.lowestEmpty_eq_some_iff.1 low
    refine ⟨(emptied d).1 free, fun e' empty => ?_⟩
    by_contra below
    exact lower e' (not_le.1 below) ((emptied e').2 empty)

/-- Cell c, emptied by the collision or empty before, leaves the order of the others as it was. -/
theorem Pool.order_of_collision (h : p.Ok) {e : Fin 64} (carried : p.carries n e = true) (free : c = e ∨ p.cells[c] = none)
    (timer : Nat) : ((p.numbered n).written r n c timer).order = p.order.filter (fun d => decide (d ≠ e)) ++ [c] := by
  rw [Pool.written_order, Pool.numbered, Pool.dropCells_order, List.filter_filter]
  congr 1
  refine List.filter_congr fun d listed => ?_
  have only : p.carries n d = decide (d = e) := by
    by_cases here : d = e
    · simp [here, carried]
    · rw [decide_eq_false here, Bool.eq_false_iff]
      exact fun other => here (h.carries_unique other carried)
  have filled := (h.mem_order d).1 listed
  rw [only]
  rcases free with rfl | empty
  · simp
  · have : d ≠ c := by
      rintro rfl
      rw [empty] at filled
      exact absurd filled (by simp)
    simp [this]

/-- In a full pool without a collision the report displaced is the oldest NORMAL one, or for an URGENT report with none
the oldest of all (R156). -/
theorem Pool.chosen_of_full_fresh (h : p.Ok) (fresh : p.cellOf n = none) (full : ∀ d : Fin 64, p.cells[d] ≠ none)
    (chosen : (p.numbered n).chosen r = some c) :
    ((∃ e, p.holdsNormal e = true) → p.holdsNormal c = true ∧
      ∀ before after, p.order = before ++ c :: after → ∀ d ∈ before, p.holdsNormal d = false) ∧
    ((∀ e, p.holdsNormal e = false) → p.order.head? = some c) := by
  rw [Pool.numbered_of_fresh h fresh] at chosen
  have victim : p.victim r = some c := (Pool.chosen_of_full (Pool.lowestEmpty_eq_none_iff.2 full)).symm.trans chosen
  unfold Pool.victim at victim
  constructor
  · rintro ⟨e, normal⟩
    cases oldest : p.oldestNormal with
    | none => exact absurd ((Pool.oldestNormal_eq_none_iff h).1 oldest e) (by simp [normal])
    | some d =>
      rw [oldest] at victim
      obtain rfl : d = c := Option.some.inj victim
      obtain ⟨holds, as, bs, split, fails⟩ := List.find?_eq_some_iff_append.1 oldest
      refine ⟨holds, fun before after split' e early => ?_⟩
      have once : d ∉ before ∧ d ∉ after := by
        have nodup := split' ▸ h.nodup
        rw [List.nodup_append, List.nodup_cons] at nodup
        exact ⟨fun early => nodup.2.2 d early d (List.mem_cons_self ..) rfl, nodup.2.1.1⟩
      obtain ⟨rfl, -⟩ := (List.append_cons_inj_of_notMem once.1 once.2).1 (split'.symm.trans split)
      simpa using fails e early
  · intro none_
    rw [(Pool.oldestNormal_eq_none_iff h).2 none_] at victim
    dsimp only at victim
    split at victim
    · exact victim
    · exact absurd victim (by simp)

/-- The timer runs on beside another report, and starts afresh in a pool that held none (R161). -/
theorem Pool.timer_of_others (h : p.Ok) (chosen : (p.numbered n).chosen r = some c) (timer : Nat)
    (others : ∃ (d : Fin 64) (x : PoolCell), p.cells[d] = some x ∧ x.number ≠ n) :
    ((p.numbered n).written r n c timer).coalesceTimer = p.coalesceTimer := by
  have sound := Pool.numbered_ok h n
  obtain ⟨d, x, hx, other⟩ := others
  have left : (p.numbered n).cells[d] = some x := by
    rw [Pool.numbered_cell, if_neg]
    · exact hx
    · rw [Pool.carries_iff]
      rintro ⟨y, hy, same⟩
      rw [hx] at hy
      exact other (Option.some.inj hy ▸ same)
  have remains : ∃ e, e ≠ c ∧ e ∈ (p.numbered n).order := by
    cases low : (p.numbered n).lowestEmpty with
    | some e =>
      obtain rfl : e = c := Option.some.inj ((Pool.chosen_of_empty low).symm.trans chosen)
      refine ⟨d, ?_, (sound.mem_order d).2 (by rw [left]; rfl)⟩
      rintro rfl
      rw [(Pool.lowestEmpty_eq_some_iff.1 low).1] at left
      exact absurd left (by simp)
    | none =>
      obtain ⟨e, apart⟩ := exists_ne c
      exact ⟨e, apart, (sound.mem_order e).2 (Option.ne_none_iff_isSome.1 (Pool.lowestEmpty_eq_none_iff.1 low e))⟩
  obtain ⟨e, apart, listed⟩ := remains
  rw [Pool.written_timer, if_neg]
  · rw [Pool.numbered, Pool.dropCells_timer]
    exact if_neg (List.ne_nil_of_mem listed)
  · exact List.ne_nil_of_mem (List.mem_filter.2 ⟨listed, by simp [apart]⟩)

theorem Pool.timer_of_alone (h : p.Ok) (timer : Nat)
    (alone : ¬ ∃ (d : Fin 64) (x : PoolCell), p.cells[d] = some x ∧ x.number ≠ n) :
    ((p.numbered n).written r n c timer).coalesceTimer = some timer := by
  have sound := Pool.numbered_ok h n
  have empty : (p.numbered n).order = [] := by
    rw [List.eq_nil_iff_forall_not_mem]
    intro d listed
    obtain ⟨x, hx⟩ := Option.isSome_iff_exists.1 ((sound.mem_order d).1 listed)
    refine alone ⟨d, x, ?_, Pool.numbered_not_carries p n hx⟩
    rw [Pool.numbered_cell] at hx
    split at hx
    · exact absurd hx (by simp)
    · exact hx
  rw [Pool.written_timer, empty, List.filter_nil, if_pos rfl]

/-- A posting keeps the pool sound. -/
theorem State.post_ok {s : State} (h : s.pool.Ok) (r : Posting) : (s.post r).pool.Ok := by
  cases drops : s.pool.drops r with
  | true => rw [State.post_of_drops drops]; exact h
  | false =>
    obtain ⟨c, -, post⟩ := State.post_of_room h drops
    rw [post]
    exact Pool.written_ok (Pool.numbered_ok h _) r c _ h.generator_ne fun d x => Pool.numbered_not_carries s.pool _

end

end Sys2Proof.Machine
end

section
/-! SUPPORT. What collections, age ticks and flushes leave of the report pool, and the pool's obligations settled (R155 to
R161). -/

namespace Sys2Proof.Machine

open Sys2Proof Host

/-! ### Collections (R157) -/

/-- What a collection makes of a cell, by its word's value before the write (R157). -/
def collectCell (before : Word) : Option PoolCell → Option PoolCell
  | none => none
  | some x =>
    if before = x.number then none
    else if before = 0#16 then (if x.shown = 0#16 then none else some x)
    else some { x with shown := 0 }

section
variable {p : Pool}

theorem Pool.Ok.number_ne (h : p.Ok) {c : Fin 64} {x : PoolCell} (hx : p.cells[c] = some x) : x.number ≠ 0 := by
  obtain ⟨-, -, -, shows, -⟩ := h
  exact (shows c x hx).1

/-- A pool stays sound when its reports keep their numbers and show them or a 0. -/
theorem Pool.Ok.of_shown (h : p.Ok) {q : Pool} (f : Fin 64 → PoolCell → PoolCell)
    (keeps : ∀ c x, (f c x).number = x.number ∧ ((f c x).shown = x.shown ∨ (f c x).shown = 0))
    (cells : ∀ c : Fin 64, q.cells[c] = p.cells[c].map (f c)) (order : q.order = p.order)
    (generator : q.generator = p.generator) (timer : q.coalesceTimer = p.coalesceTimer) : q.Ok := by
  have from_ : ∀ {c : Fin 64} {x : PoolCell}, q.cells[c] = some x → ∃ y, p.cells[c] = some y ∧ x = f c y := by
    intro c x hx
    rw [cells, Option.map_eq_some_iff] at hx
    obtain ⟨y, hy, rfl⟩ := hx
    exact ⟨y, hy, rfl⟩
  obtain ⟨nodup, mem, inj, shows, gen, coalesce⟩ := h
  refine ⟨by rwa [order], ?_, ?_, ?_, by rwa [generator], by rwa [timer, order]⟩
  · intro c
    rw [cells, Option.isSome_map, order]
    exact mem c
  · intro c d x y hx hy same
    obtain ⟨x', hx', rfl⟩ := from_ hx
    obtain ⟨y', hy', rfl⟩ := from_ hy
    exact inj c d x' y' hx' hy' (by rw [← (keeps c x').1, ← (keeps d y').1, same])
  · intro c x hx
    obtain ⟨y, hy, rfl⟩ := from_ hx
    rw [(keeps c y).1]
    refine ⟨(shows c y hy).1, ?_⟩
    rcases (keeps c y).2 with same | zero
    · rw [same]; exact (shows c y hy).2
    · exact .inr zero

/-- A cell that shows the 0 of a late collection. -/
theorem Pool.showZero_ok (h : p.Ok) {c : Fin 64} {x : PoolCell} (hx : p.cells[c] = some x) :
    ({ p with cells := put p.cells c (some { x with shown := 0 }) } : Pool).Ok := by
  refine h.of_shown (fun d y => if c = d then { y with shown := 0 } else y) (fun d y => ?_) (fun d => ?_) rfl rfl rfl
  · split
    · exact ⟨rfl, .inr rfl⟩
    · exact ⟨rfl, .inl rfl⟩
  · rw [put_get]
    split
    · next here => rw [← here, hx]; rfl
    · exact Option.map_id_apply.symm

/-- q is what is left of p once some cells are emptied or show a 0: the reports left keep their order, and the timer
stops with the last of them. -/
def Pool.Leaves (p q : Pool) : Prop :=
  q.Ok ∧ q.order = p.order.filter (fun c => q.cells[c].isSome) ∧
    q = { p with
      cells := q.cells, order := q.order, coalesceTimer := if q.order = [] then none else p.coalesceTimer }

theorem Pool.Ok.order_filter (h : p.Ok) : (p.order.filter fun c => p.cells[c].isSome) = p.order :=
  List.filter_eq_self.2 fun c listed => (h.mem_order c).1 listed

theorem Pool.Ok.timer_eq (h : p.Ok) : (if p.order = [] then none else p.coalesceTimer) = p.coalesceTimer := by
  split
  · next empty => exact (h.timer_iff.2 empty).symm
  · rfl

theorem Pool.Leaves.refl (h : p.Ok) : p.Leaves p := ⟨h, h.order_filter.symm, by rw [h.timer_eq]⟩

theorem Pool.Leaves.trans {q r : Pool} (h : p.Leaves q) (h' : q.Leaves r) : p.Leaves r := by
  obtain ⟨sound, order, rest⟩ := h
  obtain ⟨sound', order', rest'⟩ := h'
  have listed : ∀ c ∈ r.order, c ∈ q.order := fun c hc => by
    rw [order'] at hc
    exact List.mem_of_mem_filter hc
  refine ⟨sound', ?_, ?_⟩
  · rw [order', order, List.filter_filter]
    refine List.filter_congr fun c _ => ?_
    cases left : r.cells[c].isSome with
    | false => rfl
    | true => rw [(sound.mem_order c).1 (listed c ((sound'.mem_order c).2 left)), Bool.and_self]
  · have timer : r.coalesceTimer = if r.order = [] then none else p.coalesceTimer := by
      rw [rest', rest]
      dsimp only
      by_cases gone : q.order = []
      · have : r.order = [] := List.eq_nil_iff_forall_not_mem.2 fun c hc => by
          have := listed c hc
          rw [gone] at this
          exact List.not_mem_nil this
        rw [if_pos this, if_pos this]
      · rw [if_neg gone]
    refine Pool.eq_of_fields rfl rfl timer ?_ ?_ ?_ <;> rw [rest', rest]

theorem Pool.leaves_reclaim (h : p.Ok) (c : Fin 64) : p.Leaves (p.reclaim c) := by
  rw [Pool.reclaim_eq]
  refine ⟨Pool.dropCells_ok h _, ?_,
    Pool.eq_of_fields rfl rfl (Pool.dropCells_timer ..) (by simp) (by simp) (by simp)⟩
  rw [Pool.dropCells_order]
  refine List.filter_congr fun d listed => ?_
  rw [Pool.dropCells_cell]
  split
  · next here => simp [here]
  · next other => rw [(h.mem_order d).1 listed]; simpa using other

theorem Pool.leaves_showZero (h : p.Ok) {c : Fin 64} {x : PoolCell} (hx : p.cells[c] = some x) :
    p.Leaves { p with cells := put p.cells c (some { x with shown := 0 }) } := by
  refine ⟨Pool.showZero_ok h hx, ?_, by rw [h.timer_eq]⟩
  refine (List.filter_eq_self.2 fun d listed => ?_).symm
  rw [put_get]
  split
  · rfl
  · exact (h.mem_order d).1 listed

theorem Pool.reclaim_cell (p : Pool) (c d : Fin 64) : (p.reclaim c).cells[d] = if c = d then none else p.cells[d] := by
  rw [Pool.reclaim_eq, Pool.dropCells_cell]
  by_cases here : c = d
  · rw [if_pos here, if_pos (by simp [here])]
  · rw [if_neg here, if_neg (by simp [Ne.symm here])]

theorem Pool.cell_eq_ite (p : Pool) {c : Fin 64} {y : Option PoolCell} (hc : p.cells[c] = y) (d : Fin 64) :
    p.cells[d] = if c = d then y else p.cells[d] := by
  split
  · next here => rw [← here, hc]
  · rfl

theorem Pool.leaves_collect (h : p.Ok) (c : Fin 64) (before : Word) : p.Leaves (p.collect c before) := by
  unfold Pool.collect
  split
  · exact .refl h
  · next x hx =>
    split
    · exact Pool.leaves_reclaim h c
    · split
      · split
        · exact Pool.leaves_reclaim h c
        · exact .refl h
      · exact Pool.leaves_showZero h hx

theorem Pool.collect_cell (p : Pool) (c : Fin 64) (before : Word) (d : Fin 64) :
    (p.collect c before).cells[d] = if c = d then collectCell before p.cells[c] else p.cells[d] := by
  unfold Pool.collect collectCell
  cases hx : p.cells[c] with
  | none => exact p.cell_eq_ite hx d
  | some x =>
    dsimp only
    split
    · exact p.reclaim_cell c d
    · split
      · split
        · exact p.reclaim_cell c d
        · exact p.cell_eq_ite hx d
      · exact put_get ..

theorem Pool.leaves_collectAll (cells : List (Fin 64 × Word)) : ∀ {p : Pool}, p.Ok → p.Leaves (p.collectAll cells) := by
  induction cells with
  | nil => exact fun h => .refl h
  | cons x cells ih =>
    intro p h
    have first := Pool.leaves_collect h x.1 x.2
    exact first.trans (ih first.1)

/-- Each cell of a collection of distinct cells comes to what its own word makes of it; the others stand. -/
theorem Pool.collectAll_cell (cells : List (Fin 64 × Word)) : ∀ (p : Pool), (cells.map Prod.fst).Nodup →
    (∀ c before, (c, before) ∈ cells → (p.collectAll cells).cells[c] = collectCell before p.cells[c]) ∧
    ∀ c : Fin 64, (∀ before, (c, before) ∉ cells) → (p.collectAll cells).cells[c] = p.cells[c] := by
  induction cells with
  | nil => exact fun p _ => ⟨fun c before h => absurd h List.not_mem_nil, fun _ _ => rfl⟩
  | cons x cells ih =>
    intro p distinct
    obtain ⟨e, w⟩ := x
    obtain ⟨once, distinct⟩ := List.nodup_cons.1 distinct
    obtain ⟨named, others⟩ := ih (p.collect e w) distinct
    have apart : ∀ {c before}, (c, before) ∈ cells → e ≠ c := by
      rintro c before listed rfl
      exact once (List.mem_map.2 ⟨_, listed, rfl⟩)
    refine ⟨fun c before listed => ?_, fun c absent => ?_⟩
    · rcases List.mem_cons.1 listed with same | later
      · obtain ⟨rfl, rfl⟩ := Prod.mk.inj same
        rw [Pool.collectAll, others c fun before' later => apart later rfl, Pool.collect_cell, if_pos rfl]
      · rw [Pool.collectAll, named c before later, Pool.collect_cell, if_neg (apart later)]
    · rw [Pool.collectAll, others c fun before later => absent before (List.mem_cons_of_mem _ later), Pool.collect_cell,
        if_neg (by rintro rfl; exact absent w (List.mem_cons_self ..))]

end

section
variable {x : PoolCell} {before : Word}

theorem collectCell_collected (h : before = x.number ∨ (before = 0#16 ∧ x.shown = 0#16)) :
    collectCell before (some x) = none := by
  unfold collectCell
  rcases h with numbered | ⟨zero, shown⟩
  · exact if_pos numbered
  · dsimp only
    rw [if_pos zero, if_pos shown]
    split <;> rfl

theorem collectCell_newer (other : before ≠ x.number) (nonzero : before ≠ 0#16) :
    collectCell before (some x) = some { x with shown := 0 } := by
  unfold collectCell
  dsimp only
  rw [if_neg other, if_neg nonzero]

theorem collectCell_disregarded (other : before ≠ x.number) (zero : before = 0#16) (shown : x.shown ≠ 0#16) :
    collectCell before (some x) = some x := by
  unfold collectCell
  dsimp only
  rw [if_neg other, if_pos zero, if_neg shown]

end

/-! ### Aging and flushes (R158, R159, R161) -/

section
variable {p : Pool}

theorem Pool.markAll_cell (p : Pool) (c : Fin 64) :
    p.markAll.cells[c] = p.cells[c].map fun x => { x with aged := true } := ofFn_get _ _

@[simp] theorem Pool.markAll_order (p : Pool) : p.markAll.order = p.order := by simp only [Pool.markAll]
@[simp] theorem Pool.markAll_generator (p : Pool) : p.markAll.generator = p.generator := by simp only [Pool.markAll]
@[simp] theorem Pool.markAll_newest (p : Pool) : p.markAll.newest = p.newest := by simp only [Pool.markAll]
@[simp] theorem Pool.markAll_coalesceTimer (p : Pool) : p.markAll.coalesceTimer = p.coalesceTimer := by
  simp only [Pool.markAll]

theorem Pool.markAll_ok (h : p.Ok) : p.markAll.Ok :=
  h.of_shown (fun _ x => { x with aged := true }) (fun _ _ => ⟨rfl, .inl rfl⟩) p.markAll_cell p.markAll_order
    p.markAll_generator p.markAll_coalesceTimer

/-- The cells an age tick reclaims (R158). -/
theorem Pool.reclaim_aged (h : p.Ok) :
    p.reclaimAll (p.order.filter p.isAged) = p.dropCells fun c => p.cells[c].any fun x => x.aged :=
  Pool.reclaimAll_filter h _ p.isAged_eq

/-- The cells a flush reclaims (R159): every report's, or every NORMAL one's. -/
theorem Pool.flush_eq (h : p.Ok) (all : Bool) :
    p.flush all = p.dropCells fun c => p.cells[c].any fun x => all || !x.report.urgent := by
  unfold Pool.flush Pool.flushed
  cases all with
  | false => exact Pool.reclaimAll_filter h _ p.holdsNormal_eq
  | true =>
    have everything : p.order = p.order.filter fun c => p.cells[c].isSome := h.order_filter.symm
    rw [if_pos rfl, everything]
    exact Pool.reclaimAll_filter h _ fun c => by cases p.cells[c] <;> rfl

/-- What a flush reclaims is what its order lacks afterwards. -/
theorem Pool.flushed_length (h : p.Ok) (all : Bool) : (p.flushed all).length = p.order.length - (p.flush all).order.length := by
  rw [Pool.flush_eq h, Pool.dropCells_order]
  have split := List.length_eq_length_filter_add (l := p.order) fun c => p.cells[c].any fun x => all || !x.report.urgent
  have flushed : (p.flushed all).length = (p.order.filter fun c => p.cells[c].any fun x => all || !x.report.urgent).length := by
    unfold Pool.flushed
    cases all with
    | false =>
      rw [if_neg (by simp)]
      exact congrArg List.length (List.filter_congr fun c _ => p.holdsNormal_eq c)
    | true =>
      rw [if_pos rfl]
      refine congrArg List.length (List.filter_eq_self.2 fun c listed => ?_).symm
      obtain ⟨x, hx⟩ := Option.isSome_iff_exists.1 ((h.mem_order c).1 listed)
      simp [hx]
  omega

/-- The coalesce timer set by whether a report waits keeps the pool sound (R161). -/
theorem Pool.Ok.with_timer (h : p.Ok) (at_ : Nat) :
    ({ p with coalesceTimer := if p.order.isEmpty then none else some at_ } : Pool).Ok := by
  obtain ⟨nodup, mem, inj, shows, gen, -⟩ := h
  refine ⟨nodup, mem, inj, shows, gen, ?_⟩
  cases p.order <;> simp

/-! ### The events of the pool -/

variable {s : State}

theorem exec_collection (cells : List (Fin 64 × Word)) (s : State) : exec (.collection cells) s =
    .next { s with transit := s.transit.erase (.collection cells), pool := s.pool.collectAll cells } := rfl

theorem State.sendAll_replicate (s : State) (l : List (Fin 64)) (i : Instr) :
    s.sendAll (l.map fun _ => i) = { s with transit := s.transit ++ List.replicate l.length i } := by
  rw [List.map_const']
  rfl

theorem exec_ageTick {due : Nat} (h : s.pool.Ok) (set : s.pool.ageTimer = some due) : exec .ageTick s =
    .next { s with
      clock := max s.clock due
      transit := s.transit
        ++ List.replicate (s.pool.order.countP fun c => s.pool.cells[c].any fun x => x.aged) (.counterIncrement .aged)
      pool := { (s.pool.dropCells fun c => s.pool.cells[c].any fun x => x.aged).markAll with
        ageTimer := some (max s.clock due + agePeriod s.mem * 1000000) } } := by
  have aged : s.pool.isAged = fun c => s.pool.cells[c].any fun x => x.aged := funext s.pool.isAged_eq
  show execAgeTick s = _
  unfold execAgeTick
  simp only [set]
  rw [State.sendAll_replicate]
  simp only [State.reachTime, Pool.reclaim_aged h, State.setPool, State.inMs]
  simp only [Nat.mul_assoc, Nat.reduceMul, aged, List.countP_eq_length_filter]

theorem exec_ageTick_idle (stopped : s.pool.ageTimer = none) : exec .ageTick s = .next s := by
  show execAgeTick s = _
  unfold execAgeTick
  simp only [stopped]

theorem exec_flushReports (h : s.pool.Ok) (slot : Fin 8) (all : Bool) :
    let w : Word := if all = true then 1 else 0
    let p := s.pool.dropCells fun c => s.pool.cells[c].any fun x => all || !x.report.urgent
    exec (.flushReports slot w) s = .next { s with
      transit := s.transit.erase (.flushReports slot w) ++ [.deskAnswer slot .done
        { w0 := BitVec.ofNat 16 (s.pool.order.length - p.order.length) }]
      pool := p } := by
  have class_ : (if all = true then 1 else 0 : Word).toNat ≤ 1 ∧ decide ((if all = true then 1 else 0 : Word) = 1#16) = all := by
    cases all <;> decide
  show execFlushReports _ _ s = _
  unfold execFlushReports
  dsimp only
  rw [if_neg (not_lt.2 class_.1), class_.2, State.taking_pool, Pool.flush_eq h, Pool.flushed_length h, Pool.flush_eq h]
  rfl

theorem exec_restartFlush (h : s.pool.Ok) : exec .restartFlush s = .next { s with
    transit := s.transit.erase .restartFlush
    pool := if s.mem.byte 0x19A3 ≠ 0 then s.pool.dropCells fun c => s.pool.cells[c].any fun x => !x.report.urgent
      else s.pool } := by
  have flush : s.pool.flush false = _ := Pool.flush_eq h false
  show execRestartFlush s = _
  unfold execRestartFlush flushesNormal
  dsimp only
  rw [State.taking_pool, State.taking_mem, flush]
  by_cases policy : s.mem.byte 0x19A3 ≠ 0
  · rw [if_pos (decide_eq_true policy), if_pos policy]
    rfl
  · rw [if_neg (by simpa using policy), if_neg policy]
    rfl

theorem exec_coalesceTimerExpiry {due : Nat} (set : s.pool.coalesceTimer = some due) : exec .coalesceTimerExpiry s =
    .next { s with
      clock := max s.clock due
      transit := s.transit ++ [.noticeMarkSet .reports]
      pool := { s.pool with coalesceTimer :=
        if s.pool.order = [] then none else some (max s.clock due + coalesceTime s.mem * 1000) } } := by
  show execCoalesceTimerExpiry s = _
  unfold execCoalesceTimerExpiry
  simp only [set, List.isEmpty_iff]
  rfl

theorem exec_coalesceTimerExpiry_idle (stopped : s.pool.coalesceTimer = none) : exec .coalesceTimerExpiry s = .next s := by
  show execCoalesceTimerExpiry s = _
  unfold execCoalesceTimerExpiry
  simp only [stopped]

end

end Sys2Proof.Machine

namespace Sys2Proof.Settled

open Sys2Proof Sys2Proof.Machine Host

/-- Settles O50: a posting that is not dropped writes the report into the cell chosen once the number is issued, and the
cases of the statement are those of the collision and of a full pool. -/
theorem reportPosting : Obligations.ReportPosting := by
  intro r s h
  refine ⟨_, rfl, fun dropped => ?_, fun kept => ?_⟩
  · rw [State.post_of_drops (s := s.taking (.reportPosting r)) ((Pool.drops_iff h).2 dropped)]
    rfl
  have room : s.pool.drops r = false := Bool.eq_false_iff.2 fun drops => kept ((Pool.drops_iff h).1 drops)
  obtain ⟨c, chosen, post⟩ := State.post_of_room (s := s.taking (.reportPosting r)) h room
  simp only [State.taking_pool, State.taking_clock, State.taking_mem, State.taking_transit] at chosen post
  rw [post]
  have collides := Pool.cellOf_isSome_iff (n := s.pool.generator) h
  have carried : ∀ {e : Fin 64} {x : PoolCell}, s.pool.cells[e] = some x → x.number = s.pool.generator →
      s.pool.carries s.pool.generator e = true := fun hx number => Pool.carries_iff.2 ⟨_, hx, number⟩
  have order : ∀ {e : Fin 64} {x : PoolCell}, s.pool.cells[e] = some x → x.number = s.pool.generator →
      ∀ timer, ((s.pool.numbered s.pool.generator).written r s.pool.generator c timer).order =
        s.pool.order.filter (fun d => decide (d ≠ e)) ++ [c] := fun hx number timer =>
    Pool.order_of_collision h (carried hx number) (Pool.chosen_of_collision h (carried hx number) chosen).1 timer
  have fresh : (¬ ∃ (c : Fin 64) (x : PoolCell), s.pool.cells[c] = some x ∧ x.number = s.pool.generator) →
      s.pool.cellOf s.pool.generator = none := fun none_ => by
    rw [← collides] at none_
    simpa using none_
  refine ⟨by simp [Pool.numbered], by simp [Pool.numbered, nextNumber], ?_, ?_, ?_, c, ?_, ?_, ?_, ?_, ?_⟩
  · rintro ⟨e, x, hx, number⟩
    rw [order hx number, List.length_append, List.length_singleton]
    exact h.length_filter (by rw [hx]; rfl)
  · refine ⟨if (s.pool.cellOf s.pool.generator).isSome then [.counterIncrement .sequenceCollisions] else [],
      if (s.pool.numbered s.pool.generator).lowestEmpty.isNone then [.counterIncrement .overwritten] else [],
      fun found => if_pos (collides.2 found), fun none_ => if_neg (mt collides.1 none_), ?_, ?_, ?_⟩
    · rintro ⟨full, none_⟩
      rw [Pool.numbered_of_fresh h (fresh none_)]
      exact if_pos (Option.isNone_iff_eq_none.2 (Pool.lowestEmpty_eq_none_iff.2 full))
    · intro free
      refine if_neg fun full => free ?_
      have full := Pool.lowestEmpty_eq_none_iff.1 (Option.isNone_iff_eq_none.1 full)
      refine ⟨fun d empty => full d ?_, ?_⟩
      · rw [Pool.numbered_cell, empty, ite_self]
      · rintro ⟨e, x, hx, number⟩
        exact full e (by rw [Pool.numbered_cell, if_pos (carried hx number)])
    · simp only [markEvents, List.append_assoc]
      rfl
  · exact ⟨Pool.timer_of_others h chosen _, Pool.timer_of_alone h _⟩
  · exact (Pool.written_cell ..).trans (if_pos rfl)
  · simp [Pool.written_order]
  · intro none_
    have number := Pool.numbered_of_fresh h (fresh none_)
    have cells : ∀ d : Fin 64, d ≠ c → ((s.pool.numbered s.pool.generator).written r s.pool.generator c
        (s.clock + coalesceTime s.mem * 1000)).cells[d] = s.pool.cells[d] := fun d other => by
      rw [Pool.written_cell, if_neg (Ne.symm other), number]
    refine ⟨fun e empty lowest => ?_, fun full => ?_, cells⟩
    · have low : (s.pool.numbered s.pool.generator).lowestEmpty = some e := by
        rw [number]
        refine Pool.lowestEmpty_eq_some_iff.2 ⟨by simpa using empty, fun d below filled => ?_⟩
        exact absurd (lowest d (by simpa using filled)) (not_le.2 below)
      obtain rfl : e = c := Option.some.inj ((Pool.chosen_of_empty low).symm.trans chosen)
      refine ⟨rfl, ?_⟩
      rw [Pool.written_order, number]
      refine congrArg (· ++ [e]) (List.filter_eq_self.2 fun d listed => ?_)
      have := (h.mem_order d).1 listed
      rw [Bool.not_eq_true', decide_eq_false_iff_not]
      rintro rfl
      rw [Classical.not_not.1 empty] at this
      exact absurd this (by simp)
    · obtain ⟨oldest, head⟩ := Pool.chosen_of_full_fresh h (fresh none_) full chosen
      refine ⟨?_, ?_, ?_⟩
      · rw [Pool.written_order, number, Pool.filter_not_decide]
      · simpa only [← Pool.holdsNormal_iff, Bool.not_eq_true] using oldest
      · simpa only [← Pool.holdsNormal_iff, Bool.not_eq_true] using head
  · intro e x hx number
    obtain ⟨free, lowest⟩ := Pool.chosen_of_collision h (carried hx number) chosen
    refine ⟨by simpa using free, by simpa using lowest, order hx number _, fun d other => ?_⟩
    rw [Pool.written_cell, if_neg (Ne.symm other), Pool.numbered_cell]
    by_cases here : d = e
    · rw [if_pos here, if_pos (here ▸ carried hx number)]
    · rw [if_neg here, if_neg fun also => here (h.carries_unique also (carried hx number))]
  · have pool : ∀ q : Pool, q.ageTimer = s.pool.ageTimer → q = { q with ageTimer := s.pool.ageTimer } := fun q age => by
      rw [← age]
    exact congrArg (fun q => ({ s with transit := _, pool := q } : State)) (pool _ (by simp [Pool.numbered]))

/-- Settles O51: each cell named comes to what its own word makes of it, and what is left of the pool keeps its order. -/
theorem collections : Obligations.Collections := by
  intro cells s h distinct
  obtain ⟨named, others⟩ := Pool.collectAll_cell cells s.pool distinct
  obtain ⟨-, order, rest⟩ := Pool.leaves_collectAll cells h
  refine ⟨_, exec_collection cells s, fun c before listed => ⟨fun empty => ?_, fun x hx => ⟨fun h => ?_, fun other nonzero => ?_,
    fun zero shown => ?_⟩⟩, others, order, congrArg Pool.coalesceTimer rest, ?_⟩
  · exact (named c before listed).trans (by rw [empty]; rfl)
  · exact (named c before listed).trans (by rw [hx, collectCell_collected h])
  · exact (named c before listed).trans (by rw [hx, collectCell_newer other nonzero])
  · refine (named c before listed).trans ?_
    rw [hx]
    exact collectCell_disregarded (fun number => h.number_ne hx (number.symm.trans zero)) zero shown
  · dsimp only
    conv_lhs => rw [rest]
    rw [rest]

/-- The reports of which a predicate holds reclaimed, as AgingAndFlushing tells it. -/
theorem dropCells_kept (p : Pool) (goes : PoolCell → Bool) :
    let q := p.dropCells fun c => p.cells[c].any goes
    (∀ c : Fin 64, q.cells[c] = (p.cells[c].filter fun x => !goes x).map id) ∧
      q.order = p.order.filter (fun c => !(p.cells[c].any goes)) ∧ q.generator = p.generator ∧ q.newest = p.newest ∧
      q.coalesceTimer = if q.order = [] then none else p.coalesceTimer := by
  refine ⟨fun c => ?_, Pool.dropCells_order .., Pool.dropCells_generator .., Pool.dropCells_newest ..,
    Pool.dropCells_timer ..⟩
  rw [Option.map_id, Pool.dropCells_any_cell]
  rfl

/-- Settles O52: each of the events reclaims the reports of which its own test holds. -/
theorem agingAndFlushing : Obligations.AgingAndFlushing := by
  intro s h
  refine ⟨fun due set => ?_, fun slot all => ?_, ?_, fun due set => ?_⟩
  · refine ⟨_, exec_ageTick h set, rfl, ?_, rfl, rfl, rfl⟩
    obtain ⟨cells, order, generator, newest, timer⟩ := dropCells_kept s.pool fun x => x.aged
    simp only [Pool.markAll_order, Pool.markAll_generator, Pool.markAll_newest, Pool.markAll_coalesceTimer]
    refine ⟨fun c => ?_, order, generator, newest, timer⟩
    rw [Pool.markAll_cell, cells c, Option.map_id]
    rfl
  · refine ⟨_, exec_flushReports h slot all, dropCells_kept s.pool fun x => all || !x.report.urgent,
      Pool.dropCells_ageTimer .., rfl, rfl⟩
  · refine ⟨_, exec_restartFlush h, fun keep => if_neg (not_not.2 keep), fun flush => ?_, rfl⟩
    rw [if_pos flush]
    exact dropCells_kept s.pool fun x => !x.report.urgent
  · exact ⟨_, exec_coalesceTimerExpiry set, rfl, rfl⟩

end Sys2Proof.Settled
end

section
/-! SUPPORT. What a command can do to the memories, the report pool and the counters, and the invariants about them (R131,
R156, R162). -/

namespace Sys2Proof.Machine

open Sys2Proof Host

variable {s t : State}

/-! ### Shared operations that keep what State.kept holds -/

@[simp] theorem State.spinUpFails_kept (s : State) (f : Fin 2) : (s.spinUpFails f).kept = s.kept := by
  unfold State.spinUpFails
  split
  · rw [State.endSweep_kept]; split <;> simp
  · simp

@[simp] theorem State.forcedOff_kept (s : State) (w : DWord) : (s.forcedOff w).kept = s.kept := by
  unfold State.forcedOff; simp

theorem State.scanHandOff_kept (s : State) (reading : BitVec 64) (held : List (Fin 64 × KeyEntry)) :
    ((s.scanKeys reading).handOff held).kept = s.kept := by
  rw [State.handOff_kept, State.scanKeys_kept]

/-- The state in which a scan due at a moment is taken, its next scan a scan period on (R91). -/
def State.atScan (s : State) (due : Nat) : State :=
  { s with clock := max s.clock due, keypad := { s.keypad with nextScan := some (due + scanPeriod s.mem * 1000) } }

theorem exec_keypadScan {due : Nat} (set : s.keypad.nextScan = some due) (reading : BitVec 64) :
    exec (.keypadScan reading) s =
      .next (((s.atScan due).scanKeys reading).handOff (heldSet ((s.atScan due).scanKeys reading).keypad.keys)) := by
  show execKeypadScan reading s = _
  unfold execKeypadScan
  simp only [set, State.reachTime, State.atScan]

theorem exec_keypadScan_idle (set : s.keypad.nextScan = none) (reading : BitVec 64) :
    exec (.keypadScan reading) s = .next s := by
  show execKeypadScan reading s = _
  unfold execKeypadScan
  rw [set]

/-- The commands that change nothing of what State.kept holds. -/
def keepsKept : Instr → Bool
  | .powerOnReset .. | .resetRelease | .startUpLoadComplete .. | .tachometerUpdate .. | .tickAdvance .. | .status ..
  | .read .. | .write .. | .badCommand .. | .noticeEnable .. | .noticeAcknowledge .. | .noticeMarkSet .. | .storeSettings ..
  | .storeComplete .. | .reloadSettings .. | .reloadApply .. | .clearCounters .. | .freezeCounters .. | .flushReports ..
  | .badKind .. | .deskAnswer .. | .reportPosting .. | .collection .. | .ageTick | .coalesceTimerExpiry | .restartFlush
  | .counterIncrement .. => false
  | _ => true

/-- They change nothing of it in any of their cases: each leaves operations that keep it. -/
theorem exec_kept (i : Instr) (h : keepsKept i = true) (e : exec i s = .next t) : t.kept = s.kept := by
  cases i with
  | sensorSample ch raw =>
    change execSensorSample ch raw s = _ at e
    unfold execSensorSample at e
    split at e
    · cases e; rfl
    · cases e; split <;> exact State.reportSensor_kept ..
  | s4ColdModeUpdate state held sampled =>
    change execS4ColdModeUpdate state held sampled s = _ at e
    cases e; rfl
  | climatePass supplyLow =>
    change execClimatePass supplyLow s = _ at e
    unfold execClimatePass at e
    split at e
    · cases e; rfl
    · cases e; exact State.climatePass_kept ..
  | heaterOutputOff z =>
    change execHeaterOutputOff z s = _ at e
    unfold execHeaterOutputOff at e
    split at e <;> cases e <;> rfl
  | gateReport gate rearm =>
    change execGateReport gate rearm s = _ at e
    unfold execGateReport at e
    dsimp only at e
    repeat' split at e
    all_goals cases e; simp
  | gateRearm =>
    change execGateRearm s = _ at e
    cases e; rfl
  | boostRequest target seconds =>
    change execBoostRequest target seconds s = _ at e
    cases e
    exact State.takeBoost_kept ..
  | tachometerPulse us f =>
    change execTachometerPulse us f s = _ at e
    cases e; rfl
  | spinUpLimitExpiry f =>
    change execSpinUpLimitExpiry f s = _ at e
    unfold execSpinUpLimitExpiry at e
    dsimp only at e
    repeat' split at e
    all_goals cases e; simp
  | sweepSettleEnd =>
    change execSweepSettleEnd s = _ at e
    unfold execSweepSettleEnd at e
    dsimp only at e
    repeat' split at e
    all_goals cases e; simp
  | pgChange us r level =>
    change execPgChange us r level s = _ at e
    unfold execPgChange at e
    dsimp only at e
    repeat' split at e
    all_goals cases e; simp
  | actionPerformanceEnd ch =>
    change execActionPerformanceEnd ch s = _ at e
    unfold execActionPerformanceEnd at e
    dsimp only at e
    repeat' split at e
    all_goals cases e; simp
  | delayEnd ch =>
    change execDelayEnd ch s = _ at e
    unfold execDelayEnd at e
    dsimp only at e
    repeat' split at e
    all_goals cases e; simp
  | waitMatchedComplete ch =>
    change execWaitMatchedComplete ch s = _ at e
    unfold execWaitMatchedComplete at e
    repeat' split at e
    all_goals cases e; simp
  | waitTimeout ch =>
    change execWaitTimeout ch s = _ at e
    unfold execWaitTimeout at e
    dsimp only at e
    repeat' split at e
    all_goals cases e; simp
  | channel0Outcome start fault =>
    change execChannel0Outcome start fault s = _ at e
    unfold execChannel0Outcome at e
    dsimp only at e
    repeat' split at e
    all_goals cases e; simp
  | wakeTimerExpiry =>
    change execWakeTimerExpiry s = _ at e
    unfold execWakeTimerExpiry at e
    dsimp only at e
    repeat' split at e
    all_goals cases e; simp
  | heldRetryExpiry =>
    change execHeldRetryExpiry s = _ at e
    unfold execHeldRetryExpiry at e
    dsimp only at e
    repeat' split at e
    all_goals cases e; simp
  | stageDeadlineExpiry =>
    change execStageDeadlineExpiry s = _ at e
    unfold execStageDeadlineExpiry at e
    dsimp only at e
    repeat' split at e
    all_goals cases e; simp
  | checkpoint value heartbeat =>
    change execCheckpoint value heartbeat s = _ at e
    unfold execCheckpoint at e
    dsimp only at e
    repeat' split at e
    all_goals cases e; simp
  | heartbeatKick value =>
    change execHeartbeatKick value s = _ at e
    cases e; simp
  | heartbeatTimerExpiry =>
    change execHeartbeatTimerExpiry s = _ at e
    unfold execHeartbeatTimerExpiry at e
    dsimp only at e
    repeat' split at e
    all_goals cases e; simp
  | graceExpiry =>
    change execGraceExpiry s = _ at e
    unfold execGraceExpiry at e
    dsimp only at e
    repeat' split at e
    all_goals cases e; simp
  | pauseTimerExpiry =>
    change execPauseTimerExpiry s = _ at e
    unfold execPauseTimerExpiry at e
    dsimp only at e
    repeat' split at e
    all_goals cases e; simp
  | settleExpiry =>
    change execSettleExpiry s = _ at e
    unfold execSettleExpiry at e
    dsimp only at e
    repeat' split at e
    all_goals cases e; simp
  | holdOffExpiry =>
    change execHoldOffExpiry s = _ at e
    unfold execHoldOffExpiry at e
    dsimp only at e
    repeat' split at e
    all_goals cases e; simp
  | haltDelayExpiry =>
    change execHaltDelayExpiry s = _ at e
    unfold execHaltDelayExpiry at e
    dsimp only at e
    repeat' split at e
    all_goals cases e; simp
  | hostRailMaskEdit before after =>
    change execHostRailMaskEdit before after s = _ at e
    cases e; simp
  | keypadScan reading =>
    cases set : s.keypad.nextScan with
    | none => rw [exec_keypadScan_idle set] at e; cases e; rfl
    | some due =>
      rw [exec_keypadScan set] at e
      exact Outcome.next.inj e ▸ State.scanHandOff_kept ..
  | forcedOffTimerExpiry =>
    change execForcedOffTimerExpiry s = _ at e
    unfold execForcedOffTimerExpiry at e
    split at e
    · cases e; simp
    · cases e; split <;> simp
    · cases e; rfl
  | lightTestEnd =>
    change execLightTestEnd s = _ at e
    unfold execLightTestEnd at e
    dsimp only at e
    repeat' split at e
    all_goals cases e; simp
  | lightTableWrite =>
    change execLightTableWrite s = _ at e
    cases e; rfl
  | tickLadderEdit before after =>
    change execTickLadderEdit before after s = _ at e
    unfold execTickLadderEdit at e
    dsimp only at e
    repeat' split at e
    all_goals cases e; simp
  | linkRailEdit before after =>
    change execLinkRailEdit before after s = _ at e
    unfold execLinkRailEdit at e
    dsimp only at e
    split at e <;> cases e <;> rfl
  | restartHost slot rung =>
    change execRestartHost slot rung s = _ at e
    unfold execRestartHost at e
    dsimp only at e
    repeat' split at e
    all_goals cases e; simp
  | shutDownHost slot halt target wake =>
    change execShutDownHost slot halt target wake s = _ at e
    unfold execShutDownHost at e
    dsimp only at e
    repeat' split at e
    all_goals cases e; simp
  | pauseHeartbeat slot seconds =>
    change execPauseHeartbeat slot seconds s = _ at e
    unfold execPauseHeartbeat at e
    dsimp only at e
    repeat' split at e
    all_goals cases e; simp
  | startSequence slot head =>
    change execStartSequence slot head s = _ at e
    unfold execStartSequence at e
    dsimp only at e
    repeat' split at e
    all_goals cases e; simp
  | stopChannel slot channel =>
    change execStopChannel slot channel s = _ at e
    unfold execStopChannel at e
    dsimp only at e
    repeat' split at e
    all_goals cases e; simp
  | climateOverride slot zone duty seconds =>
    change execClimateOverride slot zone duty seconds s = _ at e
    unfold execClimateOverride at e
    dsimp only at e
    split at e <;> cases e <;> rfl
  | fanSweep slot fan mode =>
    change execFanSweep slot fan mode s = _ at e
    unfold execFanSweep at e
    dsimp only at e
    repeat' split at e
    all_goals cases e; simp
  | keypadLock slot lock =>
    change execKeypadLock slot lock s = _ at e
    unfold execKeypadLock at e
    dsimp only at e
    split at e <;> cases e <;> rfl
  | deskOverpost slot =>
    change execDeskOverpost slot s = _ at e
    cases e; rfl
  | _ => exact absurd h Bool.false_ne_true

/-! ### Commands that write the memory, the pool or the desk's slots -/

/-- The memory and the pool are as sound in t as in s, and the store and the counters as they were. -/
def State.Sound (s t : State) : Prop :=
  (s.mem.wf → t.mem.wf) ∧ (s.pool.Ok → t.pool.Ok) ∧ t.nv = s.nv ∧ t.store = s.store ∧ t.counters = s.counters

theorem State.Sound.refl (s : State) : s.Sound s := ⟨id, id, rfl, rfl, rfl⟩

theorem State.Sound.trans {s t u : State} (h : s.Sound t) (h' : t.Sound u) : s.Sound u := by
  obtain ⟨mem, pool, nv, store, counters⟩ := h
  obtain ⟨mem', pool', nv', store', counters'⟩ := h'
  exact ⟨mem' ∘ mem, pool' ∘ pool, nv'.trans nv, store'.trans store, counters'.trans counters⟩

theorem State.sound_of_kept (h : t.kept = s.kept) : s.Sound t := by
  injection h with _ _ _ mem nv store _ pool counters
  exact ⟨by rw [mem]; exact id, by rw [pool]; exact id, nv, store, counters⟩

/-- A change of the kept part in its pool alone. -/
theorem State.sound_of_kept_withPool (h : t.kept = s.kept.withPool t.pool) (sound : s.pool.Ok → t.pool.Ok) : s.Sound t := by
  injection h with _ _ _ mem nv store _ _ counters
  exact ⟨by rw [mem]; exact id, sound, nv, store, counters⟩

theorem State.sound_foldl {α : Type} (f : State → α → State) (h : ∀ (s : State) x, s.Sound (f s x)) (l : List α) :
    ∀ s : State, s.Sound (l.foldl f s) := by
  induction l with
  | nil => exact .refl
  | cons x l ih => exact fun s => (h s x).trans (ih (f s x))

theorem State.sound_setPool (s : State) {p : Pool} (h : s.pool.Ok → p.Ok) : s.Sound (s.setPool p) := ⟨id, h, rfl, rfl, rfl⟩

theorem State.sound_taking (s : State) (c : Instr) : s.Sound (s.taking c) := .refl s

theorem State.sound_post (s : State) (r : Posting) : s.Sound (s.post r) :=
  State.sound_of_kept_withPool (s.post_kept r) fun h => State.post_ok h r

theorem State.sound_snapshot (s : State) (e : Fin 32) : s.Sound (s.snapshot e) :=
  State.sound_foldl _ (fun t _ => t.sound_post _) _ s

theorem State.sound_entrySend (s : State) (e : Fin 32) : s.Sound (s.entrySend e).1 := by
  unfold State.entrySend
  dsimp only
  split
  · split <;> exact State.sound_of_kept (State.startSequence_kept ..)
  · exact State.sound_of_kept (State.startSweep_kept ..)
  · exact s.sound_snapshot e
  · exact State.sound_of_kept (State.takeBoost_kept ..)
  · exact .refl s

theorem State.sound_entryAct (s : State) (e : Fin 32) : s.Sound (s.entryAct e) := by
  unfold State.entryAct
  refine (s.sound_entrySend e).trans ?_
  dsimp only
  split <;> exact State.sound_of_kept rfl

theorem State.sound_writeEntry (s : State) (e : Fin 32) {offset : Nat} (v : Nat) (h : offset < 8) :
    s.Sound (s.writeEntry e offset v) := by
  refine ⟨Memory.wf_write _ _ _ ?_, id, rfl, rfl, rfl⟩
  unfold entryBase
  omega

theorem State.sound_takeEntry (k : Fin 8) (s : State) (e : Fin 32) : s.Sound (State.takeEntry k s e) := by
  unfold State.takeEntry
  dsimp only
  split
  · exact .refl s
  · split
    · exact .refl s
    · split
      · exact (s.sound_entryAct e).trans (State.sound_writeEntry _ e _ (by decide))
      · split
        · exact State.sound_writeEntry _ e _ (by decide)
        · refine (s.sound_entryAct e).trans ?_
          exact .trans (State.sound_of_kept rfl) (State.sound_writeEntry _ e _ (by decide))

/-- The state in which an advance of tick k due at a moment is taken: its next advance set and the tick part of the status
entry rewritten (R124, R130). -/
def State.atAdvance (s : State) (k : Fin 8) (due : Nat) : State :=
  { s with
    clock := max s.clock due
    sched := { s.sched with nextAdvance := put s.sched.nextAdvance k (some (due + s.sched.lengths[k] * 1000)) } }.publishTicks

theorem exec_tickAdvance {k : Fin 8} {due : Nat} (set : s.sched.nextAdvance[k] = some due) :
    exec (.tickAdvance k) s = .next ((indices 32).foldl (State.takeEntry k) (s.atAdvance k due)) := by
  show execTickAdvance k s = _
  unfold execTickAdvance
  simp only [set, State.reachTime, State.atAdvance]

theorem exec_tickAdvance_idle {k : Fin 8} (stopped : s.sched.nextAdvance[k] = none) :
    exec (.tickAdvance k) s = .next s := by
  show execTickAdvance k s = _
  unfold execTickAdvance
  simp only [stopped]

/-- The desk writes no byte and no report. -/
theorem State.sound_writeAnswer (s : State) (slot r code data) : s.Sound (s.writeAnswer slot r code data) := .refl s

theorem State.sound_takeSlot (s : State) (slot : Fin 8) : s.Sound (s.takeSlot slot) := by
  unfold State.takeSlot
  dsimp only
  split <;> exact .refl s

theorem State.sound_takeOutcome (s : State) (slot : Fin 8) (code : AnswerCode) (data : Words) :
    s.Sound (s.takeOutcome slot code data) := by
  unfold State.takeOutcome
  split
  · exact .refl s
  · dsimp only
    split
    · exact (s.sound_writeAnswer slot _ code data).trans (State.sound_takeSlot _ slot)
    · exact s.sound_writeAnswer slot _ code data

theorem State.sound_deliverSlot (s : State) (slot : Fin 8) (before : Byte) : s.Sound (s.deliverSlot slot before) := by
  unfold State.deliverSlot
  split
  · split <;> exact .refl s
  · split
    · exact s.sound_takeSlot slot
    · exact .refl s

/-- A write's stored bytes lie within the exchange memory. -/
theorem storedBytes_lt {start : Nat} {data : List Byte} {x : Nat × Byte} (h : x ∈ storedBytes (keptBytes start data)) :
    x.1 < 0x4000 := by
  obtain ⟨i, bound, rfl⟩ := List.mem_mapIdx.1 (List.mem_of_mem_filter h)
  exact Nat.mod_lt _ (by decide)

theorem Pool.zeroShown_cell (p : Pool) (kept : List (Nat × Byte)) (c : Fin 64) :
    (p.zeroShown kept).cells[c] =
      p.cells[c].map fun x => if collects kept c then { x with shown := 0 } else x := by
  refine (ofFn_get _ c).trans ?_
  split
  · rfl
  · exact Option.map_id_apply.symm

@[simp] theorem Pool.zeroShown_order (p : Pool) (kept : List (Nat × Byte)) : (p.zeroShown kept).order = p.order := by
  simp only [Pool.zeroShown]

@[simp] theorem Pool.zeroShown_generator (p : Pool) (kept : List (Nat × Byte)) :
    (p.zeroShown kept).generator = p.generator := by
  simp only [Pool.zeroShown]

@[simp] theorem Pool.zeroShown_coalesceTimer (p : Pool) (kept : List (Nat × Byte)) :
    (p.zeroShown kept).coalesceTimer = p.coalesceTimer := by
  simp only [Pool.zeroShown]

theorem Pool.zeroShown_ok {p : Pool} (h : p.Ok) (kept : List (Nat × Byte)) : (p.zeroShown kept).Ok := by
  refine h.of_shown _ (fun c x => ?_) (p.zeroShown_cell kept) (p.zeroShown_order kept) (p.zeroShown_generator kept)
    (p.zeroShown_coalesceTimer kept)
  split
  · exact ⟨rfl, .inr rfl⟩
  · exact ⟨rfl, .inl rfl⟩

theorem State.sound_closeWrite (s : State) (start : Nat) (data : List Byte) : s.Sound (s.closeWrite start data) := by
  unfold State.closeWrite State.deliverDesk
  dsimp only
  refine .trans (t := s.applyWrite (keptBytes start data)) ?_ (.trans (State.sound_of_kept ?_) (State.sound_foldl
    (fun t slot => if touchesAny (keptBytes start data) (slotBase slot) 10 then
      t.deliverSlot slot (postToggle s.mem slot) else t) (fun t slot => ?_) _ _))
  · exact ⟨Memory.wf_writeAll _ _ fun _ => storedBytes_lt, fun h => Pool.zeroShown_ok h _, rfl, rfl, rfl⟩
  · split <;> rfl
  · split
    · exact t.sound_deliverSlot slot _
    · exact .refl t

theorem State.sound_select (s : State) (cs : SelectEvent) (c : Byte) (inbound : List Byte) : s.Sound (s.select cs c inbound) := by
  unfold State.select
  dsimp only
  refine .trans (t := s.elapse cs.us) (State.sound_of_kept rfl) ?_
  split
  · exact .refl _
  · split
    · unfold State.selectActs
      split
      · split <;> exact .refl _
      · split <;> exact .refl _
    · exact .refl _
  · unfold State.selectRises
    split
    · exact .refl _
    · refine .trans (t := (s.elapse cs.us).selectCloses c inbound) ?_ (State.sound_of_kept rfl)
      unfold State.selectCloses
      split
      · split
        · exact State.sound_closeWrite ..
        · exact .refl _
      · exact .refl _

/-- The end of a sweep writes its references alone (R46). -/
theorem State.sound_completeSweep (s : State) (w : Sweep) : s.Sound (s.completeSweep w) := by
  unfold State.completeSweep
  split
  · exact State.sound_of_kept (State.endSweep_kept ..)
  · split
    · exact State.sound_of_kept (State.endSweep_kept ..)
    · have written : s.Sound { s with mem := s.mem.writeBytes (referenceAddr w.fan 0) (referenceBytes w.measured) } := by
        refine ⟨Memory.wf_writeBytes _ _ _ ?_, id, rfl, rfl, rfl⟩
        rw [referenceBytes_length]
        unfold referenceAddr fanBase
        omega
      exact written.trans (State.sound_of_kept (State.endSweep_kept ..))

theorem State.sound_takeMeasurement (s : State) (w : Sweep) (taken : List Nat) (rpm : Nat) :
    s.Sound (s.takeMeasurement w taken rpm) := by
  unfold State.takeMeasurement
  dsimp only
  split
  · exact State.sound_of_kept rfl
  · split
    · exact State.sound_of_kept rfl
    · exact s.sound_completeSweep _

theorem State.sound_deliverRpm (s : State) (f : Fin 2) (rpm : Nat) : s.Sound (s.deliverRpm f rpm) := by
  unfold State.deliverRpm
  split
  · split
    · exact State.sound_of_kept (State.spinUpSucceeds_kept ..)
    · exact .refl s
  · split
    · split
      · split
        · exact s.sound_takeMeasurement ..
        · exact .refl s
      · exact .refl s
    · exact .refl s
  · exact .refl s

theorem Pool.Ok.with_ageTimer {p : Pool} (h : p.Ok) (timer : Option Nat) : ({ p with ageTimer := timer } : Pool).Ok :=
  h.with_rest timer h.generator_ne

theorem Pool.reclaimAll_ok {p : Pool} (h : p.Ok) (l : List (Fin 64)) : (p.reclaimAll l).Ok := by
  rw [Pool.reclaimAll_eq l h]
  exact Pool.dropCells_ok h _

theorem State.sound_reclaimAll {s : State} (l : List (Fin 64)) : s.Sound (s.setPool (s.pool.reclaimAll l)) :=
  s.sound_setPool fun h => Pool.reclaimAll_ok h l

/-- The commands after which the memory and the pool are as sound as before, the store and the counters as they were. -/
def keepsSound : Instr → Bool
  | .powerOnReset .. | .resetRelease | .startUpLoadComplete .. | .storeSettings .. | .storeComplete .. | .reloadSettings ..
  | .reloadApply .. | .clearCounters .. | .freezeCounters .. | .counterIncrement .. => false
  | _ => true

theorem exec_sound (i : Instr) (h : keepsSound i = true) (e : exec i s = .next t) : s.Sound t := by
  by_cases ordinary : keepsKept i = true
  · exact State.sound_of_kept (exec_kept i ordinary e)
  cases i with
  | tachometerUpdate f =>
    change execTachometerUpdate f s = _ at e
    unfold execTachometerUpdate at e
    split at e
    · cases e; exact .refl s
    · cases e
      refine .trans ?_ (State.sound_deliverRpm ..)
      exact State.sound_of_kept rfl
  | tickAdvance k =>
    cases set : s.sched.nextAdvance[k] with
    | none => rw [exec_tickAdvance_idle set] at e; cases e; exact .refl s
    | some due =>
      rw [exec_tickAdvance set] at e
      rw [← Outcome.next.inj e]
      exact .trans (t := s.atAdvance k due) (State.sound_of_kept rfl) (State.sound_foldl _ (State.sound_takeEntry k) _ _)
  | status cs inbound => cases e; exact s.sound_select ..
  | read cs inbound => cases e; exact s.sound_select ..
  | write cs inbound => cases e; exact s.sound_select ..
  | badCommand cs command inbound => cases e; exact s.sound_select ..
  | noticeEnable enable acknowledge => cases e; exact .refl s
  | noticeAcknowledge acknowledge => cases e; exact .refl s
  | noticeMarkSet m => cases e; exact .refl s
  | flushReports slot cls =>
    change execFlushReports slot cls s = _ at e
    unfold execFlushReports at e
    dsimp only at e
    split at e
    · cases e; exact .refl s
    · cases e; exact s.sound_reclaimAll _
  | badKind slot => cases e; exact .trans (s.sound_taking _) (State.sound_takeOutcome ..)
  | deskAnswer slot code data => cases e; exact .trans (s.sound_taking _) (State.sound_takeOutcome ..)
  | reportPosting report => cases e; exact .trans (s.sound_taking _) (State.sound_post ..)
  | collection cells => cases e; exact s.sound_setPool fun h => (Pool.leaves_collectAll cells h).1
  | ageTick =>
    cases set : s.pool.ageTimer with
    | none => rw [exec_ageTick_idle set] at e; cases e; exact .refl s
    | some due =>
      change execAgeTick s = _ at e
      unfold execAgeTick at e
      rw [set] at e
      cases e
      refine s.sound_setPool fun h => ?_
      exact (Pool.markAll_ok (Pool.reclaimAll_ok h _)).with_ageTimer _
  | coalesceTimerExpiry =>
    cases set : s.pool.coalesceTimer with
    | none => rw [exec_coalesceTimerExpiry_idle set] at e; cases e; exact .refl s
    | some due =>
      change execCoalesceTimerExpiry s = _ at e
      unfold execCoalesceTimerExpiry at e
      rw [set] at e
      cases e
      exact s.sound_setPool fun h => h.with_timer _
  | restartFlush =>
    change execRestartFlush s = _ at e
    unfold execRestartFlush at e
    cases e
    split
    · exact s.sound_reclaimAll _
    · exact .refl s
  | _ => first | exact absurd h Bool.false_ne_true | exact absurd rfl ordinary

/-! ### The store's commands -/

@[simp] theorem State.nvNow_image (s : State) : s.nvNow.image = s.nv.image := by
  unfold State.nvNow
  split
  · split <;> rfl
  · rfl

theorem NvStore.loads_imageWf {nv : NvStore} (h : nv.image.imageWf) : nv.loads.imageWf := by
  unfold NvStore.loads
  split
  · exact h
  · exact factoryImage_wf

theorem State.powerOn1_memoryOk (ok : s.MemoryOk) (low : Bool) (pg : Vector Bool 6) : (s.powerOn1 low pg).MemoryOk := by
  obtain ⟨-, image, -⟩ := ok
  refine ⟨rfl, ?_, fun _ _ _ _ storing => by cases storing⟩
  show s.nvNow.image.imageWf
  rwa [State.nvNow_image]

/-- The start-up in three: the load, the notice of a defaulted start, and what begins at READY (R164). -/
def State.loaded (s : State) : State := { s with mem := s.mem.loadSettings s.nv.loads }

theorem State.loaded_memoryOk (ok : s.MemoryOk) : s.loaded.MemoryOk := by
  obtain ⟨mem, image, snapshot⟩ := ok
  exact ⟨Memory.wf_loadSettings _ _ mem (NvStore.loads_imageWf image), image, snapshot⟩

theorem State.Sound.memoryOk (h : s.Sound t) (ok : s.MemoryOk) : t.MemoryOk := by
  obtain ⟨mem, -, nv, store, -⟩ := h
  obtain ⟨wf, image, snapshot⟩ := ok
  exact ⟨mem wf, by rwa [nv], by rwa [store]⟩

theorem State.sound_noteDefaulted (s : State) : s.Sound s.noteDefaulted := by
  unfold State.noteDefaulted
  refine .trans ?_ (State.sound_post ..)
  exact .refl s

theorem State.sound_startRhythms (s : State) : s.Sound s.startRhythms := by
  exact ⟨id, fun h => h.with_ageTimer _, rfl, rfl, rfl⟩

/-- Start-up up to auto-start: a defaulted start noted, the part state, the supervisor's ladder copy, the link port's rail
and what begins at READY (R164). -/
def State.begun (s : State) : State :=
  let defaulted := !s.nv.isMatch
  let t := if defaulted then s.loaded.noteDefaulted else s.loaded
  let t := { t with partState := if defaulted then PartState.defaulted else PartState.ready }
  (t.setSup (t.sup.refreshLadder t.mem)).deliverLink.startRhythms

theorem State.startUp_eq (s : State) : s.startUp = if autoStart s.begun.mem then s.begun.powerOn.1 else s.begun := rfl

theorem State.sound_begun (s : State) : s.loaded.Sound s.begun := by
  unfold State.begun
  dsimp only
  refine .trans ?_ (State.sound_startRhythms _)
  split
  · exact .trans s.loaded.sound_noteDefaulted ⟨id, id, rfl, rfl, rfl⟩
  · exact ⟨id, id, rfl, rfl, rfl⟩

theorem State.sound_startUp (s : State) : s.loaded.Sound s.startUp := by
  rw [State.startUp_eq]
  split
  · exact s.sound_begun.trans (State.sound_of_kept (State.powerOn_kept _))
  · exact s.sound_begun

/-- A reload's apply loads the region as start-up does and ends the reload (R166). -/
theorem State.applyReload_kept (s : State) (slot : Fin 8) : (s.applyReload slot).kept =
    { s.loaded.kept with
      partState := if s.nv.isMatch then s.partState else PartState.defaulted
      store := .idle } := by
  unfold State.applyReload
  cases s.nv.isMatch <;> simp <;> rfl

/-- The commands that write a counter. -/
def writesCounters : Instr → Bool
  | .powerOnReset .. | .resetRelease | .clearCounters .. | .counterIncrement .. => true
  | _ => false

/-- What the commands of the store and of the counters leave of the memories, the pool and the counters. -/
theorem exec_store_sound (i : Instr) (h : keepsSound i = false) (e : exec i s = .next t) :
    (s.MemoryOk → t.MemoryOk) ∧ (s.pool.Ok → t.pool.Ok) ∧
    (writesCounters i = false → t.counters.values = s.counters.values) := by
  cases i with
  | powerOnReset reset pg =>
    cases e
    exact ⟨fun ok => State.powerOn1_memoryOk (s := s.elapse reset.us) ok _ _, fun _ => Pool.empty_ok, nofun⟩
  | resetRelease =>
    rw [exec_resetRelease] at e
    split at e
    · cases e; exact ⟨fun ok => State.powerOn1_memoryOk ok _ _, fun _ => Pool.empty_ok, nofun⟩
    · cases e; exact ⟨id, id, fun _ => rfl⟩
  | startUpLoadComplete us =>
    change execStartUpLoadComplete us s = _ at e
    unfold execStartUpLoadComplete at e
    dsimp only at e
    split at e
    · cases e
      have sound := State.sound_startUp (s.elapse us)
      have ⟨_, pool, _, _, counters⟩ := sound
      exact ⟨fun ok => sound.memoryOk (State.loaded_memoryOk (s := s.elapse us) ok), pool, fun _ => by rw [counters]; rfl⟩
    · cases e; exact ⟨id, id, fun _ => rfl⟩
  | storeSettings slot =>
    change execStoreSettings slot s = _ at e
    unfold execStoreSettings at e
    dsimp only at e
    split at e
    · cases e
      refine ⟨?_, id, fun _ => rfl⟩
      rintro ⟨mem, image, -⟩
      refine ⟨mem, image, ?_⟩
      rintro _ _ _ _ storing
      cases storing
      exact Memory.imageWf_settings _ mem
    · cases e; exact ⟨id, id, fun _ => rfl⟩
  | storeComplete us verified =>
    change execStoreComplete us verified s = _ at e
    unfold execStoreComplete at e
    dsimp only at e
    split at e
    · next storing =>
      split at e
      · cases e
        refine ⟨?_, id, fun _ => rfl⟩
        rintro ⟨mem, -, snapshot⟩
        exact ⟨mem, snapshot _ _ _ _ storing, fun _ _ _ _ idle => by cases idle⟩
      · cases e
        refine ⟨?_, id, fun _ => rfl⟩
        rintro ⟨mem, image, -⟩
        exact ⟨mem, image, fun _ _ _ _ idle => by cases idle⟩
    · cases e; exact ⟨id, id, fun _ => rfl⟩
  | reloadSettings slot =>
    change execReloadSettings slot s = _ at e
    unfold execReloadSettings at e
    dsimp only at e
    split at e
    · split at e
      · cases e; exact ⟨id, id, fun _ => rfl⟩
      · cases e
        refine ⟨?_, id, fun _ => rfl⟩
        rintro ⟨mem, image, -⟩
        exact ⟨mem, image, fun _ _ _ _ idle => by cases idle⟩
    · cases e; exact ⟨id, id, fun _ => rfl⟩
  | reloadApply us =>
    change execReloadApply us s = _ at e
    unfold execReloadApply at e
    dsimp only at e
    split at e
    · cases e
      have kept := State.applyReload_kept (s.elapse us) ‹_›
      injection kept with _ _ _ mem nv store _ pool counters
      refine ⟨fun ok => ?_, by rw [pool]; exact id, fun _ => by rw [counters]; rfl⟩
      obtain ⟨wf, image, -⟩ := State.loaded_memoryOk (s := s.elapse us) ok
      exact ⟨by rwa [mem], by rwa [nv], fun _ _ _ _ storing => by rw [store] at storing; cases storing⟩
    · cases e; exact ⟨id, id, fun _ => rfl⟩
  | clearCounters slot group =>
    change execClearCounters slot group s = _ at e
    unfold execClearCounters at e
    dsimp only at e
    split at e <;> cases e <;> exact ⟨id, id, nofun⟩
  | freezeCounters slot on =>
    change execFreezeCounters slot on s = _ at e
    unfold execFreezeCounters at e
    dsimp only at e
    split at e <;> cases e <;> exact ⟨id, id, fun _ => rfl⟩
  | counterIncrement c => cases e; exact ⟨id, id, nofun⟩
  | _ => cases h

theorem exec_keeps_memoryOk (i : Instr) (ok : s.MemoryOk) (e : exec i s = .next t) : t.MemoryOk := by
  cases h : keepsSound i with
  | false => exact (exec_store_sound i h e).1 ok
  | true => exact (exec_sound i h e).memoryOk ok

theorem exec_keeps_poolOk (i : Instr) (ok : s.pool.Ok) (e : exec i s = .next t) : t.pool.Ok := by
  cases h : keepsSound i with
  | false => exact (exec_store_sound i h e).2.1 ok
  | true => exact (exec_sound i h e).2.1 ok

/-- A counter falls only by a clear of its group or by a power-on reset (R162). -/
theorem exec_counter_lt (i : Instr) (e : exec i s = .next t) {n : Fin 54}
    (fell : t.counters.values[n] < s.counters.values[n]) :
    (∃ r pg, i = .powerOnReset r pg) ∨ i = .resetRelease ∨
    ∃ slot group, i = .clearCounters slot group ∧ group.toNat ≤ 6 ∧
      (groupSpan group.toNat).1 ≤ n.val ∧ n.val < (groupSpan group.toNat).1 + (groupSpan group.toNat).2 := by
  have same : t.counters.values = s.counters.values → False := fun same => by
    rw [same] at fell
    exact lt_irrefl _ fell
  cases writes : writesCounters i with
  | false =>
    cases h : keepsSound i with
    | true =>
      obtain ⟨-, -, -, -, counters⟩ := exec_sound i h e
      exact (same (by rw [counters])).elim
    | false =>
      obtain ⟨-, -, counters⟩ := exec_store_sound i h e
      exact (same (counters writes)).elim
  | true =>
    cases i with
    | powerOnReset r pg => exact .inl ⟨r, pg, rfl⟩
    | resetRelease => exact .inr (.inl rfl)
    | clearCounters slot group =>
      by_cases named : group.toNat ≤ 6
      · rw [exec_clearCounters s named] at e
        have cleared : t.counters = s.counters.clear group.toNat := by rw [← Outcome.next.inj e]; rfl
        refine .inr (.inr ⟨slot, group, rfl, named, ?_⟩)
        by_contra outside
        rw [cleared, Counters.clear_values, if_neg outside] at fell
        exact lt_irrefl _ fell
      · change execClearCounters slot group s = _ at e
        unfold execClearCounters at e
        dsimp only at e
        rw [if_pos (not_le.1 named)] at e
        cases e
        exact absurd fell (lt_irrefl _)
    | counterIncrement c =>
      have bumped : t.counters = s.counters.bump c := by rw [← Outcome.next.inj e]; rfl
      refine absurd fell (not_lt.2 ?_)
      rw [bumped, Counters.bump_values]
      split
      · exact Nat.le_succ _
      · exact le_refl _
    | _ => cases writes

end Sys2Proof.Machine

namespace Sys2Proof.Settled

open Sys2Proof Sys2Proof.Machine Host

/-- Settles O54: no command leaves a memory out of its canonical form. -/
theorem stepKeepsMemoryOk : Obligations.StepKeepsMemoryOk := fun _ _ ok run =>
  step_keeps (P := State.MemoryOk) (fun _ _ ok => ok) (fun _ ok => ok) (fun c _ _ => exec_keeps_memoryOk c) ok run

/-- Settles O55: no command leaves the pool unsound, and a sound pool lists each of its 64 cells at most once. -/
theorem stepKeepsPoolOk : Obligations.StepKeepsPoolOk := by
  intro s t ok run
  have sound : t.pool.Ok :=
    step_keeps (P := fun u => u.pool.Ok) (fun _ _ ok => ok) (fun _ ok => ok) (fun c _ _ => exec_keeps_poolOk c) ok run
  exact ⟨sound, sound.length_le⟩

/-- Settles O60: a step runs one command, and a counter falls in those alone. -/
theorem countersNeverDecrease : Obligations.CountersNeverDecrease := by
  intro s t i run fell
  obtain ⟨c, rest, taken, exec_⟩ | rfl := step_next run
  · rw [taken]
    rcases exec_counter_lt c exec_ fell with ⟨r, pg, rfl⟩ | rfl | ⟨slot, group, rfl, within⟩
    · exact .inl ⟨r, pg, rfl⟩
    · exact .inr (.inl rfl)
    · exact .inr (.inr ⟨slot, group, rfl, within⟩)
  · exact absurd fell (lt_irrefl _)

end Sys2Proof.Settled
end

section
/-! SUPPORT. What each operation of the rail sequencer does, in the terms of chapter 3 (R49 to R67). -/

namespace Sys2Proof.Machine

open Sys2Proof Host

variable {s t : State}

/-! ### Rails and lines (R49, R52, R53) -/

theorem put_put {α : Type} {n : Nat} (v : Vector α n) (i : Fin n) (x y : α) : put (put v i x) i y = put v i y := by
  unfold put
  exact Vector.set_set ..

/-- Rail r's record written and, when r is the link rail, delivered to the link port (R50, R52). -/
def State.setRail (s : State) (r : Fin 6) (x : Rail) : State :=
  { s with
    rails := put s.rails r x
    link := if r = linkRail s.mem then s.link.evaluate r x else s.link }

theorem State.deliverRail_put (s : State) (r : Fin 6) (x : Rail) :
    ({ s with rails := put s.rails r x } : State).deliverRail r = s.setRail r x := by
  unfold State.deliverRail State.setRail State.deliverLink
  dsimp only
  split
  · next here => subst here; rw [put_same]
  · rfl

theorem State.railOn_eq (s : State) (r : Fin 6) : s.railOn r =
    if s.rails[r].commanded = true then s
    else s.setRail r { s.rails[r] with commanded := true, watched := s.rails[r].good } := by
  unfold State.railOn
  dsimp only
  rw [State.deliverRail_put]

/-- The switching off of rail r with `flush`, as an event to the report pool (R52). -/
def offEvents (m : Memory) (r : Fin 6) (flush : Bool) : List Instr :=
  if flush = true ∧ r = linkRail m then [.restartFlush] else []

theorem State.railOff_eq (s : State) (r : Fin 6) (flush : Bool) : s.railOff r flush =
    if s.rails[r].commanded = true then
      (s.setRail r { s.rails[r] with commanded := false, watched := false }).sendAll (offEvents s.mem r flush)
    else s := by
  unfold State.railOff offEvents
  dsimp only
  rw [State.deliverRail_put]
  cases on : s.rails[r].commanded with
  | false => rfl
  | true =>
    rw [if_neg (by simp), if_pos rfl]
    show (if flush = true ∧ r = linkRail s.mem then _ else _) = _
    split
    · rfl
    · exact congrArg (fun l => ({ s.setRail r _ with transit := l } : State)) (List.append_nil _).symm

/-! ### Performances (R56) -/

/-- An operation and target that name something (R56). -/
def Action.Known (a : Action) : Prop :=
  let op := a.operation.toNat
  let n := a.target.toNat
  ((op = 1 ∨ op = 2) ∧ n < 6) ∨ ((op = 3 ∨ op = 4 ∨ op = 5) ∧ n < 4) ∨ op = 6 ∨ (op = 7 ∧ (n < 3 ∨ n = 255))

theorem Action.inRange_iff (a : Action) : a.inRange = true ↔ a.Known := by
  unfold Action.inRange Action.Known
  dsimp only
  split <;> simp_all

/-- The effect of a performance that passes its checks, part by part (R56). -/
def Effect (s t : State) (c : Fin 4) (a : Action) : Prop :=
  let op := a.operation.toNat
  let n := a.target.toNat
  (∀ r : Fin 6, op = 1 → r.val = n → t.rails[r] =
    if s.rails[r].commanded = true then s.rails[r]
    else { s.rails[r] with commanded := true, watched := s.rails[r].good }) ∧
  (∀ r : Fin 6, op = 2 → r.val = n → t.rails[r] =
    if s.rails[r].commanded = true then { s.rails[r] with commanded := false, watched := false } else s.rails[r]) ∧
  (∀ r : Fin 6, ¬ ((op = 1 ∨ op = 2) ∧ r.val = n) → t.rails[r] = s.rails[r]) ∧
  t.lines =
    { hrst := if n ≠ 0 then s.lines.hrst else if op = 3 then true else if op = 4 then false
        else if op = 5 then !s.lines.hrst else s.lines.hrst
      hpwr := if n ≠ 1 then s.lines.hpwr else if op = 3 then true else if op = 4 then false
        else if op = 5 then !s.lines.hpwr else s.lines.hpwr
      pnl := if n ≠ 2 then s.lines.pnl else if op = 3 then true else if op = 4 then false
        else if op = 5 then !s.lines.pnl else s.lines.pnl
      aux := if n ≠ 3 then s.lines.aux else if op = 3 then true else if op = 4 then false
        else if op = 5 then !s.lines.aux else s.lines.aux } ∧
  t.transit = s.transit
    ++ (if op = 2 ∧ c = 0 ∧ n = (linkRail s.mem).val ∧ s.rails[linkRail s.mem].commanded = true then [.restartFlush]
        else if op = 6 then [posting s.uptime .mark 0 false (BitVec.ofNat 8 c.val)
          { w0 := natWord (a.argument.toNat % 256), w1 := natWord s.channels[c].sequence.val, w2 := natWord a.index.toNat }]
        else if op = 7 then [.boostRequest (if n = 255 then .all else .zone n) a.argument]
        else []) ∧
  (t.rails ≠ s.rails → n = (linkRail s.mem).val → LinkEvaluated s t (linkRail s.mem)) ∧
  (t.rails = s.rails ∨ n ≠ (linkRail s.mem).val → t.link = s.link) ∧
  t = { s with rails := t.rails, lines := t.lines, transit := t.transit, link := t.link }

theorem State.setRail_evaluated (s : State) (r : Fin 6) (x : Rail) (h : r = linkRail s.mem) :
    LinkEvaluated s (s.setRail r x) r := by
  unfold LinkEvaluated State.setRail
  simp [h, Link.evaluate_eq]

theorem railOf_val {n : Nat} (h : n < 6) : (railOf n).val = n := by
  unfold railOf
  exact Nat.min_eq_left (by omega)

theorem railOf_eq {n : Nat} {r : Fin 6} (h : r.val = n) : railOf n = r :=
  Fin.ext ((railOf_val (h ▸ r.isLt)).trans h.symm)

/-- Rail r's record written is the effect of a rail's action (R49, R52). -/
theorem State.setRail_rails (s : State) (r d : Fin 6) (x : Rail) :
    (s.setRail r x).rails[d] = if r = d then x else s.rails[d] := put_get ..

theorem State.setRail_link (s : State) (r : Fin 6) (x : Rail) (h : r ≠ linkRail s.mem) : (s.setRail r x).link = s.link :=
  if_neg h

/-- Rail r's record changed is a change of the rails. -/
theorem State.setRail_rails_ne (s : State) (r : Fin 6) (x : Rail) (h : x ≠ s.rails[r]) : (s.setRail r x).rails ≠ s.rails := by
  intro same
  have here := s.setRail_rails r r x
  rw [if_pos rfl, same] at here
  exact h here.symm

/-- The line moved by a performance, when its operation moves one (R53). -/
theorem Lines.set_moves (l : Lines) {n op : Nat} (h : n < 4) {v : Bool}
    (moves : ∀ old : Bool, old = l.get n → v = if op = 3 then true else if op = 4 then false else if op = 5 then !old else old) :
    l.set n v =
      { hrst := if n ≠ 0 then l.hrst else if op = 3 then true else if op = 4 then false
          else if op = 5 then !l.hrst else l.hrst
        hpwr := if n ≠ 1 then l.hpwr else if op = 3 then true else if op = 4 then false
          else if op = 5 then !l.hpwr else l.hpwr
        pnl := if n ≠ 2 then l.pnl else if op = 3 then true else if op = 4 then false
          else if op = 5 then !l.pnl else l.pnl
        aux := if n ≠ 3 then l.aux else if op = 3 then true else if op = 4 then false
          else if op = 5 then !l.aux else l.aux } := by
  have value := moves _ rfl
  interval_cases n <;> rw [value] <;> rfl

section
variable {c : Fin 4} {a : Action}

theorem State.actionEffect_on (op : a.operation.toNat = 1) : s.actionEffect c a = s.railOn (railOf a.target.toNat) := by
  simp only [State.actionEffect, op]

theorem State.actionEffect_off (op : a.operation.toNat = 2) :
    s.actionEffect c a = s.railOff (railOf a.target.toNat) (decide (c = 0)) := by
  simp only [State.actionEffect, op]

theorem State.actionEffect_assert (op : a.operation.toNat = 3) :
    s.actionEffect c a = { s with lines := s.lines.set a.target.toNat true } := by
  simp only [State.actionEffect, op]

theorem State.actionEffect_release (op : a.operation.toNat = 4) :
    s.actionEffect c a = { s with lines := s.lines.set a.target.toNat false } := by
  simp only [State.actionEffect, op]

theorem State.actionEffect_toggle (op : a.operation.toNat = 5) :
    s.actionEffect c a = { s with lines := s.lines.set a.target.toNat (!s.lines.get a.target.toNat) } := by
  simp only [State.actionEffect, op]

theorem State.actionEffect_mark (op : a.operation.toNat = 6) : s.actionEffect c a =
    s.report .mark 0 false c.val
      { w0 := natWord (a.argument.toNat % 256), w1 := natWord s.channels[c].sequence.val, w2 := natWord a.index.toNat } := by
  simp only [State.actionEffect, op]

theorem State.actionEffect_boost (op : a.operation.toNat = 7) :
    s.actionEffect c a = s.send (.boostRequest (boostTargetOf a.target.toNat) a.argument) := by
  simp only [State.actionEffect, op]

/-- RAIL ON's effect (R49). -/
theorem State.railOn_effect (op : a.operation.toNat = 1) (bound : a.target.toNat < 6) :
    Effect s (s.actionEffect c a) c a := by
  rw [State.actionEffect_on op, State.railOn_eq]
  unfold Effect
  rw [op]
  have here := railOf_val bound
  generalize railOf a.target.toNat = q at here ⊢
  rw [← here]
  by_cases on : s.rails[q].commanded = true
  · rw [if_pos on]
    refine ⟨fun r _ same => ?_, by simp, by simp, by simp, by simp, by simp, by simp, rfl⟩
    obtain rfl := Fin.ext same
    exact (if_pos on).symm
  · rw [if_neg on]
    refine ⟨fun r _ same => ?_, by simp, fun r other => ?_, by simp [State.setRail], by simp [State.setRail],
      fun _ linked => ?_, ?_, rfl⟩
    · obtain rfl := Fin.ext same
      exact (s.setRail_rails ..).trans ((if_pos rfl).trans (if_neg on).symm)
    · exact (s.setRail_rails ..).trans (if_neg fun same => other ⟨.inl rfl, congrArg _ same.symm⟩)
    · exact Fin.ext linked ▸ s.setRail_evaluated _ _ (Fin.ext linked)
    · rintro (same | other)
      · refine absurd same (s.setRail_rails_ne _ _ fun changed => on ?_)
        rw [← changed]
      · exact s.setRail_link _ _ fun linked => other (congrArg _ linked)

/-- RAIL OFF's effect (R49, R52). -/
theorem State.railOff_effect (op : a.operation.toNat = 2) (bound : a.target.toNat < 6) :
    Effect s (s.actionEffect c a) c a := by
  rw [State.actionEffect_off op, State.railOff_eq]
  unfold Effect
  rw [op]
  have here := railOf_val bound
  generalize railOf a.target.toNat = q at here ⊢
  rw [← here]
  by_cases on : s.rails[q].commanded = true
  · rw [if_pos on]
    refine ⟨by simp, fun r _ same => ?_, fun r other => ?_, by simp [State.setRail], ?_, fun _ linked => ?_, ?_, rfl⟩
    · obtain rfl := Fin.ext same
      exact (s.setRail_rails ..).trans ((if_pos rfl).trans (if_pos on).symm)
    · exact (s.setRail_rails ..).trans (if_neg fun same => other ⟨.inr rfl, congrArg _ same.symm⟩)
    · refine congrArg (s.transit ++ ·) ?_
      unfold offEvents
      by_cases linked : q = linkRail s.mem
      · subst linked
        simp only [on, decide_eq_true_eq, and_true, true_and]
        rfl
      · simp [linked, Fin.val_ne_of_ne linked]
    · exact Fin.ext linked ▸ s.setRail_evaluated _ _ (Fin.ext linked)
    · rintro (same | other)
      · refine absurd same (s.setRail_rails_ne _ _ fun changed => ?_)
        rw [← changed] at on
        exact absurd on Bool.false_ne_true
      · exact s.setRail_link _ _ fun linked => other (congrArg _ linked)
  · rw [if_neg on]
    refine ⟨by simp, fun r _ same => ?_, by simp, by simp, ?_, by simp, by simp, rfl⟩
    · obtain rfl := Fin.ext same
      exact (if_neg on).symm
    · rw [if_neg]
      · simp
      · rintro ⟨-, -, linked, also⟩
        obtain rfl := Fin.ext linked
        exact on also

theorem State.actionEffect_effect (s : State) (c : Fin 4) (a : Action) (known : a.Known) :
    Effect s (s.actionEffect c a) c a := by
  rcases known with ⟨op | op, bound⟩ | ⟨op | op | op, bound⟩ | op | ⟨op, bound⟩
  · exact State.railOn_effect op bound
  · exact State.railOff_effect op bound
  · rw [State.actionEffect_assert op]
    unfold Effect
    rw [op]
    exact ⟨by simp, by simp, by simp, s.lines.set_moves bound (by simp), by simp, by simp, by simp, rfl⟩
  · rw [State.actionEffect_release op]
    unfold Effect
    rw [op]
    exact ⟨by simp, by simp, by simp, s.lines.set_moves bound (by simp), by simp, by simp, by simp, rfl⟩
  · rw [State.actionEffect_toggle op]
    unfold Effect
    rw [op]
    exact ⟨by simp, by simp, by simp, s.lines.set_moves bound (by simp), by simp, by simp, by simp, rfl⟩
  · rw [State.actionEffect_mark op]
    unfold Effect
    rw [op]
    exact ⟨by simp, by simp, by simp, by simp, rfl, by simp, by simp, rfl⟩
  · rw [State.actionEffect_boost op]
    unfold Effect
    rw [op]
    exact ⟨by simp, by simp, by simp, by simp, rfl, by simp, by simp, rfl⟩

end

/-! ### Endings (R65, R66) -/

@[simp] theorem State.setChan_get (s : State) (c : Fin 4) (x : Channel) : (s.setChan c x).channels[c] = x := put_same ..

theorem State.setChan_other (s : State) {c d : Fin 4} (h : c ≠ d) (x : Channel) :
    (s.setChan c x).channels[d] = s.channels[d] := put_other _ h _

@[simp] theorem State.setChan_setChan (s : State) (c : Fin 4) (x y : Channel) :
    (s.setChan c x).setChan c y = s.setChan c y := by
  unfold State.setChan
  simp only [put_put]

@[simp] theorem State.setChan_self (s : State) (c : Fin 4) : s.setChan c s.channels[c] = s := by
  unfold State.setChan
  rw [put_self]

theorem endEvents_eq (stamp : DWord) (c : Fin 4) (y : Channel) : endEvents stamp c y =
    [.counterIncrement (endCounter y.state),
      posting stamp .channel (BitVec.ofNat 8 (chanCode y.state))
        (decide (y.state = .faulted ∧ y.starter = some .supervisor)) (BitVec.ofNat 8 c.val)
        { w0 := natWord y.sequence.val, w1 := natWord (starterCode y.starter), w2 := natWord (endedCode y.endedBy)
          w3 := natWord (faultCode y.fault + y.faultStep.toNat * 256) }]
    ++ (if c = 0 ∧ y.state ≠ .aborted then [.channel0Outcome y.startId y.fault] else []) := by
  rw [endEvents, Bool.decide_and]
  cases y.state <;> rfl

/-- A channel's ending, field by field (R66). -/
theorem State.endChannel_eq (s : State) (c : Fin 4) (y : Channel) : s.endChannel c y = { s with
    channels := put s.channels c { y with activity := .none }
    transit := s.transit ++ endEvents s.uptime c y } := by
  rw [endEvents_eq]
  unfold State.endChannel
  dsimp only
  by_cases awaited : c = 0 ∧ y.state ≠ .aborted
  · rw [if_pos awaited, if_pos awaited, ← List.append_assoc, List.append_cons s.transit]
    rfl
  · rw [if_neg awaited, if_neg awaited, List.append_nil, List.append_cons s.transit]
    rfl

theorem State.endChannel_setChan (s : State) (c : Fin 4) (x y : Channel) :
    (s.setChan c x).endChannel c y = s.endChannel c y := by
  rw [State.endChannel_eq, State.endChannel_eq]
  unfold State.setChan
  simp only [put_put]
  rfl

theorem State.endChannel_endsAs (s : State) (c : Fin 4) (y : Channel) : EndsAs s (s.endChannel c y) c y := by
  rw [State.endChannel_eq]
  exact ⟨put_same .., fun d other => put_other _ other.symm _, rfl, rfl⟩

theorem SupState.hostOff_iff (st : SupState) : st.hostOff = true ↔ st = .off ∨ st = .warming ∨ st = .held := by
  cases st <;> simp [SupState.hostOff]

/-! ### Step entries (R55, 12.8.1) -/

/-- The type byte of the entry at an index, 0 beyond the table. -/
def stepKind (m : Memory) (i : Byte) : Nat := if 127 < i.toNat then 0 else m.byte (0x1400 + 8 * i.toNat)

section
variable {m : Memory} {i : Byte}

theorem atLeastOne_eq (n : Nat) : atLeastOne n = max 1 n := by
  unfold atLeastOne
  split <;> omega

theorem stepAt_eq (m : Memory) (i : Byte) :
    let b := 0x1400 + 8 * i.toNat
    stepAt m i =
      if stepKind m i = 1 then .action
        { index := i, next := m.read (b + 1), operation := m.read (b + 2), target := m.read (b + 3)
          argument := m.read16 (b + 6) } (max 1 (m.byte (b + 4)))
      else if stepKind m i = 2 then .delay (m.read (b + 1)) (max 1 (m.nat16 (b + 2)))
      else if stepKind m i = 3 then
        .wait (m.byte (b + 2)) (decide (m.read (b + 3) ≠ 0#8)) (m.read (b + 1)) (max 1 (m.nat16 (b + 4)))
      else .invalid := by
  simp only [← atLeastOne_eq]
  unfold stepAt stepKind
  dsimp only
  split
  · rfl
  · split <;> simp_all [Memory.flag]

theorem stepAt_action (kind : stepKind m i = 1) : stepAt m i = .action
    { index := i, next := m.read (0x1400 + 8 * i.toNat + 1), operation := m.read (0x1400 + 8 * i.toNat + 2)
      target := m.read (0x1400 + 8 * i.toNat + 3), argument := m.read16 (0x1400 + 8 * i.toNat + 6) }
    (max 1 (m.byte (0x1400 + 8 * i.toNat + 4))) :=
  (stepAt_eq m i).trans (if_pos kind)

theorem stepAt_delay (kind : stepKind m i = 2) :
    stepAt m i = .delay (m.read (0x1400 + 8 * i.toNat + 1)) (max 1 (m.nat16 (0x1400 + 8 * i.toNat + 2))) := by
  refine (stepAt_eq m i).trans ?_
  rw [if_neg (by omega), if_pos kind]

theorem stepAt_wait (kind : stepKind m i = 3) : stepAt m i =
    .wait (m.byte (0x1400 + 8 * i.toNat + 2)) (decide (m.read (0x1400 + 8 * i.toNat + 3) ≠ 0#8))
      (m.read (0x1400 + 8 * i.toNat + 1)) (max 1 (m.nat16 (0x1400 + 8 * i.toNat + 4))) := by
  refine (stepAt_eq m i).trans ?_
  rw [if_neg (by omega), if_neg (by omega), if_pos kind]

theorem stepAt_invalid (no1 : stepKind m i ≠ 1) (no2 : stepKind m i ≠ 2) (no3 : stepKind m i ≠ 3) :
    stepAt m i = .invalid := by
  refine (stepAt_eq m i).trans ?_
  rw [if_neg no1, if_neg no2, if_neg no3]

end

/-! ### Channels by the record they hold -/

section
variable (s : State) (c : Fin 4) (x : Channel)

theorem State.faultChannel_faultsWith (code : FaultCode) (step : Byte) :
    FaultsWith s ((s.setChan c x).faultChannel c code step) c x code step := by
  unfold State.faultChannel
  rw [State.endChannel_setChan, State.setChan_get]
  exact s.endChannel_endsAs c _

theorem State.perform_performs (a : Action) : Performs s ((s.setChan c x).perform c a) c x a := by
  have range := a.inRange_iff
  have outside_iff : (a.isRail && !(x.mask.getLsbD a.target.toNat)) = true ↔
      (a.operation.toNat = 1 ∨ a.operation.toNat = 2) ∧ x.mask.getLsbD a.target.toNat = false := by
    simp [Action.isRail]
  have locked_iff : (decide (a.operation.toNat = 1) && (hostMask s.mem).getLsbD a.target.toNat && s.sup.state.hostOff) = true ↔
      a.operation.toNat = 1 ∧ (hostMask s.mem).getLsbD a.target.toNat = true ∧
        (s.sup.state = .off ∨ s.sup.state = .warming ∨ s.sup.state = .held) := by
    simp [SupState.hostOff_iff, and_assoc]
  have fault : (s.setChan c x).actionFault c a =
      if !a.inRange then some .badStep
      else if a.isRail && !(x.mask.getLsbD a.target.toNat) then some .outOfMask
      else if decide (a.operation.toNat = 1) && (hostMask s.mem).getLsbD a.target.toNat && s.sup.state.hostOff then
        some .railLocked
      else none := by
    unfold State.actionFault
    rw [State.setChan_get]
    rfl
  unfold State.perform
  rw [fault]
  refine ⟨fun unknown => ?_, fun known outside => ?_, fun known inside locked => ?_, fun known inside free => ?_⟩
  · rw [if_pos (by simpa using mt range.1 unknown)]
    exact s.faultChannel_faultsWith c x .badStep a.index
  · rw [if_neg (by simpa using range.2 known), if_pos (outside_iff.2 outside)]
    exact s.faultChannel_faultsWith c x .outOfMask a.index
  · rw [if_neg (by simpa using range.2 known), if_neg (mt outside_iff.1 inside), if_pos (locked_iff.2 locked)]
    exact s.faultChannel_faultsWith c x .railLocked a.index
  · rw [if_neg (by simpa using range.2 known), if_neg (mt outside_iff.1 inside), if_neg (mt locked_iff.1 free)]
    obtain ⟨on, off, others, lines, transit, evaluated, link, frame⟩ := (s.setChan c x).actionEffect_effect c a known
    dsimp only
    generalize (s.setChan c x).actionEffect c a = u at *
    have channels : u.channels = put s.channels c x := by rw [frame]; rfl
    have clock : u.clock = s.clock := by rw [frame]; rfl
    have record : u.channels[c] = x := by rw [channels, put_same]
    refine ⟨?_, fun d other => ?_, on, off, others, lines, ?_, evaluated, link, ?_⟩
    · rw [record, State.setChan_get]
      unfold State.inMs
      rw [clock]
    · rw [State.setChan_other _ other.symm, channels, put_other _ other.symm]
    · rw [State.setChan_get] at transit
      exact transit
    · rw [frame]
      rfl

theorem State.reachStep_reaches (i : Byte) : Reaches s ((s.setChan c x).reachStep c i) c x i := by
  have entry : (s.setChan c x).mem = s.mem := rfl
  unfold State.reachStep
  dsimp only
  rw [State.setChan_get, entry]
  refine ⟨fun kind => ?_, fun kind => ?_, fun kind => ?_, fun no1 no2 no3 => ?_⟩
  · rw [stepAt_action kind]
    dsimp only
    rw [State.setChan_setChan]
    exact s.perform_performs c _ _
  · rw [stepAt_delay kind]
    dsimp only
    rw [State.setChan_setChan]
    rfl
  · rw [stepAt_wait kind]
    dsimp only
    refine ⟨fun outside => ?_, fun r here => ?_⟩
    · rw [dif_neg (by omega), State.setChan_setChan]
      exact s.faultChannel_faultsWith c _ .badStep i
    · have bound : s.mem.byte (0x1400 + 8 * i.toNat + 2) < 6 := here ▸ r.isLt
      obtain rfl : (⟨_, bound⟩ : Fin 6) = r := Fin.ext here.symm
      rw [dif_pos bound, State.setChan_setChan]
      refine ⟨fun good => ?_, fun bad => ?_⟩
      · rw [if_pos (by exact good)]
        rfl
      · rw [if_neg (by exact bad)]
        rfl
  · rw [stepAt_invalid no1 no2 no3]
    dsimp only
    split
    · rw [State.setChan_setChan]
      exact s.faultChannel_faultsWith c _ .badStep i
    · exact s.faultChannel_faultsWith c x .badStep i

theorem State.startRun_beginsRun : BeginsRun s ((s.setChan c x).startRun c) c x := by
  unfold State.startRun
  dsimp only
  rw [State.setChan_get]
  refine ⟨fun none_ => ?_, fun first => ?_⟩
  · rw [if_pos (by exact none_)]
    exact s.faultChannel_faultsWith c x .badStep 0
  · rw [if_neg (by exact first)]
    exact s.reachStep_reaches c x _

/-- A mask shares a rail with another busy channel's (R62, R64). -/
theorem State.maskTaken_iff (mask : BitVec 6) : (s.setChan c x).maskTaken (some c) mask = true ↔
    ∃ d : Fin 4, d ≠ c ∧ s.channels[d].busy = true ∧ s.channels[d].mask &&& mask ≠ 0#6 := by
  unfold State.maskTaken
  rw [List.any_eq_true]
  constructor
  · rintro ⟨d, -, shares⟩
    by_cases here : c = d
    · simp [here] at shares
    · rw [State.setChan_other _ here] at shares
      exact ⟨d, Ne.symm here, by simpa [sharesRail, Ne.symm here] using shares⟩
  · rintro ⟨d, other, shares⟩
    refine ⟨d, mem_indices d, ?_⟩
    rw [State.setChan_other _ other.symm]
    simpa [sharesRail, other] using shares

/-- The last run's end (R64): FINISHED, or the then-sequence unless its mask is taken. -/
theorem State.endRun_last (last : x.runs = .none ∨ x.runs = .left 0 ∨ x.runs = .left 1) :
    (s.setChan c x).endRun c = match headThen s.mem x.sequence with
      | none => s.endChannel c { x with state := .finished }
      | some h =>
        if (s.setChan c x).maskTaken (some c) (headMask s.mem h) then
          (s.setChan c { x with sequence := h }).faultChannel c .conflict 0
        else (s.setChan c { x with sequence := h, mask := headMask s.mem h, runs := headRuns s.mem h }).startRun c := by
  have entry : (s.setChan c x).mem = s.mem := rfl
  unfold State.endRun
  dsimp only
  rw [State.setChan_get, entry]
  rcases last with runs | runs | runs <;> rw [runs] <;> dsimp only <;> cases headThen s.mem x.sequence <;>
    simp only [State.endChannel_setChan, State.setChan_setChan]

theorem State.endRun_untilStopped (runs : x.runs = .untilStopped) :
    (s.setChan c x).endRun c = (s.setChan c x).startRun c := by
  unfold State.endRun
  dsimp only
  rw [State.setChan_get, runs]

theorem State.endRun_left {n : Nat} (runs : x.runs = .left (n + 2)) :
    (s.setChan c x).endRun c = (s.setChan c { x with runs := .left (n + 1) }).startRun c := by
  unfold State.endRun
  dsimp only
  rw [State.setChan_get, runs]
  dsimp only
  rw [State.setChan_setChan]

theorem State.proceed_proceeds (i : Byte) : Proceeds s ((s.setChan c x).proceed c i) c x i := by
  unfold State.proceed
  refine ⟨fun index => ?_, fun ends => ?_⟩
  · rw [if_neg index]
    exact s.reachStep_reaches c x i
  · rw [if_pos ends]
    refine ⟨fun runs => ?_, fun n runs => ?_, fun last none_ => ?_, fun last h next => ?_⟩
    · rw [s.endRun_untilStopped c x runs]
      exact s.startRun_beginsRun c x
    · rw [s.endRun_left c x runs]
      exact s.startRun_beginsRun c _
    · have then_ : headThen s.mem x.sequence = none := dif_neg (by unfold headBase; omega)
      rw [s.endRun_last c x last, then_]
      exact s.endChannel_endsAs c _
    · have then_ : headThen s.mem x.sequence = some h := by
        have bound : s.mem.byte (headBase x.sequence + 3) < 16 := lt_of_eq_of_lt next.symm h.isLt
        exact (dif_pos bound).trans (congrArg some (Fin.ext next.symm))
      rw [s.endRun_last c x last, then_]
      dsimp only
      refine ⟨fun shared => ?_, fun unshared => ?_⟩
      · rw [if_pos ((s.maskTaken_iff c x _).2 shared)]
        exact s.faultChannel_faultsWith c _ .conflict 0
      · rw [if_neg (mt (s.maskTaken_iff c x _).1 unshared)]
        exact s.startRun_beginsRun c _

end

/-! ### The same on the record a channel holds -/

section
variable (s : State) (c : Fin 4)

theorem State.perform_here (a : Action) : Performs s (s.perform c a) c s.channels[c] a := by
  have := s.perform_performs c s.channels[c] a
  rwa [State.setChan_self] at this

theorem State.proceed_here (i : Byte) : Proceeds s (s.proceed c i) c s.channels[c] i := by
  have := s.proceed_proceeds c s.channels[c] i
  rwa [State.setChan_self] at this

theorem State.fault_here (code : FaultCode) (step : Byte) :
    FaultsWith s (s.faultChannel c code step) c s.channels[c] code step := by
  have := s.faultChannel_faultsWith c s.channels[c] code step
  rwa [State.setChan_self] at this

end

/-! ### The timers of steps (R57 to R59) -/

section
variable {c : Fin 4} {next : Byte} {due : Nat} {a : Action}

theorem exec_delayEnd_delay (h : s.channels[c].activity = .delay next due) :
    exec (.delayEnd c) s = .next ((s.reachTime due).proceed c next) := by
  show execDelayEnd c s = _
  unfold execDelayEnd
  rw [h]

theorem exec_delayEnd_bound (h : s.channels[c].activity = .boundDelay a next due) :
    exec (.delayEnd c) s =
      .next (if 0 < s.channels[c].repeatLeft then (s.reachTime due).perform c a else (s.reachTime due).proceed c next) := by
  show execDelayEnd c s = _
  unfold execDelayEnd
  rw [h]
  exact (apply_ite Outcome.next ..).symm

theorem exec_waitMatchedComplete (h : s.channels[c].activity = .matchedWait next due) :
    exec (.waitMatchedComplete c) s = .next ((s.reachTime due).proceed c next) := by
  show execWaitMatchedComplete c s = _
  unfold execWaitMatchedComplete
  rw [h]

theorem exec_waitTimeout {r : Fin 6} {good : Bool} (h : s.channels[c].activity = .wait r good next due) :
    exec (.waitTimeout c) s = .next ((s.reachTime due).faultChannel c .waitTimeout s.channels[c].step) := by
  show execWaitTimeout c s = _
  unfold execWaitTimeout
  rw [h]
  rfl

/-- A DELAY at an action's next index is what the end of its performance binds (R57). -/
theorem isDelay_iff (m : Memory) (i : Byte) :
    (i ≠ 0#8 ∧ i.toNat < 128 ∧ m.byte (0x1400 + 8 * i.toNat) = 2) ↔ i ≠ 0#8 ∧ stepKind m i = 2 := by
  unfold stepKind
  split
  · simp; omega
  · refine and_congr_right fun _ => and_iff_right ?_
    omega

theorem exec_actionPerformanceEnd_bind (h : s.channels[c].activity = .performing a due) (index : a.next ≠ 0#8)
    (delay : stepKind s.mem a.next = 2) : exec (.actionPerformanceEnd c) s =
      .next ((s.reachTime due).setChan c { s.channels[c] with
        step := a.next
        activity := .boundDelay a (s.mem.read (0x1400 + 8 * a.next.toNat + 1))
          (max s.clock due + max 1 (s.mem.nat16 (0x1400 + 8 * a.next.toNat + 2)) * 1000) }) := by
  show execActionPerformanceEnd c s = _
  unfold execActionPerformanceEnd
  have entry : (s.reachTime due).mem = s.mem := rfl
  rw [h]
  dsimp only
  rw [if_neg index, entry, stepAt_delay delay]
  rfl

theorem exec_actionPerformanceEnd_other (h : s.channels[c].activity = .performing a due)
    (other : ¬ (a.next ≠ 0#8 ∧ stepKind s.mem a.next = 2)) : exec (.actionPerformanceEnd c) s =
      .next (if 0 < s.channels[c].repeatLeft then (s.reachTime due).perform c a
        else (s.reachTime due).proceed c a.next) := by
  show execActionPerformanceEnd c s = _
  unfold execActionPerformanceEnd
  have entry : (s.reachTime due).mem = s.mem := rfl
  rw [h]
  dsimp only
  rw [entry]
  split
  · next delay =>
    exfalso
    split at delay
    · cases delay
    · next index =>
      rw [stepAt_eq] at delay
      split at delay
      · cases delay
      · split at delay
        · next kind => exact other ⟨index, kind⟩
        · split at delay <;> cases delay
  · exact (apply_ite Outcome.next ..).symm

end

end Sys2Proof.Machine

namespace Sys2Proof.Settled

open Sys2Proof Sys2Proof.Machine Host

/-- Settles O21: each timer's end proceeds, performs or faults from the state its moment has come in. -/
theorem stepTimersEnd : Obligations.StepTimersEnd := by
  refine ⟨fun ch s next due => ⟨fun delay => ?_, fun a bound => ?_⟩, fun ch s next due =>
    ⟨fun matched => ?_, fun r good wait => ?_⟩⟩
  · exact ⟨_, exec_delayEnd_delay delay, (s.reachTime due).proceed_here ch next⟩
  · refine ⟨_, exec_delayEnd_bound bound, fun left => ?_, fun none_ => ?_⟩
    · rw [if_pos left]
      exact (s.reachTime due).perform_here ch a
    · rw [if_neg (by omega)]
      exact (s.reachTime due).proceed_here ch next
  · exact ⟨_, exec_waitMatchedComplete matched, (s.reachTime due).proceed_here ch next⟩
  · exact ⟨_, exec_waitTimeout wait, (s.reachTime due).fault_here ch .waitTimeout _⟩

/-- Settles O22: the next index names a DELAY, or the repeat left decides. -/
theorem performanceEnds : Obligations.PerformanceEnds := by
  intro ch s a due performing
  by_cases delay : a.next ≠ 0#8 ∧ stepKind s.mem a.next = 2
  · have isDelay := (isDelay_iff s.mem a.next).2 delay
    refine ⟨_, exec_actionPerformanceEnd_bind performing delay.1 delay.2, fun _ => rfl, ?_, ?_⟩
    · exact fun other => absurd isDelay other
    · exact fun other => absurd isDelay other
  · have notDelay := mt (isDelay_iff s.mem a.next).1 delay
    refine ⟨_, exec_actionPerformanceEnd_other performing delay, fun is => absurd is notDelay, fun _ left => ?_,
      fun _ none_ => ?_⟩
    · rw [if_pos left]
      exact (s.reachTime due).perform_here ch a
    · rw [if_neg (by omega)]
      exact (s.reachTime due).proceed_here ch a.next

end Sys2Proof.Settled
end

section
/-! SUPPORT. Starts, aborts and the forced cut of the rail sequencer (R54, R62, R63, R67). -/

namespace Sys2Proof.Machine

open Sys2Proof Host

variable {s t : State}

/-! ### Starts on channels 1 to 3 (R62) -/

/-- A channel other than 0 that is not busy. -/
def State.Free (s : State) (c : Fin 4) : Prop := c ≠ 0 ∧ s.channels[c].busy = false

theorem mem_deskChannels {c : Fin 4} : c ∈ deskChannels ↔ c ≠ 0 := by
  revert c
  decide

theorem State.freeChannel_eq_none_iff : s.freeChannel = none ↔ ∀ c, ¬ s.Free c := by
  unfold State.freeChannel State.Free
  rw [List.find?_eq_none]
  refine forall_congr' fun c => ?_
  rw [mem_deskChannels]
  simp

theorem State.freeChannel_eq_some {c : Fin 4} (found : s.freeChannel = some c) : s.Free c ∧ ∀ d, s.Free d → c ≤ d := by
  have ascending : deskChannels.Pairwise (· < ·) := by decide
  obtain ⟨free, before, after, split, busy⟩ := List.find?_eq_some_iff_append.1 found
  refine ⟨⟨mem_deskChannels.1 (split ▸ by simp), by simpa using free⟩, fun d other => ?_⟩
  have place : d ∈ before ++ c :: after := split ▸ mem_deskChannels.2 other.1
  rw [split, List.pairwise_append, List.pairwise_cons] at ascending
  rcases List.mem_append.1 place with early | late
  · exact absurd other.2 (by simpa using busy d early)
  · rcases List.mem_cons.1 late with rfl | later
    · exact le_refl _
    · exact (ascending.2.1.1 d later).le

theorem State.maskTaken_none_iff (s : State) (mask : BitVec 6) : s.maskTaken none mask = true ↔
    ∃ d : Fin 4, s.channels[d].busy = true ∧ s.channels[d].mask &&& mask ≠ 0#6 := by
  unfold State.maskTaken
  simp [sharesRail]

/-- A channel's record as a start sets it up (R62). -/
def startRecord (m : Memory) (h : Fin 16) (starter : Starter) (startId : Nat) : Channel :=
  { state := .running, sequence := h, mask := headMask m h, runs := headRuns m h, starter := some starter
    startId := startId }

theorem State.setUp_begins (s : State) (c : Fin 4) (h : Fin 16) (starter : Starter) (startId : Nat) :
    BeginsRun { s with transit := s.transit ++ [.counterIncrement .channelsStarted] } (s.setUp c h starter startId) c
      (startRecord s.mem h starter startId) :=
  State.startRun_beginsRun { s with transit := s.transit ++ [.counterIncrement .channelsStarted] } c _

/-- A start's refusal, if it is refused. -/
def startRefusal : Except AnswerCode (Fin 4) → Option AnswerCode
  | .ok _ => none
  | .error code => some code

/-- The channel a start has taken, if it has. -/
def startChannel : Except AnswerCode (Fin 4) → Option (Fin 4)
  | .ok c => some c
  | .error _ => none

theorem State.startSequence_requested (s : State) (h : Fin 16) (starter : Starter) :
    SequenceRequested s (s.startSequence h starter).1 h starter (startRefusal (s.startSequence h starter).2)
      (startChannel (s.startSequence h starter).2) := by
  have shares := s.maskTaken_none_iff (headMask s.mem h)
  unfold State.startSequence
  cases found : s.freeChannel with
  | none =>
    have busy := State.freeChannel_eq_none_iff.1 found
    exact ⟨fun _ => ⟨rfl, rfl, rfl⟩, fun ⟨c, free⟩ => absurd free (busy c), fun c free => absurd free (busy c)⟩
  | some c =>
    obtain ⟨free, lowest⟩ := State.freeChannel_eq_some found
    by_cases taken : s.maskTaken none (headMask s.mem h) = true
    · dsimp only
      rw [if_pos taken]
      exact ⟨fun none_ => absurd free (none_ c), fun _ _ => ⟨rfl, rfl, rfl⟩, fun _ _ _ apart => absurd (shares.1 taken) apart⟩
    · dsimp only
      rw [if_neg taken]
      refine ⟨fun none_ => absurd free (none_ c), fun _ shared => absurd (shares.2 shared) taken, fun d free' lowest' _ => ?_⟩
      obtain rfl : c = d := le_antisymm (lowest d free') (lowest' c free)
      exact ⟨rfl, rfl, s.setUp_begins c h starter 0⟩

/-! ### Aborts (R54, R63) -/

@[simp] theorem Channel.abortedRecord_busy (x : Channel) : x.abortedRecord.busy = false := rfl

section
variable {u v : State} {P Q : Fin 4 → Prop}

theorem ChannelsAborted.refl (s : State) (none_ : ∀ c, ¬ (s.channels[c].busy = true ∧ P c)) : ChannelsAborted s s P :=
  ⟨[], List.nodup_nil, fun c => iff_of_false List.not_mem_nil (none_ c), fun _ h => absurd h List.not_mem_nil,
    fun _ _ => rfl, by simp, rfl⟩

theorem ChannelsAborted.congr (h : ChannelsAborted s u P) (same : ∀ c, P c ↔ Q c) : ChannelsAborted s u Q := by
  rwa [show P = Q from funext fun c => propext (same c)] at h

theorem ChannelsAborted.mask_eq (h : ChannelsAborted s u P) (c : Fin 4) : u.channels[c].mask = s.channels[c].mask := by
  obtain ⟨order, -, -, aborted, others, -⟩ := h
  by_cases listed : c ∈ order
  · rw [aborted c listed]; rfl
  · rw [others c listed]

theorem ChannelsAborted.trans (h : ChannelsAborted s u P) (h' : ChannelsAborted u v Q) :
    ChannelsAborted s v fun c => P c ∨ Q c := by
  obtain ⟨order, nodup, mem, aborted, others, sent, frame⟩ := h
  obtain ⟨order', nodup', mem', aborted', others', sent', frame'⟩ := h'
  have apart : ∀ {c}, c ∈ order → c ∉ order' := fun first second => by
    have := ((mem' _).1 second).1
    rw [aborted _ first] at this
    exact absurd this (by simp)
  have later : ∀ {c}, c ∈ order' → u.channels[c] = s.channels[c] := fun second => others _ fun first => apart first second
  have clock : u.uptime = s.uptime := by rw [frame]; rfl
  refine ⟨order ++ order', List.nodup_append.2 ⟨nodup, nodup', fun a ha b hb => ?_⟩, fun c => ?_, fun c hc => ?_,
    fun c hc => ?_, ?_, ?_⟩
  · rintro rfl
    exact apart ha hb
  · rw [List.mem_append]
    refine ⟨?_, ?_⟩
    · rintro (first | second)
      · exact ⟨((mem c).1 first).1, .inl ((mem c).1 first).2⟩
      · obtain ⟨busy, named⟩ := (mem' c).1 second
        rw [later second] at busy
        exact ⟨busy, .inr named⟩
    · rintro ⟨busy, named⟩
      by_cases first : c ∈ order
      · exact .inl first
      · rcases named with named | named
        · exact .inl ((mem c).2 ⟨busy, named⟩)
        · exact .inr ((mem' c).2 ⟨by rwa [others c first], named⟩)
  · rcases List.mem_append.1 hc with first | second
    · rw [others' c (apart first), aborted c first]
    · rw [aborted' c second, later second]
  · rw [List.mem_append, not_or] at hc
    rw [others' c hc.2, others c hc.1]
  · rw [sent', sent, List.flatMap_append, List.append_assoc, clock]
    congr 2
    exact List.flatMap_congr fun c second => by rw [later second]
  · rw [frame', frame]

theorem State.abortChannel_aborted (s : State) (c : Fin 4) :
    ChannelsAborted s (s.abortChannel c .supervisor) fun d => d = c := by
  unfold State.abortChannel
  by_cases busy : s.channels[c].busy = true
  · rw [if_pos busy, State.endChannel_eq]
    refine ⟨[c], List.nodup_singleton c, fun d => ?_, fun d here => ?_, fun d other => ?_, ?_, rfl⟩
    · rw [List.mem_singleton]
      exact ⟨fun here => ⟨here ▸ busy, here⟩, fun here => here.2⟩
    · rw [List.mem_singleton] at here
      subst here
      exact put_same ..
    · rw [List.mem_singleton] at other
      exact put_other _ (Ne.symm other) _
    · rw [List.flatMap_singleton]
      rfl
  · rw [if_neg busy]
    refine .refl s ?_
    rintro d ⟨also, rfl⟩
    exact busy also

theorem State.abortListed_aborted (mask : BitVec 6) (l : List (Fin 4)) : ∀ s : State,
    ChannelsAborted s (l.foldl (fun s c => if sharesRail s.channels[c].mask mask then s.abortChannel c .supervisor else s) s)
      fun c => c ∈ l ∧ s.channels[c].mask &&& mask ≠ 0#6 := by
  induction l with
  | nil => exact fun s => .refl s (by simp)
  | cons c l ih =>
    intro s
    rw [List.foldl_cons]
    have first : ChannelsAborted s (if sharesRail s.channels[c].mask mask then s.abortChannel c .supervisor else s)
        fun d => d = c ∧ s.channels[d].mask &&& mask ≠ 0#6 := by
      by_cases shares : s.channels[c].mask &&& mask ≠ 0#6
      · rw [if_pos (by exact decide_eq_true shares)]
        exact (s.abortChannel_aborted c).congr fun d => ⟨fun here => ⟨here, here ▸ shares⟩, fun here => here.1⟩
      · rw [if_neg (by exact mt of_decide_eq_true shares)]
        refine .refl s ?_
        rintro d ⟨-, rfl, also⟩
        exact shares also
    refine (first.trans (ih _)).congr fun d => ?_
    rw [first.mask_eq, List.mem_cons]
    tauto

theorem State.abortSharing_aborted (s : State) (mask : BitVec 6) :
    ChannelsAborted s (s.abortSharing mask) fun c => c ≠ 0 ∧ s.channels[c].mask &&& mask ≠ 0#6 :=
  (State.abortListed_aborted mask deskChannels s).congr fun c => by rw [mem_deskChannels]

/-- Channel 0 and the busy channels in the way of a mask aborted (R54, R63). -/
theorem State.abortWay_aborted (s : State) (mask : BitVec 6) :
    ChannelsAborted s ((s.abortChannel 0 .supervisor).abortSharing mask)
      fun c => c = 0 ∨ s.channels[c].mask &&& mask ≠ 0#6 := by
  have first := s.abortChannel_aborted 0
  refine (first.trans (State.abortSharing_aborted _ mask)).congr fun c => ?_
  rw [first.mask_eq]
  tauto

end

/-! ### What the sequencer reads beside its own parts -/

/-- The sequencer's parts of s, the link port and the events sent put into b. -/
def State.onto (b s : State) : State :=
  { b with channels := s.channels, rails := s.rails, lines := s.lines, link := s.link, transit := s.transit }

/-- What the sequencer reads of other units is alike in b and s. -/
def State.Alike (b s : State) : Prop := b.mem = s.mem ∧ b.clock = s.clock ∧ b.sup.state = s.sup.state

/-- An operation of the sequencer reads no more than that of the other units, and writes nothing in them. -/
def Local (f : State → State) : Prop := ∀ b s : State, b.Alike s → f (b.onto s) = b.onto (f s)

theorem State.Alike.refl (s : State) : s.Alike s := ⟨rfl, rfl, rfl⟩

section
variable {f g : State → State} {b : State}

/-- A local operation leaves the other units as they are. -/
theorem Local.frame (h : Local f) (s : State) : f s = s.onto (f s) := h s s (.refl s)

theorem Local.alike (h : Local f) (like : b.Alike s) : b.Alike (f s) := by
  rw [h.frame s]
  exact like

theorem Local.comp (hf : Local f) (hg : Local g) : Local fun s => g (f s) := fun b s like => by
  show g (f (b.onto s)) = b.onto (g (f s))
  rw [hf b s like, hg b (f s) (hf.alike like)]

theorem Local.id : Local fun s => s := fun _ _ _ => rfl

theorem Local.foldl {α : Type} {f : State → α → State} (h : ∀ x, Local fun s => f s x) (l : List α) :
    Local fun s => l.foldl f s := by
  induction l with
  | nil => exact .id
  | cons x l ih => exact (h x).comp ih

/-- A case that reads only what is alike. -/
theorem Local.ite {p : State → Prop} [DecidablePred p] (same : ∀ b s : State, b.Alike s → (p (b.onto s) ↔ p s))
    (hf : Local f) (hg : Local g) : Local fun s => if p s then f s else g s := fun b s like => by
  dsimp only
  by_cases h : p s
  · rw [if_pos h, if_pos ((same b s like).2 h), hf b s like]
  · rw [if_neg h, if_neg (mt (same b s like).1 h), hg b s like]

theorem State.Alike.uptime_onto (like : b.Alike s) : (b.onto s).uptime = s.uptime := by
  obtain ⟨-, clock, -⟩ := like
  show BitVec.ofNat 32 (b.clock / 1000) = _
  rw [clock]
  rfl

end

theorem local_send (i : Instr) : Local fun s => s.send i := fun _ _ _ => rfl

theorem local_endChannel (c : Fin 4) (y : Channel) : Local fun s => s.endChannel c y := fun b s like => by
  dsimp only
  rw [State.endChannel_eq, State.endChannel_eq, like.uptime_onto]
  rfl

theorem local_abortChannel (c : Fin 4) (by_ : EndedBy) : Local fun s => s.abortChannel c by_ := fun b s like => by
  have channels : (b.onto s).channels = s.channels := rfl
  dsimp only
  unfold State.abortChannel
  rw [channels]
  split
  · exact local_endChannel c _ b s like
  · rfl

theorem local_faultChannel (c : Fin 4) (code : FaultCode) (step : Byte) : Local fun s => s.faultChannel c code step :=
  fun b s like => local_endChannel c _ b s like

theorem local_abortSharing (mask : BitVec 6) : Local fun s => s.abortSharing mask := by
  refine Local.foldl (fun c => ?_) _
  exact .ite (fun _ _ _ => Iff.rfl) (local_abortChannel c _) .id

theorem local_setRail (r : Fin 6) (x : Rail) : Local fun s => s.setRail r x := fun b s like => by
  have entry : linkRail b.mem = linkRail s.mem := congrArg linkRail like.1
  unfold State.setRail State.onto
  dsimp only
  rw [entry]

theorem local_railOn (r : Fin 6) : Local fun s => s.railOn r := fun b s like => by
  dsimp only
  rw [State.railOn_eq, State.railOn_eq]
  split
  · next on => rw [if_pos (by exact on)]
  · next off => rw [if_neg (by exact off)]; exact local_setRail r _ b s like

theorem local_railOff (r : Fin 6) (flush : Bool) : Local fun s => s.railOff r flush := fun b s like => by
  have entry : (b.onto s).mem = s.mem := like.1
  dsimp only
  rw [State.railOff_eq, State.railOff_eq, entry]
  split
  · next on =>
    rw [if_pos (by exact on)]
    have := local_setRail r { s.rails[r] with commanded := false, watched := false } b s like
    exact congrArg (fun u : State => u.sendAll (offEvents s.mem r flush)) this
  · next off => rw [if_neg (by exact off)]

theorem local_report (kind : ReportKind) (subkind : Nat) (urgent : Bool) (source : Nat) (p : Payload) :
    Local fun s => s.report kind subkind urgent source p := fun b s like => by
  dsimp only
  unfold State.report
  rw [like.uptime_onto]
  rfl

theorem local_actionEffect (c : Fin 4) (a : Action) : Local fun s => s.actionEffect c a := fun b s like => by
  dsimp only
  unfold State.actionEffect
  split
  · exact local_railOn _ b s like
  · exact local_railOff _ _ b s like
  · rfl
  · rfl
  · rfl
  · exact local_report .mark 0 false c.val _ b s like
  · rfl
  · rfl

theorem local_setChan (c : Fin 4) (x : Channel) : Local fun s => s.setChan c x := fun _ _ _ => rfl

theorem State.Alike.actionFault_onto {b : State} (like : b.Alike s) (c : Fin 4) (a : Action) :
    (b.onto s).actionFault c a = s.actionFault c a := by
  obtain ⟨mem, -, state⟩ := like
  have entry : (b.onto s).mem = s.mem := mem
  have entered : (b.onto s).sup.state = s.sup.state := state
  unfold State.actionFault
  rw [entry, entered]
  rfl

theorem State.Alike.inMs_onto {b : State} (like : b.Alike s) (n : Nat) : (b.onto s).inMs n = s.inMs n := by
  obtain ⟨-, clock, -⟩ := like
  show b.clock + n * 1000 = _
  rw [clock]
  rfl

theorem local_perform (c : Fin 4) (a : Action) : Local fun s => s.perform c a := fun b s like => by
  dsimp only
  unfold State.perform
  rw [like.actionFault_onto]
  split
  · exact local_faultChannel c _ _ b s like
  · have effect := local_actionEffect c a b s like
    have after := (local_actionEffect c a).alike like
    dsimp only at effect after ⊢
    rw [effect, after.inMs_onto]
    rfl

theorem local_reachStep (c : Fin 4) (i : Byte) : Local fun s => s.reachStep c i := fun b s like => by
  have entry : (b.onto s).mem = s.mem := like.1
  dsimp only
  unfold State.reachStep
  dsimp only
  rw [entry]
  simp only [like.inMs_onto]
  split
  · exact ((local_setChan c _).comp (local_perform c _)) b s like
  · rfl
  · split
    · rfl
    · exact ((local_setChan c _).comp (local_faultChannel c _ _)) b s like
  · split
    · exact ((local_setChan c _).comp (local_faultChannel c _ _)) b s like
    · exact local_faultChannel c _ _ b s like

theorem local_startRun (c : Fin 4) : Local fun s => s.startRun c := fun b s like => by
  have entry : (b.onto s).mem = s.mem := like.1
  dsimp only
  unfold State.startRun
  dsimp only
  rw [entry]
  split
  · next none_ => rw [if_pos (by exact none_)]; exact local_faultChannel c _ _ b s like
  · next first => rw [if_neg (by exact first)]; exact local_reachStep c _ b s like

theorem local_setUp (c : Fin 4) (h : Fin 16) (starter : Starter) (id : Nat) : Local fun s => s.setUp c h starter id :=
  fun b s like => by
    have entry : (b.onto s).mem = s.mem := like.1
    dsimp only
    unfold State.setUp
    dsimp only
    rw [entry]
    exact (((local_setChan c _).comp (local_send _)).comp (local_startRun c)) b s like

theorem local_endRun (c : Fin 4) : Local fun s => s.endRun c := fun b s like => by
  have entry : (b.onto s).mem = s.mem := like.1
  dsimp only
  unfold State.endRun
  dsimp only
  have channels : (b.onto s).channels = s.channels := rfl
  have taken : (b.onto s).maskTaken = s.maskTaken := rfl
  rw [entry, channels, taken]
  split
  · exact local_startRun c b s like
  · exact ((local_setChan c _).comp (local_startRun c)) b s like
  · split
    · exact local_endChannel c _ b s like
    · split
      · exact ((local_setChan c _).comp (local_faultChannel c _ _)) b s like
      · exact ((local_setChan c _).comp (local_startRun c)) b s like

theorem local_proceed (c : Fin 4) (i : Byte) : Local fun s => s.proceed c i := by
  unfold State.proceed
  exact .ite (fun _ _ _ => Iff.rfl) (local_endRun c) (local_reachStep c i)

/-! ### The forced cut (R54) -/

theorem local_cutRails (mask : BitVec 6) : Local fun s => s.cutRails mask := by
  refine Local.foldl (fun r => ?_) _
  refine .ite (fun _ _ _ => Iff.rfl) (fun b s like => ?_) .id
  have off := local_railOff r true b s like
  dsimp only at off ⊢
  rw [off]
  rfl

theorem local_forcedCut : Local fun s => s.forcedCut := fun b s like => by
  have entry : (b.onto s).mem = s.mem := like.1
  dsimp only
  unfold State.forcedCut
  dsimp only
  rw [entry]
  have cut := (((local_abortChannel 0 .supervisor).comp (local_abortSharing (hostMask s.mem))).comp
    (local_cutRails (hostMask s.mem))) b s like
  dsimp only at cut
  rw [cut]
  rfl

/-- The port is fenced by the link rail's switching off (R138). -/
def State.Fenced (s : State) : Prop := s.link.commanded = false ∧ s.link.transfer = none

/-- One rail of a cut: commanded OFF and not watched; the link rail's switching off fences the port and tells the pool. -/
def State.cutRail (s : State) (r : Fin 6) : State :=
  let s := s.railOff r true
  { s with rails := put s.rails r { s.rails[r] with watched := false } }

/-- What a cut does of the listed rails. -/
def CutsRails (s t : State) (named : Fin 6 → Prop) : Prop :=
  (∀ r : Fin 6, named r → t.rails[r] = { s.rails[r] with commanded := false, watched := false }) ∧
  (∀ r : Fin 6, ¬ named r → t.rails[r] = s.rails[r]) ∧ (∃ sent, t.transit = s.transit ++ sent) ∧ (s.Fenced → t.Fenced) ∧
  (∀ r : Fin 6, r = linkRail s.mem → named r → s.rails[r].commanded = true → .restartFlush ∈ t.transit ∧ t.Fenced) ∧
  t = { s with rails := t.rails, transit := t.transit, link := t.link }

theorem CutsRails.refl (s : State) : CutsRails s s fun _ => False :=
  ⟨fun _ h => h.elim, fun _ _ => rfl, ⟨[], (List.append_nil _).symm⟩, id, fun _ _ h => h.elim, rfl⟩

theorem CutsRails.congr {P Q : Fin 6 → Prop} (h : CutsRails s t P) (same : ∀ r, P r ↔ Q r) : CutsRails s t Q := by
  rwa [show P = Q from funext fun r => propext (same r)] at h

theorem CutsRails.trans {u : State} {P Q : Fin 6 → Prop} (h : CutsRails s t P) (h' : CutsRails t u Q) :
    CutsRails s u fun r => P r ∨ Q r := by
  obtain ⟨cut, others, ⟨sent, transit⟩, fenced, linked, frame⟩ := h
  obtain ⟨cut', others', ⟨sent', transit'⟩, fenced', linked', frame'⟩ := h'
  have entry : t.mem = s.mem := by rw [frame]
  rw [entry] at linked'
  refine ⟨fun r named => ?_, fun r none_ => ?_, ⟨sent ++ sent', by rw [transit', transit, List.append_assoc]⟩,
    fenced' ∘ fenced, fun r link named on => ?_, ?_⟩
  · by_cases second : Q r
    · rw [cut' r second]
      by_cases first : P r
      · rw [cut r first]
      · rw [others r first]
    · rw [others' r second, cut r (named.resolve_right second)]
  · rw [not_or] at none_
    rw [others' r none_.2, others r none_.1]
  · by_cases first : P r
    · obtain ⟨flushed, closed⟩ := linked r link first on
      exact ⟨transit' ▸ List.mem_append_left _ flushed, fenced' closed⟩
    · exact linked' r link (named.resolve_left first) (by rw [others r first]; exact on)
  · rw [frame', frame]

theorem State.cutRail_eq (s : State) (r : Fin 6) : s.cutRail r =
    if s.rails[r].commanded = true then
      (s.setRail r { s.rails[r] with commanded := false, watched := false }).sendAll (offEvents s.mem r true)
    else { s with rails := put s.rails r { s.rails[r] with watched := false } } := by
  unfold State.cutRail
  rw [State.railOff_eq]
  split
  · have rails : (s.setRail r { s.rails[r] with commanded := false, watched := false }).rails =
        put s.rails r { s.rails[r] with commanded := false, watched := false } := rfl
    dsimp only [State.sendAll_rails]
    rw [rails, put_same, put_put]
    rfl
  · rfl

/-- A rail commanded OFF fences the port when it is the link rail, and leaves a fenced port fenced. -/
theorem State.setRail_fenced (s : State) (r : Fin 6) {x : Rail} (off : x.commanded = false) :
    (r = linkRail s.mem → (s.setRail r x).Fenced) ∧ (s.Fenced → (s.setRail r x).Fenced) := by
  have closed : r = linkRail s.mem → (s.setRail r x).Fenced := fun link => by
    unfold State.Fenced State.setRail
    dsimp only
    rw [if_pos link, Link.evaluate_eq, off]
    exact ⟨rfl, by simp⟩
  refine ⟨closed, fun fenced => ?_⟩
  by_cases link : r = linkRail s.mem
  · exact closed link
  · unfold State.Fenced at fenced ⊢
    rwa [s.setRail_link r x link]

theorem State.cutRail_cuts (s : State) (r : Fin 6) : CutsRails s (s.cutRail r) fun d => d = r := by
  rw [State.cutRail_eq]
  by_cases on : s.rails[r].commanded = true
  · rw [if_pos on]
    have off := s.setRail_fenced r (x := { s.rails[r] with commanded := false, watched := false }) rfl
    refine ⟨fun d here => ?_, fun d other => ?_, ⟨_, rfl⟩, off.2, fun d link here _ => ⟨?_, off.1 (here ▸ link)⟩, rfl⟩
    · subst here
      exact (s.setRail_rails ..).trans (if_pos rfl)
    · exact (s.setRail_rails ..).trans (if_neg (Ne.symm other))
    · refine List.mem_append_right _ ?_
      unfold offEvents
      rw [if_pos ⟨rfl, here ▸ link⟩]
      exact List.mem_singleton.2 rfl
  · rw [if_neg on]
    refine ⟨fun d here => ?_, fun d other => put_other _ (Ne.symm other) _, ⟨[], (List.append_nil _).symm⟩, id,
      fun d _ here also => absurd (here ▸ also) on, rfl⟩
    subst here
    rw [Bool.not_eq_true] at on
    exact (put_same ..).trans (by rw [← on])

theorem State.cutRails_cuts (s : State) (mask : BitVec 6) :
    CutsRails s (s.cutRails mask) fun r => mask.getLsbD r.val = true := by
  have listed : ∀ (l : List (Fin 6)) (s : State), CutsRails s
      (l.foldl (fun s r => if mask.getLsbD r.val then s.cutRail r else s) s)
      fun r => r ∈ l ∧ mask.getLsbD r.val = true := by
    intro l
    induction l with
    | nil => exact fun s => (CutsRails.refl s).congr fun r => by simp
    | cons r l ih =>
      intro s
      rw [List.foldl_cons]
      have first : CutsRails s (if mask.getLsbD r.val then s.cutRail r else s)
          fun d => d = r ∧ mask.getLsbD d.val = true := by
        split
        · next named => exact (s.cutRail_cuts r).congr fun d => ⟨fun here => ⟨here, here ▸ named⟩, fun here => here.1⟩
        · next none_ => exact (CutsRails.refl s).congr fun d => ⟨False.elim, fun here => none_ (here.1 ▸ here.2)⟩
      exact (first.trans (ih _)).congr fun d => by rw [List.mem_cons]; tauto
  exact (listed (indices 6) s).congr fun r => by simp

/-- The forced cut cuts the rails of the host rail mask (R54). -/
theorem State.forcedCut_cutUnder (s : State) : CutUnder s s.forcedCut (hostMask s.mem) := by
  have entry : s.forcedCut.mem = s.mem := by rw [local_forcedCut.frame s]; rfl
  have uptime : s.forcedCut.uptime = s.uptime := by rw [local_forcedCut.frame s]; rfl
  have aborted := s.abortWay_aborted (hostMask s.mem)
  have cuts := State.cutRails_cuts ((s.abortChannel 0 .supervisor).abortSharing (hostMask s.mem)) (hostMask s.mem)
  have cut : s.forcedCut = { ((s.abortChannel 0 .supervisor).abortSharing (hostMask s.mem)).cutRails (hostMask s.mem) with
      lines := { (((s.abortChannel 0 .supervisor).abortSharing (hostMask s.mem)).cutRails (hostMask s.mem)).lines with
        hrst := true, pnl := false } } := rfl
  generalize (s.abortChannel 0 .supervisor).abortSharing (hostMask s.mem) = u at aborted cuts cut
  obtain ⟨order, -, mem, record, stood, sent, frame⟩ := aborted
  obtain ⟨off, others, ⟨more, transit⟩, -, linked, frame'⟩ := cuts
  have uRails : u.rails = s.rails := by rw [frame]
  have uMem : u.mem = s.mem := by rw [frame]
  have rails : s.forcedCut.rails = (u.cutRails (hostMask s.mem)).rails := by rw [cut]
  have channels : s.forcedCut.channels = u.channels := by rw [cut, frame']
  have transit_ : s.forcedCut.transit = u.transit ++ more := by rw [cut]; exact transit
  have events : s.forcedCut.transit = (u.cutRails (hostMask s.mem)).transit := by rw [cut]
  have link : s.forcedCut.link = (u.cutRails (hostMask s.mem)).link := by rw [cut]
  simp only [uRails, uMem] at off others linked
  refine ⟨fun r named => rails ▸ off r named, fun r none_ => rails ▸ others r (by rw [none_]; exact Bool.false_ne_true), ?_, fun c busy way => ?_,
    fun c stands => ?_, fun on named => ?_⟩
  · rw [cut, frame', frame]
  · have listed := (mem c).2 ⟨busy, way⟩
    refine ⟨channels ▸ record c listed, fun e sentBy => ?_⟩
    rw [transit_, sent, uptime] at *
    exact List.mem_append_left _ (List.mem_append_right _ (List.mem_flatMap.2 ⟨c, listed, sentBy⟩))
  · rw [channels]
    refine stood c fun listed => ?_
    obtain ⟨busy, way⟩ := (mem c).1 listed
    rcases stands with idle | ⟨other, apart⟩
    · rw [busy] at idle
      exact Bool.noConfusion idle
    · exact way.elim other fun shares => shares apart
  · simp only [entry] at on named
    rw [events, link]
    obtain ⟨flushed, closed⟩ := linked _ rfl named on
    exact ⟨flushed, closed⟩

/-! ### The desk's requests and the mask's edit -/

/-- What the desk is told of a start: the channel taken, or the refusal. -/
def State.answerStart (s : State) (slot : Fin 8) : Except AnswerCode (Fin 4) → State
  | .ok c => s.answer slot .done { w0 := BitVec.ofNat 16 c.val }
  | .error code => s.answer slot code

theorem exec_startSequence {head : Word} (slot : Fin 8) (bound : head.toNat < 16) :
    let r := (s.taking (.startSequence slot head)).startSequence ⟨head.toNat, bound⟩ .desk
    exec (.startSequence slot head) s = .next (r.1.answerStart slot r.2) := by
  show execStartSequence slot head s = _
  unfold execStartSequence
  dsimp only
  rw [dif_pos bound]
  cases ((s.taking (.startSequence slot head)).startSequence ⟨head.toNat, bound⟩ .desk).2 <;> rfl

theorem exec_stopChannel {channel : Word} {c : Fin 4} (slot : Fin 8) (named : c.val = channel.toNat) (other : c ≠ 0) :
    let t := (s.taking (.stopChannel slot channel)).abortChannel c .desk
    exec (.stopChannel slot channel) s =
      .next (t.answer slot .done { w0 := BitVec.ofNat 16 (chanCode t.channels[c].state) }) := by
  have bound : channel.toNat < 4 := named ▸ c.isLt
  obtain rfl : (⟨channel.toNat, bound⟩ : Fin 4) = c := Fin.ext named.symm
  have nonzero : channel ≠ 0#16 := by
    rintro rfl
    exact other rfl
  show execStopChannel slot channel s = _
  unfold execStopChannel
  dsimp only
  rw [dif_pos bound, if_neg nonzero]

theorem exec_hostRailMaskEdit (before after : Byte) (s : State) : exec (.hostRailMaskEdit before after) s =
    .next ((s.taking (.hostRailMaskEdit before after)).hostMaskEdited before after) := rfl

/-- The mask is the low six bits of its byte. -/
theorem maskByte_ne_iff (before after : Byte) :
    before.setWidth 6 ≠ after.setWidth 6 ↔ before &&& 0x3F#8 ≠ after &&& 0x3F#8 := by
  have low : ∀ b : Byte, (b &&& 0x3F#8).toNat = (b.setWidth 6).toNat := fun b => by
    rw [BitVec.toNat_and, BitVec.toNat_setWidth]
    exact Nat.and_two_pow_sub_one_eq_mod b.toNat 6
  refine not_congr ⟨fun same => BitVec.eq_of_toNat_eq ?_, fun same => BitVec.eq_of_toNat_eq ?_⟩
  · rw [low, low, same]
  · rw [← low, ← low, same]

end Sys2Proof.Machine

namespace Sys2Proof.Settled

open Sys2Proof Sys2Proof.Machine Host

/-- Settles O24: a start is requested of the sequencer as SequenceRequested tells it, and a stop aborts its channel. -/
theorem channelRequests : Obligations.ChannelRequests := by
  refine ⟨fun slot head s bound => ?_, fun slot channel s c named other => ?_⟩
  · have requested := (s.taking (.startSequence slot head)).startSequence_requested ⟨head.toNat, bound⟩ .desk
    refine ⟨_, exec_startSequence slot bound, _, _, _, requested, ?_⟩
    cases ((s.taking (.startSequence slot head)).startSequence ⟨head.toNat, bound⟩ .desk).2 <;> rfl
  · refine ⟨_, exec_stopChannel slot named other, fun idle => ?_, fun busy => ?_⟩
    · have stands : (s.taking (.stopChannel slot channel)).abortChannel c .desk = s.taking (.stopChannel slot channel) :=
        if_neg (by rw [State.taking_channels, idle]; exact Bool.false_ne_true)
      rw [stands]
      rfl
    · have aborts : (s.taking (.stopChannel slot channel)).abortChannel c .desk =
          (s.taking (.stopChannel slot channel)).endChannel c
            { s.channels[c] with state := .aborted, endedBy := some .desk } := if_pos busy
      have ends := State.endChannel_endsAs (s.taking (.stopChannel slot channel)) c
        { s.channels[c] with state := .aborted, endedBy := some .desk }
      rw [aborts]
      refine ⟨_, ends, ?_⟩
      obtain ⟨record, -⟩ := ends
      rw [record]
      rfl

/-- Settles O25: only a changed mask in a state that keeps the host rails off orders the cut. -/
theorem hostMaskEdit : Obligations.HostMaskEdit := by
  intro before after s
  have now : (s.taking (.hostRailMaskEdit before after)).sup.state.hostOff = true ↔ _ := SupState.hostOff_iff s.sup.state
  refine ⟨_, exec_hostRailMaskEdit before after s, fun stands => ?_, fun locked changed => ?_⟩
  · refine if_neg fun edited => stands ⟨now.1 edited.2, (maskByte_ne_iff _ _).1 edited.1⟩
  · have edited : (s.taking (.hostRailMaskEdit before after)).hostMaskEdited before after =
        (s.taking (.hostRailMaskEdit before after)).forcedCut :=
      if_pos ⟨(maskByte_ne_iff _ _).2 changed, now.2 locked⟩
    have cut := State.forcedCut_cutUnder (s.taking (.hostRailMaskEdit before after))
    rw [edited]
    refine ⟨cut, ?_⟩
    rw [local_forcedCut.frame]
    rfl

end Sys2Proof.Settled
end

section
/-! SUPPORT. What an order to the supervisor moves, and the supervisor starts of heads (R63, R69, R83, R87). -/

namespace Sys2Proof.Machine

open Sys2Proof Host

variable {s t u : State}

/-! ### The sequencer sends events and takes none -/

/-- Everything in transit stays in its place, and events may follow it. -/
def Appends (f : State → State) : Prop := ∀ s : State, s.transit <+: (f s).transit

section
variable {f g : State → State}

theorem Appends.comp (hf : Appends f) (hg : Appends g) : Appends fun s => g (f s) := fun s => (hf s).trans (hg (f s))

theorem Appends.id : Appends fun s => s := fun _ => List.prefix_rfl

theorem Appends.foldl {α : Type} {f : State → α → State} (h : ∀ x, Appends fun s => f s x) (l : List α) :
    Appends fun s => l.foldl f s := by
  induction l with
  | nil => exact .id
  | cons x l ih => exact (h x).comp ih

theorem Appends.ite {p : State → Prop} [DecidablePred p] (hf : Appends f) (hg : Appends g) :
    Appends fun s => if p s then f s else g s := fun s => by
  dsimp only
  split
  · exact hf s
  · exact hg s

end

theorem appends_send (i : Instr) : Appends fun s => s.send i := fun _ => List.prefix_append ..

theorem appends_setChan (c : Fin 4) (x : Channel) : Appends fun s => s.setChan c x := fun _ => List.prefix_rfl

theorem appends_endChannel (c : Fin 4) (y : Channel) : Appends fun s => s.endChannel c y := fun s => by
  dsimp only
  rw [State.endChannel_eq]
  exact List.prefix_append ..

theorem appends_faultChannel (c : Fin 4) (code : FaultCode) (step : Byte) : Appends fun s => s.faultChannel c code step :=
  fun s => appends_endChannel c _ s

theorem appends_abortChannel (c : Fin 4) (by_ : EndedBy) : Appends fun s => s.abortChannel c by_ :=
  .ite (fun s => appends_endChannel c _ s) .id

theorem appends_abortSharing (mask : BitVec 6) : Appends fun s => s.abortSharing mask :=
  .foldl (fun c => .ite (appends_abortChannel c _) .id) _

theorem appends_railOff (r : Fin 6) (flush : Bool) : Appends fun s => s.railOff r flush := fun s => by
  dsimp only
  rw [State.railOff_eq]
  split
  · exact List.prefix_append ..
  · exact List.prefix_rfl

theorem appends_actionEffect (c : Fin 4) (a : Action) : Appends fun s => s.actionEffect c a := fun s => by
  dsimp only
  unfold State.actionEffect
  split
  · rw [State.railOn_eq]
    split <;> exact List.prefix_rfl
  · exact appends_railOff _ _ s
  · exact List.prefix_rfl
  · exact List.prefix_rfl
  · exact List.prefix_rfl
  · exact List.prefix_append ..
  · exact List.prefix_append ..
  · exact List.prefix_rfl

theorem appends_perform (c : Fin 4) (a : Action) : Appends fun s => s.perform c a := fun s => by
  dsimp only
  unfold State.perform
  split
  · exact appends_faultChannel c _ _ s
  · exact appends_actionEffect c a s

theorem appends_reachStep (c : Fin 4) (i : Byte) : Appends fun s => s.reachStep c i := fun s => by
  dsimp only
  unfold State.reachStep
  dsimp only
  split
  · exact ((appends_setChan c _).comp (appends_perform c _)) s
  · exact List.prefix_rfl
  · split
    · exact List.prefix_rfl
    · exact ((appends_setChan c _).comp (appends_faultChannel c _ _)) s
  · split
    · exact ((appends_setChan c _).comp (appends_faultChannel c _ _)) s
    · exact appends_faultChannel c _ _ s

theorem appends_startRun (c : Fin 4) : Appends fun s => s.startRun c :=
  .ite (appends_faultChannel c _ _) fun s => appends_reachStep c _ s

theorem appends_setUp (c : Fin 4) (h : Fin 16) (starter : Starter) (id : Nat) : Appends fun s => s.setUp c h starter id :=
  fun s => (((appends_setChan c _).comp (appends_send _)).comp (appends_startRun c)) s

theorem appends_endRun (c : Fin 4) : Appends fun s => s.endRun c := fun s => by
  dsimp only
  unfold State.endRun
  dsimp only
  split
  · exact appends_startRun c s
  · exact ((appends_setChan c _).comp (appends_startRun c)) s
  · split
    · exact appends_endChannel c _ s
    · split
      · exact ((appends_setChan c _).comp (appends_faultChannel c _ _)) s
      · exact ((appends_setChan c _).comp (appends_startRun c)) s

theorem appends_proceed (c : Fin 4) (i : Byte) : Appends fun s => s.proceed c i :=
  .ite (appends_endRun c) (appends_reachStep c i)

theorem appends_cutRails (mask : BitVec 6) : Appends fun s => s.cutRails mask :=
  Appends.foldl (f := fun (s : State) (r : Fin 6) => if mask.getLsbD r.val then s.cutRail r else s)
    (fun r => .ite (fun s => appends_railOff r true s) .id) (indices 6)

theorem appends_forcedCut : Appends fun s => s.forcedCut := fun s =>
  (((appends_abortChannel 0 .supervisor).comp (appends_abortSharing (hostMask s.mem))).comp
    (appends_cutRails (hostMask s.mem))) s

/-! ### What an order moves -/

theorem HostFrame.refl (s : State) : HostFrame s s := ⟨⟨[], (List.append_nil _).symm⟩, rfl⟩

theorem HostFrame.trans (h : HostFrame s t) (h' : HostFrame t u) : HostFrame s u := by
  obtain ⟨⟨sent, transit⟩, frame⟩ := h
  obtain ⟨⟨sent', transit'⟩, frame'⟩ := h'
  refine ⟨⟨sent ++ sent', by rw [transit', transit, List.append_assoc]⟩, ?_⟩
  rw [frame', frame]

theorem HostFrame.of_onto (transit : s.transit <+: t.transit) (frame : t = s.onto t) : HostFrame s t := by
  obtain ⟨sent, transit⟩ := transit
  refine ⟨⟨sent, transit.symm⟩, ?_⟩
  rw [frame]
  rfl

theorem HostFrame.of_local {f : State → State} (h : Local f) (sends : Appends f) (s : State) : HostFrame s (f s) :=
  .of_onto (sends s) (h.frame s)

/-- The parts an order moves in the units it publishes to, whole. -/
theorem HostFrame.whole (h : HostFrame s t) : t = { s with
    transit := t.transit, channels := t.channels, rails := t.rails, lines := t.lines, link := t.link, sup := t.sup
    keypad := { s.keypad with published := t.keypad.published }, chords := t.chords, shown := t.shown } := by
  obtain ⟨-, frame⟩ := h
  rw [frame]

theorem HostFrame.mem_eq (h : HostFrame s t) : t.mem = s.mem := by
  rw [h.whole]

theorem HostFrame.clock_eq (h : HostFrame s t) : t.clock = s.clock := by
  rw [h.whole]

theorem HostFrame.uptime_eq (h : HostFrame s t) : t.uptime = s.uptime := by
  rw [h.whole]
  rfl

theorem HostFrame.sensors_eq (h : HostFrame s t) : t.sensors = s.sensors := by
  rw [h.whole]

theorem HostFrame.mem_transit (h : HostFrame s t) {e : Instr} (sent : e ∈ s.transit) : e ∈ t.transit := by
  obtain ⟨⟨more, transit⟩, -⟩ := h
  rw [transit]
  exact List.mem_append_left _ sent

theorem State.send_hostFrame (s : State) (i : Instr) : HostFrame s (s.send i) := ⟨⟨[i], rfl⟩, rfl⟩

theorem State.setSup_hostFrame (s : State) (u : Sup) : HostFrame s (s.setSup u) := ⟨⟨[], (List.append_nil _).symm⟩, rfl⟩

theorem State.enter_hostFrame (s : State) (st : SupState) (sub : SupSub) : HostFrame s (s.enter st sub) := by
  refine ⟨⟨[], (List.append_nil _).symm⟩, ?_⟩
  have chords : (s.enter st sub).chords = { s.chords with
      published := (s.enter st sub).chords.published, publishedSub := (s.enter st sub).chords.publishedSub
      progress := (s.enter st sub).chords.progress, rearmAwaited := (s.enter st sub).chords.rearmAwaited
      forcedOffTimer := (s.enter st sub).chords.forcedOffTimer, openExpiry := (s.enter st sub).chords.openExpiry } := by
    rw [State.enter_chords, ChordUnit.takePublication_eq]
  have whole : s.enter st sub = { s with
      sup := (s.enter st sub).sup, keypad := { s.keypad with published := st }, chords := (s.enter st sub).chords
      shown := { s.shown with chords := (s.enter st sub).shown.chords } } := rfl
  conv_lhs => rw [whole, chords]
  rfl

theorem State.abortChannel_hostFrame (s : State) (c : Fin 4) (by_ : EndedBy) : HostFrame s (s.abortChannel c by_) :=
  .of_local (local_abortChannel c by_) (appends_abortChannel c by_) s

/-! ### Supervisor starts (R63) -/

/-- What a supervisor start puts out of the way of its head: channel 0 and the channels that share a rail with the head's
mask, or, for the off-sequence and a REWARM rung, with the host rail mask. -/
def State.clearWay (s : State) (h : Fin 16) (off : Bool) : State :=
  let s := s.abortChannel 0 .supervisor
  let s := s.abortSharing (headMask s.mem h)
  if off then s.abortSharing (hostMask s.mem) else s

/-- The start numbered, and its outcome awaited (R66). -/
def State.numberStart (s : State) : State :=
  { s with sup := { s.sup with starts := s.sup.starts + 1, awaiting := some (s.sup.starts + 1) } }

theorem State.supervisorStart_eq (s : State) (h : Fin 16) (off : Bool) : s.supervisorStart h off =
    (s.clearWay h off).numberStart.setUp 0 h .supervisor ((s.clearWay h off).sup.starts + 1) := rfl

theorem State.clearWay_eq (s : State) (h : Fin 16) (off : Bool) : s.clearWay h off =
    if off then ((s.abortChannel 0 .supervisor).abortSharing (headMask s.mem h)).abortSharing (hostMask s.mem)
    else (s.abortChannel 0 .supervisor).abortSharing (headMask s.mem h) := by
  have first : (s.abortChannel 0 .supervisor).mem = s.mem := by rw [(local_abortChannel 0 .supervisor).frame s]; rfl
  have second : ((s.abortChannel 0 .supervisor).abortSharing (headMask s.mem h)).mem = s.mem := by
    rw [(local_abortSharing _).frame, ← first]
    rfl
  unfold State.clearWay
  dsimp only
  rw [first, second]

theorem local_clearWay (h : Fin 16) (off : Bool) : Local fun s => s.clearWay h off := fun b s like => by
  have entry : (b.onto s).mem = s.mem := like.1
  have way := ((local_abortChannel 0 .supervisor).comp (local_abortSharing (headMask s.mem h)))
  dsimp only
  rw [State.clearWay_eq, State.clearWay_eq, entry]
  split
  · exact (way.comp (local_abortSharing (hostMask s.mem))) b s like
  · exact way b s like

theorem appends_clearWay (h : Fin 16) (off : Bool) : Appends fun s => s.clearWay h off := fun s => by
  have way := ((appends_abortChannel 0 .supervisor).comp (appends_abortSharing (headMask s.mem h)))
  dsimp only
  rw [State.clearWay_eq]
  split
  · exact (way.comp (appends_abortSharing (hostMask s.mem))) s
  · exact way s

theorem State.clearWay_aborted (s : State) (h : Fin 16) (off : Bool) : ChannelsAborted s (s.clearWay h off) fun c =>
    c = 0 ∨ s.channels[c].mask &&& headMask s.mem h ≠ 0#6 ∨
      s.channels[c].mask &&& (if off = true then hostMask s.mem else 0) ≠ 0#6 := by
  have way := s.abortWay_aborted (headMask s.mem h)
  rw [State.clearWay_eq]
  cases off with
  | false => exact way.congr fun c => by simp
  | true =>
    refine (way.trans (State.abortSharing_aborted _ (hostMask s.mem))).congr fun c => ?_
    rw [way.mask_eq, if_pos rfl]
    tauto

theorem State.supervisorStart_hostFrame (s : State) (h : Fin 16) (off : Bool) : HostFrame s (s.supervisorStart h off) := by
  rw [State.supervisorStart_eq]
  refine .trans (t := s.clearWay h off) (.of_local (local_clearWay h off) (appends_clearWay h off) s) ?_
  refine .trans (t := (s.clearWay h off).numberStart) (State.setSup_hostFrame _ _) ?_
  exact .of_local (local_setUp 0 h .supervisor _) (appends_setUp 0 h .supervisor _) _

theorem State.supervisorStart_sup (s : State) (h : Fin 16) (off : Bool) : (s.supervisorStart h off).sup =
    { s.sup with starts := s.sup.starts + 1, awaiting := some (s.sup.starts + 1) } := by
  have way : (s.clearWay h off).sup = s.sup := by rw [(local_clearWay h off).frame s]; rfl
  have numbered : ((s.clearWay h off).numberStart).sup =
      { s.sup with starts := s.sup.starts + 1, awaiting := some (s.sup.starts + 1) } := by rw [← way]; rfl
  rw [State.supervisorStart_eq, (local_setUp 0 h .supervisor _).frame]
  exact numbered

/-- A supervisor start made in m, where nothing of the sequencer's has moved since s but that channel 0 may have been
aborted, is the start that the statements tell from s (R63). -/
theorem State.supervisorStart_started {s m t : State} {h : Fin 16} {off : Bool} {after : List Instr} {P : Fin 4 → Prop}
    (cleared : ChannelsAborted { s with sup := t.sup } (({ s with sup := t.sup } : State).onto m) P) (only : ∀ c, P c → c = 0)
    (like : ({ s with sup := t.sup } : State).Alike m) (starts : m.sup.starts = s.sup.starts)
    (counted : t.sup.starts = s.sup.starts + 1) (awaits : t.sup.awaiting = some (s.sup.starts + 1))
    (channels : t.channels = (m.supervisorStart h off).channels) (rails : t.rails = (m.supervisorStart h off).rails)
    (lines : t.lines = (m.supervisorStart h off).lines) (link : t.link = (m.supervisorStart h off).link)
    (transit : t.transit = (m.supervisorStart h off).transit ++ after) :
    SupervisorStarted s t h (if off = true then hostMask s.mem else 0) after := by
  generalize hS : ({ s with sup := t.sup } : State) = S at cleared like
  have entry : S.mem = s.mem := by rw [← hS]
  have kept : S.channels = s.channels := by rw [← hS]
  have same : (S.onto m).mem = s.mem := entry
  have way : (S.onto m).clearWay h off = S.onto (m.clearWay h off) := local_clearWay h off S m like
  have likeWay : S.Alike (m.clearWay h off).numberStart := (local_clearWay h off).alike like
  have number : (m.clearWay h off).sup.starts = s.sup.starts := by
    rw [(local_clearWay h off).frame m]
    exact starts
  have started : (S.onto (m.clearWay h off).numberStart).setUp 0 h .supervisor (s.sup.starts + 1) =
      S.onto (m.supervisorStart h off) := by
    rw [State.supervisorStart_eq, number]
    exact local_setUp 0 h .supervisor _ S _ likeWay
  have aborted : ChannelsAborted S ((S.onto m).clearWay h off) fun c => c = 0 ∨
      S.channels[c].mask &&& headMask s.mem h ≠ 0#6 ∨
        S.channels[c].mask &&& (if off = true then hostMask s.mem else 0) ≠ 0#6 := by
    refine (cleared.trans ((S.onto m).clearWay_aborted h off)).congr fun c => ?_
    rw [cleared.mask_eq, same]
    exact ⟨fun named => named.elim (fun p => .inl (only c p)) id, .inr⟩
  have begins := State.setUp_begins (S.onto (m.clearWay h off).numberStart) 0 h .supervisor (s.sup.starts + 1)
  rw [way] at aborted
  rw [kept] at aborted
  have entry' : (S.onto (m.clearWay h off).numberStart).mem = s.mem := entry
  rw [started, entry'] at begins
  exact ⟨_, S.onto (m.supervisorStart h off), hS ▸ aborted, hS ▸ begins, counted, awaits, channels, rails, lines, link,
    transit⟩

end Sys2Proof.Machine
end

section
/-! SUPPORT. Restarts, shutdowns and causes of the supervisor (R80 to R87, R90). -/

namespace Sys2Proof.Machine

open Sys2Proof Host

variable {s t : State}

/-! ### Entries into a state (R69) -/

/-- The supervisor after an entry into a state: what ends with the old state ends, and no outcome is awaited (R66, R69). -/
def Sup.entered (u : Sup) (st : SupState) (sub : SupSub) : Sup :=
  { u with
    state := st
    sub := sub
    awaiting := none
    restart := if u.state = .restarting ∧ st ≠ .restarting then none else u.restart
    target := if u.state = .shutting ∧ st ≠ .shutting then none else u.target
    stageTimer := if u.state = .booting ∧ st ≠ .booting then none else u.stageTimer
    settleTimer := if u.state = .running ∧ st ≠ .running then none else u.settleTimer }

@[simp] theorem State.enter_sup (s : State) (st : SupState) (sub : SupSub) : (s.enter st sub).sup = s.sup.entered st sub := rfl

@[simp] theorem State.abortChannel_sup (s : State) (c : Fin 4) (by_ : EndedBy) : (s.abortChannel c by_).sup = s.sup := by
  rw [(local_abortChannel c by_).frame s]
  rfl

@[simp] theorem State.abortChannel_mem (s : State) (c : Fin 4) (by_ : EndedBy) : (s.abortChannel c by_).mem = s.mem := by
  rw [(local_abortChannel c by_).frame s]
  rfl

@[simp] theorem State.abortChannel_clock (s : State) (c : Fin 4) (by_ : EndedBy) : (s.abortChannel c by_).clock = s.clock := by
  rw [(local_abortChannel c by_).frame s]
  rfl

/-- The state with a history and the events of a report behind it (R80). -/
def State.recorded (s : State) (history : List HistoryEntry) (after : List Instr) : State :=
  { s with sup := { s.sup with history := history }, transit := s.transit ++ after }

/-- Substate SEQUENCE with the rung's mode kept (R83). -/
def State.sequenced (s : State) (r : Restart) : State :=
  let m := s.enter .restarting .sequence
  m.setSup { m.sup with restart := some { r with mode := some (rungMode s.mem r.rung) } }

theorem State.enterSequence_eq (s : State) (r : Restart) : s.enterSequence r =
    (s.sequenced r).supervisorStart (rungHead s.mem r.rung) (decide (rungMode s.mem r.rung = .rewarm)) := rfl

/-- Entry into SEQUENCE: the rung's mode kept and its head started (R83). -/
theorem State.enterSequence_sup (s : State) (r : Restart) : (s.enterSequence r).sup =
    { s.sup.entered .restarting .sequence with
      restart := some { r with mode := some (rungMode s.mem r.rung) }
      starts := s.sup.starts + 1, awaiting := some (s.sup.starts + 1) } := by
  unfold State.enterSequence
  dsimp only
  rw [State.supervisorStart_sup]
  rfl

theorem State.enterSequence_hostFrame (s : State) (r : Restart) : HostFrame s (s.enterSequence r) := by
  unfold State.enterSequence
  dsimp only
  exact (s.enter_hostFrame _ _).trans ((State.setSup_hostFrame _ _).trans (State.supervisorStart_hostFrame _ _ _))

/-- The supervisor in hold-off with a rung (R83). -/
def Sup.heldOff (u : Sup) (rung : Fin 6) (origin : Origin) : Sup :=
  { u.stopWatch.entered .restarting .holdOff with restart := some { rung := rung, mode := none, origin := origin } }

/-- Entry into RESTARTING in substate HOLD OFF (R83). -/
def State.heldOff (s : State) (rung : Fin 6) (origin : Origin) : State :=
  let r : Restart := { rung := rung, mode := none, origin := origin }
  let s := (s.setSup s.sup.stopWatch).enter .restarting .holdOff
  s.setSup { s.sup with restart := some r }

/-- Entry into RESTARTING up to the hold-off: channel 0 aborted in substate HOLD OFF (R83). -/
def State.holdOffBegun (s : State) (rung : Fin 6) (origin : Origin) : State :=
  (s.heldOff rung origin).abortChannel 0 .supervisor

theorem State.holdOffBegun_sup (s : State) (rung : Fin 6) (origin : Origin) :
    (s.holdOffBegun rung origin).sup = s.sup.heldOff rung origin := by
  unfold State.holdOffBegun
  rw [State.abortChannel_sup]
  rfl

theorem State.holdOffBegun_hostFrame (s : State) (rung : Fin 6) (origin : Origin) :
    HostFrame s (s.holdOffBegun rung origin) := by
  unfold State.holdOffBegun State.heldOff
  dsimp only
  exact (s.setSup_hostFrame _).trans ((State.enter_hostFrame _ _ _).trans
    ((State.setSup_hostFrame _ _).trans (State.abortChannel_hostFrame _ _ _)))

theorem State.enterRestarting_eq (s : State) (rung : Fin 6) (origin : Origin) : s.enterRestarting rung origin =
    let m := s.holdOffBegun rung origin
    if 0 < rungHoldOff s.mem rung then
      m.setSup { m.sup with holdOffTimer := some (s.clock + rungHoldOff s.mem rung * 1000000) }
    else m.enterSequence { rung := rung, mode := none, origin := origin } := by
  have frame := s.holdOffBegun_hostFrame rung origin
  have unfolded : s.enterRestarting rung origin =
      if 0 < rungHoldOff (s.holdOffBegun rung origin).mem rung then
        (s.holdOffBegun rung origin).setSup { (s.holdOffBegun rung origin).sup with
          holdOffTimer := (s.holdOffBegun rung origin).timer (secs (rungHoldOff (s.holdOffBegun rung origin).mem rung)) }
      else (s.holdOffBegun rung origin).enterSequence { rung := rung, mode := none, origin := origin } := rfl
  rw [unfolded, frame.mem_eq]
  unfold State.timer State.inMs secs
  rw [frame.clock_eq, Nat.mul_assoc]

theorem State.enterRestarting_hostFrame (s : State) (rung : Fin 6) (origin : Origin) :
    HostFrame s (s.enterRestarting rung origin) := by
  rw [State.enterRestarting_eq]
  refine (s.holdOffBegun_hostFrame rung origin).trans ?_
  dsimp only
  split
  · exact State.setSup_hostFrame _ _
  · exact State.enterSequence_hostFrame _ _

/-- The supervisor after an entry into RESTARTING (R83). -/
theorem State.enterRestarting_sup (s : State) (rung : Fin 6) (origin : Origin) : (s.enterRestarting rung origin).sup =
    if 0 < rungHoldOff s.mem rung then
      { s.sup.heldOff rung origin with holdOffTimer := some (s.clock + rungHoldOff s.mem rung * 1000000) }
    else
      { (s.sup.heldOff rung origin).entered .restarting .sequence with
        restart := some { rung := rung, mode := some (rungMode s.mem rung), origin := origin }
        starts := s.sup.starts + 1, awaiting := some (s.sup.starts + 1) } := by
  rw [State.enterRestarting_eq]
  dsimp only
  split
  · rw [State.holdOffBegun_sup]
    rfl
  · rw [State.enterSequence_sup, State.holdOffBegun_sup, (s.holdOffBegun_hostFrame rung origin).mem_eq]
    rfl

/-! ### Orders that leave the sequencer at rest -/

/-- Entries into a state alone lead from s to m: the sequencer's parts, and what it reads, have not moved (R69). -/
def Quiet (s m : State) : Prop :=
  m = { s with sup := m.sup, keypad := m.keypad, chords := m.chords, shown := m.shown }

theorem Quiet.refl (s : State) : Quiet s s := rfl

theorem Quiet.trans (h : Quiet s t) {u : State} (h' : Quiet t u) : Quiet s u := by
  unfold Quiet at *
  rw [h', h]

theorem State.enter_quiet (s : State) (st : SupState) (sub : SupSub) : Quiet s (s.enter st sub) := rfl

theorem State.setSup_quiet (s : State) (u : Sup) : Quiet s (s.setSup u) := rfl

theorem State.sequenced_quiet (s : State) (r : Restart) : Quiet s (s.sequenced r) :=
  (State.enter_quiet _ _ _).trans (State.setSup_quiet _ _)

theorem State.heldOff_quiet (s : State) (rung : Fin 6) (origin : Origin) : Quiet s (s.heldOff rung origin) :=
  (State.setSup_quiet _ _).trans ((State.enter_quiet _ _ _).trans (State.setSup_quiet _ _))

theorem Quiet.onto_eq (h : Quiet s t) (b : State) : b.onto t = b.onto s := by
  rw [h]
  rfl

theorem Quiet.alike (h : Quiet s t) {u : Sup} (state : u.state = t.sup.state) : ({ s with sup := u } : State).Alike t := by
  refine ⟨?_, ?_, state⟩ <;> rw [h]

/-- Where the channels, the events and the time are the same, an abort leaves the same. -/
theorem State.abortChannel_same {m : State} (quiet : Quiet s m) (c : Fin 4) (by_ : EndedBy) :
    (m.abortChannel c by_).channels = (s.abortChannel c by_).channels ∧
      (m.abortChannel c by_).transit = (s.abortChannel c by_).transit := by
  have channels : m.channels = s.channels := by rw [quiet]
  have transit : m.transit = s.transit := by rw [quiet]
  have uptime : m.uptime = s.uptime := by rw [quiet]; rfl
  unfold State.abortChannel
  rw [channels]
  split
  · rw [State.endChannel_eq, State.endChannel_eq, channels, transit, uptime]
    exact ⟨rfl, rfl⟩
  · exact ⟨channels, transit⟩

/-- What the state t holds of the sequencer's parts is u's, and events follow. -/
def Follows (u t : State) (after : List Instr) : Prop :=
  t.channels = u.channels ∧ t.rails = u.rails ∧ t.lines = u.lines ∧ t.link = u.link ∧ t.transit = u.transit ++ after

theorem Follows.self (t : State) : Follows t t [] := ⟨rfl, rfl, rfl, rfl, (List.append_nil _).symm⟩

theorem Follows.of_setSup {u : Sup} {after : List Instr} (h : Follows (s.setSup u) t after) : Follows s t after := h

theorem State.recorded_follows (s : State) (history : List HistoryEntry) (after : List Instr) :
    Follows s (s.recorded history after) after := ⟨rfl, rfl, rfl, rfl, rfl⟩

/-- Channel 0 aborted after entries alone is channel 0 aborted (R83, R87). -/
theorem Quiet.abortChannel_aborted {m : State} {after : List Instr} (quiet : Quiet s m)
    (follows : Follows (m.abortChannel 0 .supervisor) t after) : Channel0Aborted s t after := by
  obtain ⟨channels, rails, lines, link, transit⟩ := follows
  obtain ⟨same, sent⟩ := State.abortChannel_same quiet 0 .supervisor
  have parts : (m.abortChannel 0 .supervisor).rails = m.rails ∧ (m.abortChannel 0 .supervisor).lines = m.lines ∧
      (m.abortChannel 0 .supervisor).link = m.link := by
    unfold State.abortChannel
    split
    · rw [State.endChannel_eq]
      exact ⟨rfl, rfl, rfl⟩
    · exact ⟨rfl, rfl, rfl⟩
  obtain ⟨keptRails, keptLines, keptLink⟩ := parts
  refine ⟨_, s.abortChannel_aborted 0, by rw [channels, same], ?_, ?_, ?_, by rw [transit, sent]⟩
  · rw [rails, keptRails, quiet]
  · rw [lines, keptLines, quiet]
  · rw [link, keptLink, quiet]

/-- A supervisor start made after entries alone (R63). -/
theorem Quiet.supervisorStart {m : State} {h : Fin 16} {off : Bool} {after : List Instr} (quiet : Quiet s m)
    (state : t.sup.state = m.sup.state) (starts : m.sup.starts = s.sup.starts) (counted : t.sup.starts = s.sup.starts + 1)
    (awaits : t.sup.awaiting = some (s.sup.starts + 1)) (follows : Follows (m.supervisorStart h off) t after) :
    SupervisorStarted s t h (if off = true then hostMask s.mem else 0) after := by
  obtain ⟨channels, rails, lines, link, transit⟩ := follows
  refine State.supervisorStart_started (P := fun _ => False) ?_ (fun _ => False.elim) (quiet.alike state) starts counted
    awaits channels rails lines link transit
  rw [quiet.onto_eq]
  exact .refl _ fun _ => And.right

/-- A supervisor start made after channel 0 was aborted between entries (R63, R83, R87). -/
theorem Quiet.supervisorStart_aborted {m n : State} {h : Fin 16} {off : Bool} {after : List Instr} (before : Quiet s m)
    (between : Quiet (m.abortChannel 0 .supervisor) n) (state : t.sup.state = m.sup.state) (state' : n.sup.state = m.sup.state)
    (starts : n.sup.starts = s.sup.starts) (counted : t.sup.starts = s.sup.starts + 1)
    (awaits : t.sup.awaiting = some (s.sup.starts + 1)) (follows : Follows (n.supervisorStart h off) t after) :
    SupervisorStarted s t h (if off = true then hostMask s.mem else 0) after := by
  obtain ⟨channels, rails, lines, link, transit⟩ := follows
  have like : ({ s with sup := t.sup } : State).Alike m := before.alike state
  have aborted : ({ s with sup := t.sup } : State).Alike (m.abortChannel 0 .supervisor) :=
    (local_abortChannel 0 .supervisor).alike like
  refine State.supervisorStart_started (P := fun c => c = 0) ?_ (fun _ => id) ?_ starts counted
    awaits channels rails lines link transit
  · have same := local_abortChannel 0 .supervisor _ m like
    dsimp only at same
    rw [between.onto_eq, ← same, before.onto_eq]
    exact State.abortChannel_aborted _ 0
  · obtain ⟨mem, clock, -⟩ := aborted
    refine ⟨?_, ?_, by rw [state, state']⟩
    · rw [mem, between]
    · rw [clock, between]

/-! ### Entry into RESTARTING (R83) -/

/-- What a restart keeps of the supervisor. -/
theorem State.enterRestarting_keeps (s : State) (rung : Fin 6) (origin : Origin) :
    let u := (s.enterRestarting rung origin).sup
    u.ladder = s.sup.ladder ∧ u.rung = s.sup.rung ∧ u.attempts = s.sup.attempts ∧ u.serial = s.sup.serial ∧
      u.history = s.sup.history := by
  dsimp only
  rw [State.enterRestarting_sup]
  split <;> exact ⟨rfl, rfl, rfl, rfl, rfl⟩

/-- An entry into RESTARTING from a supervisor u is what RestartBegun tells, whatever is recorded after it (R83). -/
theorem State.enterRestarting_begun (s : State) (u : Sup) (rung : Fin 6) (origin : Origin) (history : List HistoryEntry)
    (after : List Instr) (starts : u.starts = s.sup.starts) :
    RestartBegun s (((s.setSup u).enterRestarting rung origin).recorded history after) rung origin after := by
  obtain ⟨published, stopped⟩ := (s.setSup u).enterRestarting_published rung origin
  have eq := (s.setSup u).enterRestarting_eq rung origin
  have entry : (s.setSup u).mem = s.mem := rfl
  have sup : (((s.setSup u).enterRestarting rung origin).recorded history after).sup =
      { ((s.setSup u).enterRestarting rung origin).sup with history := history } := rfl
  have follows := ((s.setSup u).enterRestarting rung origin).recorded_follows history after
  rw [State.enterRestarting_sup, entry] at sup
  rw [entry] at eq
  dsimp only at eq
  generalize ht : ((s.setSup u).enterRestarting rung origin).recorded history after = t at sup follows
  have chords : t.chords = ((s.setSup u).enterRestarting rung origin).chords := by rw [← ht]; rfl
  unfold RestartBegun ForcedOffStopped
  rw [chords]
  by_cases held : 0 < rungHoldOff s.mem rung
  · rw [if_pos held] at sup eq
    rw [eq] at follows
    have before := (s.setSup_quiet u).trans ((s.setSup u).heldOff_quiet rung origin)
    have aborted := before.abortChannel_aborted follows.of_setSup
    rw [sup]
    exact ⟨rfl, published, stopped, ite_self _, rfl, rfl, rfl, ite_self _, fun _ => ⟨rfl, rfl, rfl, aborted⟩,
      fun none_ => absurd held (by omega)⟩
  · rw [if_neg held] at sup eq
    rw [eq, State.enterSequence_eq, ((s.setSup u).holdOffBegun_hostFrame rung origin).mem_eq, entry] at follows
    have kept : ((s.setSup u).holdOffBegun rung origin).sup = u.heldOff rung origin := State.holdOffBegun_sup ..
    have counted : t.sup.starts = s.sup.starts + 1 := by rw [sup, ← starts]; rfl
    have awaits : t.sup.awaiting = some (s.sup.starts + 1) := by rw [sup, ← starts]; rfl
    have state : t.sup.state = .restarting := by rw [sup]; rfl
    have before := (s.setSup_quiet u).trans ((s.setSup u).heldOff_quiet rung origin)
    have between := ((s.setSup u).holdOffBegun rung origin).sequenced_quiet { rung := rung, mode := none, origin := origin }
    have numbered := congrArg Sup.starts kept
    have started := before.supervisorStart_aborted between state rfl (numbered.trans starts) counted awaits follows
    simp only [decide_eq_true_eq] at started
    have watch : t.sup.stageTimer = none ∧ t.sup.heartbeatTimer = none ∧ t.sup.graceTimer = none ∧
        t.sup.pauseTimer = none ∧ t.sup.settleTimer = none := by
      rw [sup]
      exact ⟨ite_self _, rfl, rfl, rfl, ite_self _⟩
    obtain ⟨stage, beat, grace, pause, settle⟩ := watch
    exact ⟨state, published, stopped, stage, beat, grace, pause, settle, fun some_ => absurd some_ held,
      fun _ => ⟨by rw [sup]; rfl, by rw [sup], started⟩⟩

/-! ### Entry into SHUTTING (R87) -/

/-- The supervisor in SHUTTING with a target (R87). -/
def Sup.shutting (u : Sup) (target : ShutTarget) (wake : Option Nat) : Sup :=
  { ({ u.stopWatch with holdOffTimer := none } : Sup).entered .shutting .none with target := some target, wakeAfter := wake }

/-- Entry into SHUTTING with its target (R87). -/
def State.shutting (s : State) (target : ShutTarget) (wake : Option Nat) : State :=
  let m := (s.setSup { s.sup.stopWatch with holdOffTimer := none }).enter .shutting .none
  m.setSup { m.sup with target := some target, wakeAfter := wake }

theorem State.shutting_quiet (s : State) (target : ShutTarget) (wake : Option Nat) : Quiet s (s.shutting target wake) :=
  (State.setSup_quiet _ _).trans ((State.enter_quiet _ _ _).trans (State.setSup_quiet _ _))

/-- Entry into SHUTTING up to the halt delay: channel 0 aborted (R87). -/
def State.haltBegun (s : State) (target : ShutTarget) (wake : Option Nat) : State :=
  (s.shutting target wake).abortChannel 0 .supervisor

theorem State.haltBegun_sup (s : State) (target : ShutTarget) (wake : Option Nat) :
    (s.haltBegun target wake).sup = s.sup.shutting target wake := by
  unfold State.haltBegun
  rw [State.abortChannel_sup]
  rfl

theorem State.haltBegun_hostFrame (s : State) (target : ShutTarget) (wake : Option Nat) :
    HostFrame s (s.haltBegun target wake) := by
  unfold State.haltBegun State.shutting
  dsimp only
  exact (s.setSup_hostFrame _).trans ((State.enter_hostFrame _ _ _).trans
    ((State.setSup_hostFrame _ _).trans (State.abortChannel_hostFrame _ _ _)))

theorem State.enterShutting_eq (s : State) (target : ShutTarget) (halt : Nat) (wake : Option Nat) :
    s.enterShutting target halt wake =
    let m := s.haltBegun target wake
    if 0 < halt then m.setSup { m.sup with haltTimer := some (s.clock + halt * 1000000) }
    else m.supervisorStart (offHead s.mem) true := by
  have frame := s.haltBegun_hostFrame target wake
  have unfolded : s.enterShutting target halt wake =
      if 0 < halt then (s.haltBegun target wake).setSup { (s.haltBegun target wake).sup with
        haltTimer := (s.haltBegun target wake).timer (secs halt) }
      else (s.haltBegun target wake).startOff := rfl
  rw [unfolded]
  unfold State.timer State.inMs secs State.startOff
  rw [frame.mem_eq, frame.clock_eq, Nat.mul_assoc]

theorem State.enterShutting_hostFrame (s : State) (target : ShutTarget) (halt : Nat) (wake : Option Nat) :
    HostFrame s (s.enterShutting target halt wake) := by
  rw [State.enterShutting_eq]
  refine (s.haltBegun_hostFrame target wake).trans ?_
  dsimp only
  split
  · exact State.setSup_hostFrame _ _
  · exact State.supervisorStart_hostFrame _ _ _

/-- The supervisor after an entry into SHUTTING (R87). -/
theorem State.enterShutting_sup (s : State) (target : ShutTarget) (halt : Nat) (wake : Option Nat) :
    (s.enterShutting target halt wake).sup =
    if 0 < halt then { s.sup.shutting target wake with haltTimer := some (s.clock + halt * 1000000) }
    else { s.sup.shutting target wake with starts := s.sup.starts + 1, awaiting := some (s.sup.starts + 1) } := by
  rw [State.enterShutting_eq]
  dsimp only
  split
  · rw [State.haltBegun_sup]
    rfl
  · rw [State.supervisorStart_sup, State.haltBegun_sup]
    rfl

/-- What a shutdown keeps of the supervisor. -/
theorem State.enterShutting_keeps (s : State) (target : ShutTarget) (halt : Nat) (wake : Option Nat) :
    let u := (s.enterShutting target halt wake).sup
    u.ladder = s.sup.ladder ∧ u.rung = s.sup.rung ∧ u.attempts = s.sup.attempts ∧ u.serial = s.sup.serial ∧
      u.history = s.sup.history := by
  dsimp only
  rw [State.enterShutting_sup]
  split <;> exact ⟨rfl, rfl, rfl, rfl, rfl⟩

/-- What an entry into SHUTTING with a halt delay and a wake-after time leaves (R87). -/
def Shutdown (s t : State) (target : ShutTarget) (halt : Nat) (wake : Option Nat) (after : List Instr) : Prop :=
  ShutdownBegun s t target ∧ t.sup.wakeAfter = wake ∧
  (0 < halt → t.sup.haltTimer = some (s.clock + halt * 1000000) ∧ Channel0Aborted s t after) ∧
  (halt = 0 → SupervisorStarted s t (offHead s.mem) (hostMask s.mem) after)

/-- An entry into SHUTTING from a supervisor u, whatever is recorded after it (R87). -/
theorem State.enterShutting_begun (s : State) (u : Sup) (target : ShutTarget) (halt : Nat) (wake : Option Nat)
    (history : List HistoryEntry) (after : List Instr) (starts : u.starts = s.sup.starts) :
    Shutdown s (((s.setSup u).enterShutting target halt wake).recorded history after) target halt wake after := by
  obtain ⟨published, stopped⟩ := (s.setSup u).enterShutting_published target halt wake
  have eq := (s.setSup u).enterShutting_eq target halt wake
  have entry : (s.setSup u).mem = s.mem := rfl
  have sup : (((s.setSup u).enterShutting target halt wake).recorded history after).sup =
      { ((s.setSup u).enterShutting target halt wake).sup with history := history } := rfl
  have follows := ((s.setSup u).enterShutting target halt wake).recorded_follows history after
  rw [State.enterShutting_sup] at sup
  rw [entry] at eq
  dsimp only at eq
  generalize ht : ((s.setSup u).enterShutting target halt wake).recorded history after = t at sup follows
  have chords : t.chords = ((s.setSup u).enterShutting target halt wake).chords := by rw [← ht]; rfl
  have before := (s.setSup_quiet u).trans ((s.setSup u).shutting_quiet target wake)
  unfold Shutdown ShutdownBegun ForcedOffStopped
  rw [chords]
  by_cases halts : 0 < halt
  · rw [if_pos halts] at sup eq
    rw [eq] at follows
    have aborted := before.abortChannel_aborted follows.of_setSup
    rw [sup]
    exact ⟨⟨rfl, published, stopped, rfl, rfl, ite_self _, rfl, rfl, rfl, ite_self _, rfl⟩, rfl, fun _ => ⟨rfl, aborted⟩,
      fun none_ => absurd halts (by omega)⟩
  · rw [if_neg halts] at sup eq
    rw [eq] at follows
    have kept : ((s.setSup u).haltBegun target wake).sup = u.shutting target wake := State.haltBegun_sup ..
    have numbered := congrArg Sup.starts kept
    have counted : t.sup.starts = s.sup.starts + 1 := by rw [sup, ← starts]; rfl
    have awaits : t.sup.awaiting = some (s.sup.starts + 1) := by rw [sup, ← starts]; rfl
    have state : t.sup.state = .shutting := by rw [sup]; rfl
    have entered : ((s.setSup u).haltBegun target wake).sup.state = .shutting := by rw [kept]; rfl
    have started := before.supervisorStart_aborted (.refl _) state entered (numbered.trans starts) counted awaits follows
    rw [if_pos rfl] at started
    rw [sup]
    exact ⟨⟨rfl, published, stopped, rfl, rfl, ite_self _, rfl, rfl, rfl, ite_self _, rfl⟩, rfl, fun some_ => absurd some_ halts,
      fun _ => started⟩

/-! ### Causes (R80, R90) -/

/-- The history entry of a cause, given the rung chosen (R90). -/
def State.causeEntry (s : State) (cause : Cause) (rung : Option (Fin 6)) (attempt : Nat) : HistoryEntry :=
  { serial := s.nextSerial, cause := cause, rung := rung, attempt := attempt, stageReached := s.sup.stageReached
    stateAt := s.sup.state, subAt := s.sup.sub, stamp := s.uptime
    s0 := s.sensors[(0 : Fin 9)].word, s2 := s.sensors[(2 : Fin 9)].word }

/-- The history once the cause stands in it, oldest first and at most eight (R90). -/
def State.causeHistory (s : State) (cause : Cause) (rung : Option (Fin 6)) (attempt : Nat) : List HistoryEntry :=
  (s.sup.history ++ [s.causeEntry cause rung attempt]).drop (s.sup.history.length - 7)

/-- The history keeps its last seven entries and takes one more (R90). -/
theorem addHistory_eq (h : List HistoryEntry) (e : HistoryEntry) : addHistory h e = (h ++ [e]).drop (h.length - 7) := by
  unfold addHistory
  split
  · rw [show h.length - 7 = 0 by omega, List.drop_zero]
  · rw [List.drop_append_of_le_length (by omega)]

/-- What is recorded of a cause taken in s, once its order has been carried out (R80 steps 4 and 5). -/
theorem State.recordCause_eq {m : State} (cause : Cause) (d : Decision) (detail : Nat) (frame : HostFrame (s.counted cause) m)
    (serial : m.sup.serial = s.nextSerial) (history : m.sup.history = s.sup.history) :
    m.recordCause s.sup cause d detail = m.recorded (s.causeHistory cause d.rung d.attempt)
      [causeReport s cause d.rung d.attempt detail] := by
  have uptime : m.uptime = s.uptime := frame.uptime_eq
  have sensors : m.sensors = s.sensors := frame.sensors_eq
  have recorded : m.recordCause s.sup cause d detail = m.recorded
      (addHistory m.sup.history
        { serial := m.sup.serial, cause := cause, rung := d.rung, attempt := d.attempt, stageReached := s.sup.stageReached
          stateAt := s.sup.state, subAt := s.sup.sub, stamp := m.uptime
          s0 := m.sensors[(0 : Fin 9)].word, s2 := m.sensors[(2 : Fin 9)].word })
      [posting m.uptime .restart (BitVec.ofNat 8 (causeCode cause)) true 0
        { w0 := natWord m.sup.serial, w1 := natWord (match d.rung with | some r => r.val | none => 255)
          w2 := natWord d.attempt, w3 := natWord detail }] := rfl
  rw [recorded, addHistory_eq, serial, history, uptime, sensors]
  rfl

/-- The cause stands recorded (R80, R90). -/
theorem State.recorded_cause {m : State} {cause : Cause} {rung : Option (Fin 6)} {attempt detail : Nat}
    (frame : HostFrame (s.counted cause) m) (serial : m.sup.serial = s.nextSerial) :
    CauseRecorded s (m.recorded (s.causeHistory cause rung attempt)
      [causeReport s cause rung attempt detail]) cause rung attempt detail :=
  ⟨serial, List.mem_append_left _ (frame.mem_transit (List.mem_append_right _ (List.mem_singleton_self _))), rfl,
    List.mem_append_right _ (List.mem_singleton_self _)⟩

theorem State.counted_hostFrame (s : State) (cause : Cause) : HostFrame s (s.counted cause) := s.send_hostFrame _

theorem State.recorded_hostFrame (s : State) (history : List HistoryEntry) (after : List Instr) :
    HostFrame s (s.recorded history after) := ⟨⟨after, rfl⟩, rfl⟩

end Sys2Proof.Machine
end

section
/-! SUPPORT. The restart ladder, its causes, and the orders of the desk and of the keys (R70, R80 to R89). -/

namespace Sys2Proof.Machine

open Sys2Proof Host

variable {s t : State}

/-! ### The ladder (R81, R82) -/

theorem rungCount_bounds (m : Memory) : 1 ≤ rungCount m ∧ rungCount m ≤ 6 := by
  unfold rungCount clampNat
  omega

theorem rungLimit_bounds (m : Memory) (r : Fin 6) : 1 ≤ rungLimit m r ∧ rungLimit m r ≤ 15 := by
  unfold rungLimit clampNat
  omega

@[simp] theorem ladderOf_limits (m : Memory) (r : Fin 6) : (ladderOf m).limits[r] = rungLimit m r := ofFn_get ..

/-- The rung a refreshed position stands at (R81). -/
theorem Sup.refreshLadder_rung (u : Sup) (m : Memory) :
    (u.refreshLadder m).rung.val = if u.rung.val < rungCount m then u.rung.val else rungCount m - 1 := by
  obtain ⟨least, most⟩ := rungCount_bounds m
  have count : (ladderOf m).rungCount = rungCount m := rfl
  unfold Sup.refreshLadder
  simp only [count]
  split
  · rfl
  · exact min_eq_left (by omega)

theorem Sup.refreshLadder_attempts (u : Sup) (m : Memory) :
    (u.refreshLadder m).attempts = min u.attempts (rungLimit m (u.refreshLadder m).rung) :=
  congrArg (min u.attempts) (ladderOf_limits m _)

/-- What a ladder decision of the supervisor u on the profile m chooses, and the position v it leaves (R81, R82). -/
def Decided (u : Sup) (m : Memory) (v : Sup) (d : Decision) : Prop :=
  ∃ cur : Fin 6,
    let n := rungCount m
    let limit := rungLimit m cur
    let a := min u.attempts limit
    cur.val = (if u.rung.val < n then u.rung.val else n - 1) ∧ v.ladder = ladderOf m ∧
    (a < limit → d.rung = some cur ∧ d.attempt = a + 1 ∧ v.rung = cur ∧ v.attempts = a + 1) ∧
    (a = limit → cur.val + 1 < n → d.attempt = 1 ∧ v.attempts = 1 ∧
      ∃ next : Fin 6, next.val = cur.val + 1 ∧ d.rung = some next ∧ v.rung = next) ∧
    (a = limit → n ≤ cur.val + 1 → d.rung = none ∧ d.attempt = limit ∧ v.rung = cur ∧ v.attempts = limit)

section
variable {v : Sup}

theorem Sup.decide_again (more : v.attempts + 1 ≤ v.ladder.limits[v.rung]) : v.decide =
    ({ v with attempts := v.attempts + 1 }, { rung := some v.rung, attempt := v.attempts + 1 }) := if_pos more

theorem Sup.decide_next (full : ¬ v.attempts + 1 ≤ v.ladder.limits[v.rung])
    (next : v.rung.val + 1 < v.ladder.rungCount ∧ v.rung.val + 1 < 6) : v.decide =
    ({ v with rung := ⟨v.rung.val + 1, next.2⟩, attempts := 1 }, { rung := some ⟨v.rung.val + 1, next.2⟩, attempt := 1 }) :=
  (if_neg full).trans (dif_pos next)

theorem Sup.decide_exhausted (full : ¬ v.attempts + 1 ≤ v.ladder.limits[v.rung])
    (last : ¬ (v.rung.val + 1 < v.ladder.rungCount ∧ v.rung.val + 1 < 6)) : v.decide =
    ({ v with attempts := v.ladder.limits[v.rung] }, { rung := none, attempt := v.ladder.limits[v.rung] }) :=
  (if_neg full).trans (dif_neg last)

end

/-- A decision on a refreshed position v (R82). -/
theorem Sup.decide_of_refreshed {u v : Sup} {m : Memory}
    (rung : v.rung.val = if u.rung.val < rungCount m then u.rung.val else rungCount m - 1)
    (attempts : v.attempts = min u.attempts (rungLimit m v.rung)) (ladder : v.ladder = ladderOf m) :
    Decided u m v.decide.1 v.decide.2 := by
  have limit : v.ladder.limits[v.rung] = rungLimit m v.rung := by
    simp only [ladder]
    exact ladderOf_limits m v.rung
  have count : v.ladder.rungCount = rungCount m := by rw [ladder]; rfl
  obtain ⟨-, most⟩ := rungCount_bounds m
  refine ⟨v.rung, ?_⟩
  dsimp only
  rw [← attempts]
  by_cases more : v.attempts + 1 ≤ v.ladder.limits[v.rung]
  · rw [Sup.decide_again more]
    exact ⟨rung, ladder, fun _ => ⟨rfl, rfl, rfl, rfl⟩, fun full => by omega, fun full => by omega⟩
  · by_cases next : v.rung.val + 1 < v.ladder.rungCount ∧ v.rung.val + 1 < 6
    · rw [Sup.decide_next more next]
      exact ⟨rung, ladder, fun less => by omega, fun _ _ => ⟨rfl, rfl, _, rfl, rfl, rfl⟩, fun _ last => by omega⟩
    · rw [Sup.decide_exhausted more next]
      exact ⟨rung, ladder, fun less => by omega, fun _ some_ => absurd some_ (by omega),
        fun _ _ => ⟨rfl, limit, rfl, limit⟩⟩

theorem Sup.decide_decided (u : Sup) (m : Memory) : Decided u m (u.refreshLadder m).decide.1 (u.refreshLadder m).decide.2 :=
  Sup.decide_of_refreshed (u.refreshLadder_rung m) (u.refreshLadder_attempts m) rfl

/-- What a decision leaves of the supervisor. -/
theorem Sup.decide_keeps (u : Sup) : u.decide.1 = { u with rung := u.decide.1.rung, attempts := u.decide.1.attempts } := by
  unfold Sup.decide
  dsimp only
  split
  · rfl
  · split <;> rfl

/-- The supervisor of a ladder cause once its decision is made (R80, R82). -/
def State.deciding (s : State) : Sup × Decision := (({ s.sup with serial := s.nextSerial } : Sup).refreshLadder s.mem).decide

theorem State.deciding_keeps (s : State) : s.deciding.1.starts = s.sup.starts ∧ s.deciding.1.serial = s.nextSerial ∧
    s.deciding.1.history = s.sup.history := by
  unfold State.deciding
  rw [Sup.decide_keeps]
  exact ⟨rfl, rfl, rfl⟩

theorem State.deciding_decided (s : State) : Decided s.sup s.mem s.deciding.1 s.deciding.2 :=
  Sup.decide_decided { s.sup with serial := s.nextSerial } s.mem

/-- The order of a ladder cause: a restart with the rung chosen, or the hold (R82). -/
def State.ladderOrder (s : State) (cause : Cause) : State :=
  match s.deciding.2.rung with
  | some rung => ((s.counted cause).setSup s.deciding.1).enterRestarting rung .ladder
  | none => ((s.counted cause).setSup s.deciding.1).enterShutting .heldByLadder 0 none

theorem State.ladderCause_eq (s : State) (cause : Cause) (detail : Nat) :
    s.ladderCause cause detail = (s.ladderOrder cause).recordCause s.sup cause s.deciding.2 detail := rfl

theorem State.ladderOrder_hostFrame (s : State) (cause : Cause) : HostFrame (s.counted cause) (s.ladderOrder cause) := by
  refine .trans (State.setSup_hostFrame _ s.deciding.1) ?_
  unfold State.ladderOrder
  split
  · exact State.enterRestarting_hostFrame _ _ _
  · exact State.enterShutting_hostFrame _ _ _ _

theorem State.ladderOrder_keeps (s : State) (cause : Cause) :
    let u := (s.ladderOrder cause).sup
    u.ladder = s.deciding.1.ladder ∧ u.rung = s.deciding.1.rung ∧ u.attempts = s.deciding.1.attempts ∧
      u.serial = s.nextSerial ∧ u.history = s.sup.history := by
  obtain ⟨-, serial, history⟩ := s.deciding_keeps
  rw [← serial, ← history]
  unfold State.ladderOrder
  split
  · exact State.enterRestarting_keeps _ _ _
  · exact State.enterShutting_keeps _ _ _ _

/-- A decision and the order it led to, recorded, are a ladder cause taken (R80, R82). -/
theorem Decided.taken {m : State} {v : Sup} {d : Decision} {cause : Cause} {detail : Nat} (decided : Decided s.sup s.mem v d)
    (frame : HostFrame (s.counted cause) m) (ladder : m.sup.ladder = v.ladder) (rung : m.sup.rung = v.rung)
    (attempts : m.sup.attempts = v.attempts) (serial : m.sup.serial = s.nextSerial)
    (ht : t = m.recorded (s.causeHistory cause d.rung d.attempt) [causeReport s cause d.rung d.attempt detail])
    (restart : ∀ r, d.rung = some r → RestartBegun (s.counted cause) t r .ladder
      [causeReport s cause d.rung d.attempt detail])
    (shut : d.rung = none → ShutdownBegun s t .heldByLadder ∧ SupervisorStarted (s.counted cause) t (offHead s.mem)
      (hostMask s.mem) [causeReport s cause d.rung d.attempt detail]) : LadderTaken s t cause detail := by
  obtain ⟨cur, position, refreshed, fewer, next, full⟩ := decided
  have recorded : CauseRecorded s t cause d.rung d.attempt detail := ht ▸ State.recorded_cause frame serial
  have moved : HostFrame s t :=
    ht ▸ (s.counted_hostFrame cause).trans (frame.trans (m.recorded_hostFrame _ _))
  have ladder' : t.sup.ladder = v.ladder := by rw [ht]; exact ladder
  have rung' : t.sup.rung = v.rung := by rw [ht]; exact rung
  have attempts' : t.sup.attempts = v.attempts := by rw [ht]; exact attempts
  refine ⟨cur, d.rung, d.attempt, position, ladder'.trans refreshed, fun less => ?_, fun all some_ => ?_, fun all last => ?_,
    restart, shut, recorded, moved⟩
  · obtain ⟨named, attempt, at_, tries⟩ := fewer less
    exact ⟨named, attempt, rung'.trans at_, attempts'.trans tries⟩
  · obtain ⟨attempt, tries, r, up, named, at_⟩ := next all some_
    exact ⟨attempt, attempts'.trans tries, r, up, named, rung'.trans at_⟩
  · obtain ⟨named, attempt, at_, tries⟩ := full all last
    exact ⟨named, attempt, rung'.trans at_, attempts'.trans tries⟩

/-- A ladder cause, taken in any state (R80 to R83, R87). -/
theorem State.ladderCause_taken (s : State) (cause : Cause) (detail : Nat) :
    LadderTaken s (s.ladderCause cause detail) cause detail := by
  obtain ⟨starts, -, -⟩ := s.deciding_keeps
  obtain ⟨ladder, rung, attempts, serial, history⟩ := s.ladderOrder_keeps cause
  have frame := s.ladderOrder_hostFrame cause
  have eq : s.ladderCause cause detail = (s.ladderOrder cause).recorded
      (s.causeHistory cause s.deciding.2.rung s.deciding.2.attempt)
      [causeReport s cause s.deciding.2.rung s.deciding.2.attempt detail] := by
    rw [State.ladderCause_eq, State.recordCause_eq cause s.deciding.2 detail frame serial history]
  refine s.deciding_decided.taken frame ladder rung attempts serial eq (fun r chosen => ?_) fun exhausted => ?_
  · have order : s.ladderOrder cause = ((s.counted cause).setSup s.deciding.1).enterRestarting r .ladder := by
      unfold State.ladderOrder
      rw [chosen]
    rw [eq, order]
    exact State.enterRestarting_begun _ _ _ _ _ _ starts
  · have order : s.ladderOrder cause = ((s.counted cause).setSup s.deciding.1).enterShutting .heldByLadder 0 none := by
      unfold State.ladderOrder
      rw [exhausted]
    rw [eq, order]
    obtain ⟨begun, -, -, started⟩ := State.enterShutting_begun (s.counted cause) s.deciding.1 .heldByLadder 0 none
      (s.causeHistory cause s.deciding.2.rung s.deciding.2.attempt)
      [causeReport s cause s.deciding.2.rung s.deciding.2.attempt detail] starts
    exact ⟨begun, started rfl⟩

/-! ### Requested restarts (R85) -/

/-- A restart that is not refused: the cause taken with attempt 0 and the ladder position as it was (R85). -/
theorem State.requestedRestart_begun (s : State) (r : Fin 6) (cause : Cause) (origin : Origin) :
    let t := s.requestedRestart r cause origin
    RestartBegun (s.counted cause) t r origin [causeReport s cause (some r) 0 0] ∧ CauseRecorded s t cause (some r) 0 0 ∧
      t.sup.rung = s.sup.rung ∧ t.sup.attempts = s.sup.attempts ∧ t.sup.ladder = s.sup.ladder ∧ HostFrame s t := by
  let u : Sup := { s.sup with serial := s.nextSerial }
  have eq : s.requestedRestart r cause origin = (((s.counted cause).setSup u).enterRestarting r origin).recordCause s.sup cause
      { rung := some r, attempt := 0 } 0 := rfl
  obtain ⟨ladder, rung, attempts, serial, history⟩ := ((s.counted cause).setSup u).enterRestarting_keeps r origin
  have frame := (State.setSup_hostFrame (s.counted cause) u).trans (State.enterRestarting_hostFrame _ r origin)
  dsimp only
  rw [eq, State.recordCause_eq cause _ 0 frame serial history]
  exact ⟨State.enterRestarting_begun _ _ _ _ _ _ rfl, State.recorded_cause frame serial, rung, attempts, ladder,
    (s.counted_hostFrame cause).trans (frame.trans (State.recorded_hostFrame _ _ _))⟩

theorem Sup.restartRefusal_argument {u : Sup} {rung : Nat} (beyond : u.ladder.rungCount ≤ rung) :
    u.restartRefusal rung = some .badArgument := if_pos (.inl beyond)

theorem Sup.restartRefusal_state {u : Sup} {rung : Nat} (within : ¬ (u.ladder.rungCount ≤ rung ∨ 6 ≤ rung))
    (idle : ¬ (u.state = .booting ∨ u.state = .running)) : u.restartRefusal rung = some .wrongState :=
  (if_neg within).trans (if_pos (not_or.1 idle))

theorem Sup.restartRefusal_none {u : Sup} {rung : Nat} (within : ¬ (u.ladder.rungCount ≤ rung ∨ 6 ≤ rung))
    (allowed : u.state = .booting ∨ u.state = .running) : u.restartRefusal rung = none :=
  (if_neg within).trans (if_neg fun neither => not_or.2 neither allowed)

/-- A chord's restart order (R85, R110). -/
theorem State.chordRestart_ordered (s : State) (rung : Fin 6) :
    RestartOrdered s (s.chordRestart rung).1 rung.val .chord .chord (s.chordRestart rung).2 := by
  unfold State.chordRestart
  refine ⟨fun beyond => ?_, fun within idle => ?_, fun within allowed => ?_⟩
  · rw [Sup.restartRefusal_argument beyond]
    exact ⟨rfl, rfl⟩
  · rw [Sup.restartRefusal_state (by omega) idle]
    exact ⟨rfl, rfl⟩
  · rw [Sup.restartRefusal_none (by omega) allowed]
    refine ⟨rfl, fun r named => ?_⟩
    obtain rfl := Fin.ext named
    exact s.requestedRestart_begun r .chord .chord

/-! ### Start orders (R70, R71) -/

theorem State.startOrder_sup (s : State) : s.startOrder.sup =
    { ({ s.sup with wakeTimer := none, heldRetryTimer := none } : Sup).entered .warming .none with gateWait := true } := rfl

theorem State.startOrder_hostFrame (s : State) : HostFrame s s.startOrder := by
  unfold State.startOrder
  dsimp only
  exact (State.setSup_hostFrame _ _).trans ((State.send_hostFrame _ _).trans
    ((State.enter_hostFrame _ _ _).trans (State.setSup_hostFrame _ _)))

/-- A start order's chord and light unit: the progress 0 and a re-arm awaited (R69, R118). -/
theorem State.startOrder_chords (s : State) : s.startOrder.chords = s.chords.takePublication s.clock .warming .none := rfl

theorem State.startOrder_ordered (s : State) : StartOrdered s s.startOrder := by
  unfold StartOrdered
  rw [State.startOrder_chords, ChordUnit.takePublication_eq]
  exact ⟨rfl, rfl, rfl, rfl, rfl, List.mem_append_right _ (List.mem_singleton_self _), rfl, rfl, rfl, rfl, rfl, rfl⟩

/-- POWER ON carried out or refused (R70). -/
theorem State.powerOn_ordered (s : State) : PowerOnOrdered s s.powerOn.1 s.powerOn.2 := by
  unfold State.powerOn
  refine ⟨fun other => ?_, fun off => ?_⟩
  · rw [if_neg other]
    exact ⟨rfl, rfl⟩
  · rw [if_pos off]
    exact ⟨rfl, s.startOrder_ordered, s.startOrder_hostFrame⟩

theorem State.releaseHold_held (held : s.sup.state = .held) :
    s.releaseHold = ((s.setSup { s.sup with ladder := ladderOf s.mem, rung := 0, attempts := 0 }).startOrder, none) := if_pos held

/-- A release of the hold carried out or refused (R89). -/
theorem State.releaseHold_ordered (s : State) : ReleaseOrdered s s.releaseHold.1 s.releaseHold.2 := by
  refine ⟨fun other => ?_, fun held => ?_⟩
  · unfold State.releaseHold
    rw [if_neg other]
    exact ⟨rfl, rfl⟩
  · rw [State.releaseHold_held held]
    exact ⟨rfl, State.startOrder_ordered _, rfl, rfl, rfl, (State.setSup_hostFrame _ _).trans (State.startOrder_hostFrame _)⟩

/-! ### Forced shutdowns (R87) -/

/-- An entry into SHUTTING after which nothing is recorded (R87). -/
theorem State.enterShutting_shutdown (s : State) (target : ShutTarget) (halt : Nat) (wake : Option Nat) :
    Shutdown s (s.enterShutting target halt wake) target halt wake [] := by
  have begun := s.enterShutting_begun s.sup target halt wake (s.enterShutting target halt wake).sup.history [] rfl
  have self : (s.enterShutting target halt wake).recorded (s.enterShutting target halt wake).sup.history [] =
      s.enterShutting target halt wake := by
    unfold State.recorded
    rw [List.append_nil]
  have setSelf : s.setSup s.sup = s := rfl
  rwa [setSelf, self] at begun

/-- A forced shutdown taken in SHUTTING: its halt delay ends (R87). -/
def State.haltEnded (s : State) : State := s.setSup { s.sup with target := some .off, wakeAfter := none, haltTimer := none }

theorem State.forcedShutdown_idle (idle : s.sup.state = .off ∨ s.sup.state = .held) : s.forcedShutdown = s := by
  unfold State.forcedShutdown
  rcases idle with off | held
  · rw [off]
  · rw [held]

theorem State.forcedShutdown_shutting (shutting : s.sup.state = .shutting) :
    s.forcedShutdown = if s.sup.haltTimer.isSome then s.haltEnded.startOff else s.haltEnded := by
  unfold State.forcedShutdown
  rw [shutting]
  rfl

theorem State.forcedShutdown_other (off : s.sup.state ≠ .off) (held : s.sup.state ≠ .held)
    (shutting : s.sup.state ≠ .shutting) : s.forcedShutdown = s.enterShutting .off 0 none := by
  unfold State.forcedShutdown
  split
  · contradiction
  · contradiction
  · contradiction
  · rfl

/-- The off-sequence started from s (R87). -/
theorem Quiet.startOff {m : State} (quiet : Quiet s m) (starts : m.sup.starts = s.sup.starts) :
    SupervisorStarted s m.startOff (offHead s.mem) (hostMask s.mem) [] := by
  have entry : m.mem = s.mem := by rw [quiet]
  unfold State.startOff
  rw [entry]
  have sup := m.supervisorStart_sup (offHead s.mem) true
  have started := quiet.supervisorStart (off := true) (by rw [sup]) starts (by rw [sup, starts]) (by rw [sup, starts])
    (.self (m.supervisorStart (offHead s.mem) true))
  rwa [if_pos rfl] at started

theorem State.startOff_sup (s : State) : s.startOff.sup =
    { s.sup with starts := s.sup.starts + 1, awaiting := some (s.sup.starts + 1) } := State.supervisorStart_sup _ _ _

theorem State.forcedShutdown_hostFrame (s : State) : HostFrame s s.forcedShutdown := by
  unfold State.forcedShutdown
  split
  · exact .refl s
  · exact .refl s
  · dsimp only
    split
    · exact (State.setSup_hostFrame _ _).trans (State.supervisorStart_hostFrame _ _ _)
    · exact State.setSup_hostFrame _ _
  · exact State.enterShutting_hostFrame _ _ _ _

theorem State.forcedShutdown_down (s : State) : ForcedDown s s.forcedShutdown := by
  refine ⟨State.forcedShutdown_idle, fun shutting => ?_, fun off held shutting => ?_, s.forcedShutdown_hostFrame⟩
  · rw [State.forcedShutdown_shutting shutting]
    by_cases halting : s.sup.haltTimer.isSome = true
    · have some_ : s.sup.haltTimer ≠ none := Option.isSome_iff_ne_none.1 halting
      have started : SupervisorStarted s s.haltEnded.startOff (offHead s.mem) (hostMask s.mem) [] :=
        (s.setSup_quiet _).startOff rfl
      rw [if_pos halting, State.startOff_sup]
      exact ⟨shutting, rfl, rfl, rfl, fun none_ => absurd none_ some_, fun _ => started⟩
    · have none_ : s.sup.haltTimer = none := by simpa using halting
      rw [if_neg halting]
      exact ⟨shutting, rfl, rfl, rfl, fun _ => ⟨rfl, rfl⟩, fun some_ => absurd none_ some_⟩
  · rw [State.forcedShutdown_other off held shutting]
    obtain ⟨begun, wake, -, started⟩ := s.enterShutting_shutdown .off 0 none
    exact ⟨begun, wake, started rfl⟩

/-! ### The boot (R74, R75) -/

theorem bootEntry_ms (m : Memory) (stage : Nat) : bootEntry m stage * 1000 = max 1 (m.nat16 (0x1184 + 2 * stage)) * 100000 := by
  unfold bootEntry
  rw [atLeastOne_eq, Nat.mul_assoc]

theorem State.enterBooting_begun (s : State) : BootBegun s s.enterBooting := by
  refine ⟨rfl, rfl, rfl, rfl, rfl, ?_⟩
  exact congrArg (fun d => some (s.clock + d)) (bootEntry_ms s.mem 0)

end Sys2Proof.Machine
end

section
/-! SUPPORT. The supervisor's commands (R71 to R90) and the rail drops they follow (R50, R51, R59). -/

namespace Sys2Proof.Machine

open Sys2Proof Host

variable {s t : State}

/-! ### A supervisor start leaves the keypad and the chord and light unit alone -/

/-- What a supervisor start writes (R63, R66). -/
theorem State.supervisorStart_frame (s : State) (h : Fin 16) (off : Bool) : s.supervisorStart h off =
    (s.setSup { s.sup with starts := s.sup.starts + 1, awaiting := some (s.sup.starts + 1) }).onto (s.supervisorStart h off) := by
  have way := (local_clearWay h off).frame s
  have sup : (s.clearWay h off).sup = s.sup := by rw [way]; rfl
  have set := (local_setUp 0 h .supervisor (s.sup.starts + 1)).frame (s.clearWay h off).numberStart
  have eq : s.supervisorStart h off = (s.clearWay h off).numberStart.setUp 0 h .supervisor (s.sup.starts + 1) := by
    rw [State.supervisorStart_eq, sup]
  rw [← eq] at set
  generalize s.supervisorStart h off = t at set
  unfold State.numberStart at set
  rw [set, sup, way]
  rfl

theorem State.supervisorStart_keypad (s : State) (h : Fin 16) (off : Bool) : (s.supervisorStart h off).keypad = s.keypad := by
  rw [State.supervisorStart_frame]
  rfl

/-! ### Gate reports (R71) -/

/-- POWERING entered with the reservation taken (R71). -/
def State.reserved (s : State) : State := (s.setSup { s.sup with reservation := true }).enter .powering .none

theorem State.reserved_quiet (s : State) : Quiet s s.reserved := (State.setSup_quiet _ _).trans (State.enter_quiet _ _ _)

/-- The power-up head started from POWERING (R71). -/
def State.powerHead (s : State) : State := s.reserved.supervisorStart (powerUpHead s.mem) false

theorem State.powerUp_eq (s : State) : s.powerUp = s.powerHead.setSup { s.powerHead.sup with stageReached := none } := rfl

theorem State.powerHead_sup (s : State) : s.powerHead.sup =
    { s.reserved.sup with starts := s.sup.starts + 1, awaiting := some (s.sup.starts + 1) } :=
  s.reserved.supervisorStart_sup (powerUpHead s.mem) false

theorem State.powerUp_hostFrame (s : State) : HostFrame s s.powerUp := by
  rw [State.powerUp_eq]
  refine .trans ?_ (State.setSup_hostFrame _ _)
  exact (State.setSup_hostFrame s _).trans ((State.enter_hostFrame _ _ _).trans (State.supervisorStart_hostFrame _ _ _))

theorem State.powerUp_published (s : State) : s.powerUp.keypad.published = .powering := by
  have keypad : s.powerUp.keypad = s.powerHead.keypad := by rw [State.powerUp_eq]; rfl
  rw [keypad, State.powerHead, State.supervisorStart_keypad]
  rfl

theorem State.powerUp_chords (s : State) :
    s.powerUp.chords.published = .powering ∧ s.powerUp.chords.forcedOffTimer = none := by
  have chords : s.powerUp.chords = s.powerHead.chords := by rw [State.powerUp_eq]; rfl
  have entered : s.reserved.chords = s.chords.takePublication s.clock .powering .none := rfl
  rw [chords, State.powerHead, State.supervisorStart_chords, entered, ChordUnit.takePublication_eq]
  exact ⟨rfl, rfl⟩

/-- The supervisor in POWERING (R71), entered from WARMING. -/
theorem State.powerUp_sup (warming : s.sup.state = .warming) : s.powerUp.sup =
    { s.sup with
      reservation := true, state := .powering, sub := .none, stageReached := none
      starts := s.sup.starts + 1, awaiting := some (s.sup.starts + 1) } := by
  rw [State.powerUp_eq, State.powerHead_sup]
  have entered : s.reserved.sup =
      { s.sup with reservation := true, state := .powering, sub := .none, awaiting := none } := by
    unfold State.reserved
    rw [State.enter_sup]
    unfold Sup.entered State.setSup
    simp [warming]
  rw [entered]
  rfl

theorem State.powerUp_started (s : State) : SupervisorStarted s s.powerUp (powerUpHead s.mem) 0 [] := by
  have follows : Follows s.powerHead s.powerUp [] := (Follows.self s.powerUp).of_setSup
  have counted : s.powerUp.sup.starts = s.sup.starts + 1 := by rw [State.powerUp_eq, State.powerHead_sup]; rfl
  have awaits : s.powerUp.sup.awaiting = some (s.sup.starts + 1) := by rw [State.powerUp_eq, State.powerHead_sup]; rfl
  have state : s.powerUp.sup.state = s.reserved.sup.state := by rw [State.powerUp_eq, State.powerHead_sup]; rfl
  have started := s.reserved_quiet.supervisorStart state rfl counted awaits follows
  rwa [if_neg Bool.false_ne_true] at started

/-- A gate report by whether it counts (R71). -/
theorem exec_gateReport (gate : GateState) (rearm : Bool) (s : State) : exec (.gateReport gate rearm) s = .next
    (if s.sup.state = .warming ∧ (s.sup.gateWait = false ∨ rearm = true) then
      let m := (s.taking (.gateReport gate rearm)).setSup { s.sup with gateWait := false }
      if gate = .opened then m.powerUp else m
    else s.taking (.gateReport gate rearm)) := by
  have unfolded : exec (.gateReport gate rearm) s = execGateReport gate rearm s := rfl
  rw [unfolded]
  unfold execGateReport
  by_cases warming : s.sup.state = .warming
  · by_cases held : s.sup.gateWait = false ∨ rearm = true
    · have counts : (s.sup.gateWait && !rearm) = false := by
        rcases held with mark | mark <;> simp [mark]
      simp [warming, held, counts]
    · have ignored : s.sup.gateWait = true ∧ rearm = false := by simpa using held
      simp [warming, ignored]
  · simp [warming]

/-! ### Requests of the desk (R78, R85 to R87) -/

theorem exec_restartHost (slot : Fin 8) (rung : Word) (s : State) : exec (.restartHost slot rung) s = .next
    (match s.sup.restartRefusal rung.toNat with
      | some code => (s.taking (.restartHost slot rung)).answer slot code
      | none => ((s.taking (.restartHost slot rung)).answer slot .done { w0 := rung }).requestedRestart
          ⟨min rung.toNat 5, by omega⟩ .request .request) := by
  have unfolded : exec (.restartHost slot rung) s = execRestartHost slot rung s := rfl
  rw [unfolded]
  unfold execRestartHost
  dsimp only
  rw [State.taking_sup]
  cases s.sup.restartRefusal rung.toNat <;> rfl

theorem exec_shutDownHost (slot : Fin 8) (halt target wake : Word) (s : State) :
    exec (.shutDownHost slot halt target wake) s = .next
    (let base := s.taking (.shutDownHost slot halt target wake)
      if 600 < halt.toNat ∨ 1 < target.toNat ∨ 10080 < wake.toNat then base.answer slot .badArgument
      else if ¬ (s.sup.state = .booting ∨ s.sup.state = .running) then base.answer slot .wrongState
      else (base.answer slot .done).enterShutting (if target = 0#16 then .off else .heldByRequest) halt.toNat
        (if target = 0#16 then some wake.toNat else none)) := by
  have unfolded : exec (.shutDownHost slot halt target wake) s = execShutDownHost slot halt target wake s := rfl
  rw [unfolded]
  unfold execShutDownHost
  by_cases bad : 600 < halt.toNat ∨ 1 < target.toNat ∨ 10080 < wake.toNat
  · rw [if_pos bad, if_pos bad]
  · rw [if_neg bad, if_neg bad]
    by_cases allowed : s.sup.state = .booting ∨ s.sup.state = .running
    · rw [if_neg (not_not_intro allowed)]
      by_cases off : target = 0#16 <;> rcases allowed with state | state <;> simp [off, state]
    · rw [if_pos allowed]
      simp [not_or.1 allowed]

/-! ### The heartbeat (R76 to R78) -/

/-- The heartbeat timer as it starts now, or stopped for a timeout of 0 (R77). -/
def State.freshHeartbeat (s : State) : Option Nat :=
  if heartbeatTimeout s.mem = 0 then none else some (s.clock + heartbeatTimeout s.mem * 1000000)

theorem State.startHeartbeat_eq (s : State) :
    s.startHeartbeat = s.setSup { s.sup with heartbeatTimer := s.freshHeartbeat } := by
  unfold State.startHeartbeat State.freshHeartbeat State.timer State.inMs secs
  simp only [Nat.mul_assoc]

/-- The supervisor after an entry into WATCHING, from RUNNING (R77). -/
theorem State.enterWatching_sup (running : s.sup.state = .running) : s.enterWatching.sup =
    { s.sup with sub := .watching, awaiting := none, heartbeatTimer := s.freshHeartbeat } := by
  unfold State.enterWatching
  rw [State.startHeartbeat_eq]
  have entered : (s.enter .running .watching).sup = { s.sup with sub := .watching, awaiting := none } := by
    rw [State.enter_sup]
    unfold Sup.entered
    simp [running]
  rw [entered]
  rfl

theorem State.enterWatching_quiet (s : State) : Quiet s s.enterWatching := by
  unfold State.enterWatching
  rw [State.startHeartbeat_eq]
  exact (State.enter_quiet _ _ _).trans (State.setSup_quiet _ _)

section
variable {v : DWord}

/-- The supervisor with a kick taken (R76). -/
def State.kicked (s : State) (v : DWord) : State := s.setSup { s.sup with heartbeatCopy := v, lastKick := s.uptime }

/-- LATE ended by a kick (R77). -/
def State.lateEnded (s : State) (v : DWord) : State :=
  (((s.kicked v).count .kicks).setSup { (s.kicked v).sup with graceTimer := none }).count .lateRecovered

theorem State.takeHeartbeat_same (same : s.sup.heartbeatCopy = v) : s.takeHeartbeat v = s := if_pos same

theorem State.takeHeartbeat_other (other : s.sup.heartbeatCopy ≠ v) : s.takeHeartbeat v =
    (match s.sup.state with
    | .running =>
      match s.sup.sub with
      | .late => (((s.kicked v).count .kicks).setSup { (s.kicked v).sup with graceTimer := none }
          |>.count .lateRecovered).enterWatching
      | .paused => (s.kicked v).count .kicks
      | _ => ((s.kicked v).count .kicks).startHeartbeat
    | .restarting | .shutting => (s.kicked v).count .lateKicks
    | _ => s.kicked v) := by
  unfold State.takeHeartbeat
  rw [if_neg other]
  rfl

theorem State.takeHeartbeat_watching (other : s.sup.heartbeatCopy ≠ v) (running : s.sup.state = .running)
    (watching : s.sup.sub = .watching) :
    s.takeHeartbeat v = ((s.kicked v).count .kicks).setSup { (s.kicked v).sup with heartbeatTimer := s.freshHeartbeat } := by
  rw [State.takeHeartbeat_other other, running, watching]
  exact State.startHeartbeat_eq _

theorem State.takeHeartbeat_late (other : s.sup.heartbeatCopy ≠ v) (running : s.sup.state = .running)
    (late : s.sup.sub = .late) : s.takeHeartbeat v =
      (s.lateEnded v).enterWatching := by
  rw [State.takeHeartbeat_other other, running, late]
  rfl

/-- WATCHING again after LATE (R77): the events sent, the supervisor, and what has moved. -/
theorem State.lateEnded_watching (running : s.sup.state = .running) :
    let t := (s.lateEnded v).enterWatching
    t.transit = s.transit ++ [.counterIncrement .kicks, .counterIncrement .lateRecovered] ∧
      t.sup = { s.sup with
        heartbeatCopy := v, lastKick := s.uptime, sub := .watching, graceTimer := none
        heartbeatTimer := s.freshHeartbeat, awaiting := none } ∧
      t = { s with transit := t.transit, sup := t.sup, keypad := t.keypad, chords := t.chords, shown := t.shown } := by
  dsimp only
  have quiet := (s.lateEnded v).enterWatching_quiet
  refine ⟨?_, State.enterWatching_sup running, ?_⟩
  · rw [quiet]
    exact (List.append_assoc ..)
  · generalize (s.lateEnded v).enterWatching = t at quiet
    rw [quiet]
    rfl

theorem State.takeHeartbeat_paused (other : s.sup.heartbeatCopy ≠ v) (running : s.sup.state = .running)
    (paused : s.sup.sub = .paused) : s.takeHeartbeat v = (s.kicked v).count .kicks := by
  rw [State.takeHeartbeat_other other, running, paused]

theorem State.takeHeartbeat_lateKick (other : s.sup.heartbeatCopy ≠ v)
    (ending : s.sup.state = .restarting ∨ s.sup.state = .shutting) : s.takeHeartbeat v = (s.kicked v).count .lateKicks := by
  rw [State.takeHeartbeat_other other]
  rcases ending with state | state <;> rw [state]

theorem State.takeHeartbeat_elsewhere (other : s.sup.heartbeatCopy ≠ v) (running : s.sup.state ≠ .running)
    (restarting : s.sup.state ≠ .restarting) (shutting : s.sup.state ≠ .shutting) : s.takeHeartbeat v = s.kicked v := by
  rw [State.takeHeartbeat_other other]
  split
  · contradiction
  · contradiction
  · contradiction
  · rfl

end

/-- PAUSE HEARTBEAT answered DONE (R78, R148). -/
def State.pauseDone (s : State) (slot : Fin 8) (seconds : Word) : State :=
  (s.taking (.pauseHeartbeat slot seconds)).answer slot .done

theorem exec_pauseHeartbeat (slot : Fin 8) (seconds : Word) (s : State) : exec (.pauseHeartbeat slot seconds) s = .next
    (let base := s.taking (.pauseHeartbeat slot seconds)
      let m := s.pauseDone slot seconds
      if 3600 < seconds.toNat then base.answer slot .badArgument
      else if s.sup.state ≠ .running then base.answer slot .wrongState
      else if 0 < seconds.toNat then
        let m := m.setSup { s.sup with
          heartbeatTimer := none, graceTimer := none, pauseTimer := some (s.clock + seconds.toNat * 1000000) }
        if s.sup.sub = .paused then m else m.enter .running .paused
      else if s.sup.sub = .paused then (m.setSup { s.sup with pauseTimer := none }).enterWatching
      else m) := by
  have unfolded : exec (.pauseHeartbeat slot seconds) s = execPauseHeartbeat slot seconds s := rfl
  have timer : ((s.taking (.pauseHeartbeat slot seconds)).answer slot .done).timer (secs seconds.toNat) =
      some (s.clock + seconds.toNat * 1000000) := by
    unfold State.timer State.inMs secs
    rw [Nat.mul_assoc]
    rfl
  rw [unfolded]
  unfold execPauseHeartbeat State.pauseDone
  dsimp only
  rw [timer]
  simp only [apply_ite Outcome.next]
  rfl

/-- LATE entered at the heartbeat timer's expiry (R77). -/
def State.lateEntered (s : State) (due : Nat) : State :=
  ((s.reachTime due).setSup { s.sup with heartbeatTimer := none }).enter .running .late

/-- LATE counted and reported, its mark asked for (R77). -/
def State.lateTold (s : State) (due : Nat) : State :=
  let m := s.lateEntered due
  ((m.count .heartbeatLate).report .heartbeatLate 0 true 0
    { w0 := m.sup.heartbeatCopy, w1 := m.uptime - m.sup.lastKick }).mark .heartbeat

theorem exec_heartbeatTimerExpiry {due : Nat} (timer : s.sup.heartbeatTimer = some due) : exec .heartbeatTimerExpiry s = .next
    (let m := s.lateTold due
      if graceTime s.mem = 0 then m.ladderCause .heartbeat 0
      else m.setSup { m.sup with graceTimer := some (max s.clock due + graceTime s.mem * 1000000) }) := by
  have unfolded : exec .heartbeatTimerExpiry s = execHeartbeatTimerExpiry s := rfl
  have grace : (s.lateTold due).timer (secs (graceTime s.mem)) = some (max s.clock due + graceTime s.mem * 1000000) := by
    unfold State.timer State.inMs secs
    rw [Nat.mul_assoc]
    rfl
  rw [unfolded]
  unfold execHeartbeatTimerExpiry
  rw [timer]
  dsimp only
  rw [← grace, apply_ite Outcome.next]
  rfl

/-- The supervisor in LATE (R77). -/
theorem State.lateEntered_sup (running : s.sup.state = .running) (due : Nat) : (s.lateEntered due).sup =
    { s.sup with heartbeatTimer := none, sub := .late, awaiting := none } := by
  unfold State.lateEntered
  rw [State.enter_sup]
  unfold Sup.entered
  simp [running]

/-- The state once LATE is told, field by field (R77). -/
theorem State.lateTold_eq (running : s.sup.state = .running) (due : Nat) :
    let now := ({ s with clock := max s.clock due } : State).uptime
    s.lateTold due = { s with
      clock := max s.clock due
      transit := s.transit ++ [.counterIncrement .heartbeatLate,
        posting now .heartbeatLate 0 true 0 { w0 := s.sup.heartbeatCopy, w1 := now - s.sup.lastKick },
        .noticeMarkSet .heartbeat]
      sup := { s.sup with heartbeatTimer := none, sub := .late, awaiting := none }
      keypad := { s.keypad with published := .running }
      chords := { s.chords with published := .running, publishedSub := .late }
      shown := { s.shown with chords := (s.lateTold due).shown.chords } } := by
  have sup := State.lateEntered_sup running due
  have chords : (s.lateEntered due).chords = { s.chords with published := .running, publishedSub := .late } := by
    have taken : (s.lateEntered due).chords = s.chords.takePublication (max s.clock due) .running .late := rfl
    rw [taken, ChordUnit.takePublication_eq]
    rfl
  have whole : s.lateEntered due = { s with
      clock := max s.clock due, sup := (s.lateEntered due).sup, keypad := { s.keypad with published := .running }
      chords := (s.lateEntered due).chords, shown := { s.shown with chords := (s.lateEntered due).shown.chords } } := rfl
  have told : s.lateTold due = { s.lateEntered due with
      transit := (((s.lateEntered due).transit ++ [.counterIncrement .heartbeatLate]) ++
        [posting (s.lateEntered due).uptime .heartbeatLate 0 true 0
          { w0 := (s.lateEntered due).sup.heartbeatCopy
            w1 := (s.lateEntered due).uptime - (s.lateEntered due).sup.lastKick }]) ++ [.noticeMarkSet .heartbeat] } := rfl
  rw [List.append_assoc, List.append_assoc] at told
  dsimp only
  rw [sup, chords] at whole
  generalize s.lateEntered due = m at whole told
  rw [told, whole]
  rfl

/-! ### Checkpoints (R75) -/

section
variable {v : Byte}

/-- The checkpoint copy taken (R75). -/
def State.checked (s : State) (v : Byte) : State := s.setSup { s.sup with checkpointCopy := some v }

theorem State.takeCheckpoint_same (same : s.sup.checkpointCopy = some v) : s.takeCheckpoint v = s := if_pos same

theorem State.takeCheckpoint_elsewhere (other : s.sup.checkpointCopy ≠ some v) (booting : s.sup.state ≠ .booting) :
    s.takeCheckpoint v = s.checked v := (if_neg other).trans (if_pos booting)

theorem State.takeCheckpoint_ignored (other : s.sup.checkpointCopy ≠ some v) (booting : s.sup.state = .booting)
    (below : ¬ (s.sup.bootStage < v.toNat ∧ v.toNat ≤ 15)) :
    s.takeCheckpoint v = (s.checked v).count .checkpointsIgnored :=
  (if_neg other).trans ((if_neg (not_not_intro booting)).trans (if_neg below))

/-- The boot stage advanced with a fresh deadline (R75). -/
def State.advanced (s : State) (v : Byte) : State :=
  s.setSup { s.sup with
    checkpointCopy := some v, bootStage := v.toNat, stageReached := some v.toNat
    stageTimer := some (s.clock + max 1 (s.mem.nat16 (0x1184 + 2 * v.toNat)) * 100000) }

theorem State.takeCheckpoint_up (other : s.sup.checkpointCopy ≠ some v) (booting : s.sup.state = .booting)
    (up : s.sup.bootStage < v.toNat ∧ v.toNat ≤ 15) :
    s.takeCheckpoint v = if v.toNat = 15 then (s.advanced v).enterRunning else s.advanced v := by
  unfold State.advanced
  rw [← bootEntry_ms]
  exact (if_neg other).trans ((if_neg (not_not_intro booting)).trans (if_pos up))

/-- The supervisor after an entry into RUNNING, from BOOTING (R75, R77, R79). -/
theorem State.enterRunning_sup (booting : s.sup.state = .booting) : s.enterRunning.sup = { s.sup with
    state := .running, sub := .watching, awaiting := none, stageTimer := none, lastKick := s.uptime
    heartbeatTimer := s.freshHeartbeat, settleTimer := some (s.clock + settleTime s.mem * 60000000) } := by
  have entered : (s.enter .running .watching).sup =
      { s.sup with state := .running, sub := .watching, awaiting := none, stageTimer := none } := by
    rw [State.enter_sup]
    unfold Sup.entered
    simp [booting]
  have settle : (s.enterWatching).timer (mins (settleTime s.mem)) = some (s.clock + settleTime s.mem * 60000000) := by
    unfold State.timer State.inMs mins
    rw [Nat.mul_assoc]
    rfl
  have running : s.enterRunning = s.enterWatching.setSup { s.enterWatching.sup with
      lastKick := s.uptime, settleTimer := s.enterWatching.timer (mins (settleTime s.mem)) } := rfl
  have watching : s.enterWatching.sup = { s.sup with
      state := .running, sub := .watching, awaiting := none, stageTimer := none, heartbeatTimer := s.freshHeartbeat } := by
    unfold State.enterWatching
    rw [State.startHeartbeat_eq, entered]
    rfl
  rw [running, settle, watching]
  rfl

theorem State.enterRunning_published (s : State) : s.enterRunning.chords.published = .running := by
  have chords : s.enterRunning.chords = s.chords.takePublication s.clock .running .watching := by
    unfold State.enterRunning State.enterWatching
    rw [State.startHeartbeat_eq]
    rfl
  rw [chords, ChordUnit.takePublication_eq]

theorem State.enterRunning_quiet (s : State) : Quiet s s.enterRunning := s.enterWatching_quiet.trans (State.setSup_quiet _ _)

end

/-- An event just sent and taken leaves the state as it was. -/
theorem State.taking_front (s : State) (i : Instr) : ({ s with transit := i :: s.transit } : State).taking i = s := by
  unfold State.taking
  simp only [List.erase_cons_head]

end Sys2Proof.Machine

namespace Sys2Proof.Settled

open Sys2Proof Sys2Proof.Machine Host

/-- Settles O26: the supervisor enters POWERING and starts the power-up head as the rule tells, or only clears its mark. -/
theorem gateReport : Obligations.GateReport := by
  unfold Obligations.GateReport
  intro gate rearm s
  refine ⟨_, exec_gateReport gate rearm s, ?_⟩
  dsimp only
  refine ⟨fun not => if_neg not, fun counts closed => ?_, fun counts opened => ?_⟩
  · rw [if_pos counts, if_neg closed]
    rfl
  · rw [if_pos counts, if_pos opened]
    have started := State.powerUp_started ((s.taking (.gateReport gate rearm)).setSup { s.sup with gateWait := false })
    obtain ⟨published, stopped⟩ :=
      State.powerUp_chords ((s.taking (.gateReport gate rearm)).setSup { s.sup with gateWait := false })
    have shown := State.powerUp_published ((s.taking (.gateReport gate rearm)).setSup { s.sup with gateWait := false })
    have frame := (State.setSup_hostFrame (s.taking (.gateReport gate rearm)) { s.sup with gateWait := false }).trans
      (State.powerUp_hostFrame _)
    refine ⟨started, State.powerUp_sup counts.1, shown, published, stopped, ?_⟩
    have whole := frame.whole
    rwa [shown] at whole

/-- Settles O33: the refusals in their order, and a requested restart as the ladder tells it. -/
theorem restartHost : Obligations.RestartHost := by
  unfold Obligations.RestartHost
  intro slot rung s few
  refine ⟨_, exec_restartHost slot rung s, ?_⟩
  dsimp only
  refine ⟨fun beyond => ?_, fun within idle => ?_, fun within busy r named => ?_⟩
  · rw [Sup.restartRefusal_argument beyond]
    rfl
  · rw [Sup.restartRefusal_state (by omega) idle]
    rfl
  · rw [Sup.restartRefusal_none (by omega) busy]
    have rung_eq : (⟨min rung.toNat 5, by omega⟩ : Fin 6) = r := Fin.ext (by dsimp only; omega)
    dsimp only
    rw [rung_eq]
    obtain ⟨begun, recorded, at_, attempts, ladder, frame⟩ := State.requestedRestart_begun
      ((s.taking (.restartHost slot rung)).answer slot .done { w0 := rung }) r .request .request
    exact ⟨begun, recorded, frame, at_, attempts, ladder,
      frame.mem_transit (List.mem_append_right _ (List.mem_singleton_self _))⟩

/-- Settles O34: the refusals in their order, and the shutdown begun with its halt delay or at once. -/
theorem shutDownHost : Obligations.ShutDownHost := by
  unfold Obligations.ShutDownHost
  intro slot halt target wake s
  refine ⟨_, exec_shutDownHost slot halt target wake s, ?_⟩
  dsimp only
  refine ⟨fun bad => ?_, fun fine idle => ?_, fun fine allowed => ?_⟩
  · rw [if_pos bad]
    rfl
  · rw [if_neg fine, if_pos idle]
    rfl
  · rw [if_neg fine, if_neg (not_not_intro allowed)]
    obtain ⟨begun, kept, delayed, atOnce⟩ := State.enterShutting_shutdown
      ((s.taking (.shutDownHost slot halt target wake)).answer slot .done) (if target = 0#16 then .off else .heldByRequest)
      halt.toNat (if target = 0#16 then some wake.toNat else none)
    exact ⟨State.enterShutting_hostFrame _ _ _ _, begun, kept, delayed, atOnce⟩

/-- Settles O29: the cases of a checkpoint, and a heartbeat beside it taken as a kick of its own. -/
theorem bootCheckpoints : Obligations.BootCheckpoints := by
  unfold Obligations.BootCheckpoints
  intro v s
  refine ⟨fun w => ⟨(s.taking (.checkpoint v (some w))).takeCheckpoint v, _, rfl, ?_, ?_⟩, _, rfl, ?_⟩
  · have front := (s.taking (.checkpoint v (some w))).taking_front (.checkpoint v none)
    exact congrArg (fun m => Outcome.next (m.takeCheckpoint v)) front
  · have front := ((s.taking (.checkpoint v (some w))).takeCheckpoint v).taking_front (.heartbeatKick w)
    exact congrArg (fun m => Outcome.next (m.takeHeartbeat w)) front
  dsimp only
  refine ⟨fun same => State.takeCheckpoint_same same, fun other => ⟨fun elsewhere => ?_, fun booting below => ?_,
    fun booting up inner => ?_, fun booting up last => ?_⟩⟩
  · exact State.takeCheckpoint_elsewhere other elsewhere
  · exact State.takeCheckpoint_ignored other booting below
  · rw [State.takeCheckpoint_up (s := s.taking (.checkpoint v none)) other booting up, if_neg (by omega)]
    rfl
  · have taken (i : Instr) : (s.taking i).takeCheckpoint v = ((s.taking i).advanced v).enterRunning :=
      (State.takeCheckpoint_up (s := s.taking i) other booting up).trans (if_pos last)
    have sup (i : Instr) := State.enterRunning_sup (s := (s.taking i).advanced v) booting
    rw [taken]
    refine ⟨?_, rfl, ?_, ?_, fun w fresh => ⟨_, rfl, ?_⟩⟩
    · rw [((s.taking (.checkpoint v none)).advanced v).enterRunning_quiet]
      rfl
    · exact State.enterRunning_published _
    · rw [sup]
      unfold State.advanced
      rw [last]
      rfl
    · have beside := sup (.checkpoint v (some w))
      rw [taken, State.takeHeartbeat_watching (by rw [beside]; exact fresh) (by rw [beside])
        (by rw [beside])]
      refine ⟨?_, rfl, List.mem_append_right _ (List.mem_singleton_self _)⟩
      exact congrArg Sup.state beside

/-- Settles O31: the refusals, and the rule's table by the seconds and the substate. -/
theorem pauseHeartbeat : Obligations.PauseHeartbeat := by
  unfold Obligations.PauseHeartbeat
  intro slot seconds s
  refine ⟨_, exec_pauseHeartbeat slot seconds s, ?_⟩
  dsimp only
  refine ⟨fun long => ?_, fun short other => ?_, fun short running => ?_⟩
  · rw [if_pos long]
    rfl
  · rw [if_neg (by omega), if_pos other]
    rfl
  rw [if_neg (by omega), if_neg (not_not_intro running)]
  by_cases some_ : 0 < seconds.toNat
  · rw [if_pos some_]
    by_cases paused : s.sup.sub = .paused
    · rw [if_pos paused]
      exact ⟨rfl, fun _ => ⟨paused, rfl, rfl, rfl, rfl⟩, fun none_ => by omega, fun none_ => by omega, rfl⟩
    · rw [if_neg paused]
      refine ⟨rfl, fun _ => ⟨rfl, rfl, rfl, rfl, ?_⟩, fun none_ => by omega, fun none_ => by omega, rfl⟩
      exact if_neg fun both => both.2 rfl
  · rw [if_neg some_]
    by_cases paused : s.sup.sub = .paused
    · rw [if_pos paused]
      have sup := State.enterWatching_sup (s := (s.pauseDone slot seconds).setSup
        { s.sup with pauseTimer := none }) running
      have quiet := ((s.pauseDone slot seconds).setSup_quiet { s.sup with pauseTimer := none }).trans
        (State.enterWatching_quiet _)
      refine ⟨?_, fun many => absurd many some_, fun _ other => absurd paused other, fun _ _ => ?_, ?_⟩
      · rw [quiet]
        rfl
      · rw [sup]
        exact ⟨rfl, rfl, rfl⟩
      · conv_lhs => rw [quiet]
        rw [quiet]
        rfl
    · rw [if_neg paused]
      exact ⟨rfl, fun many => absurd many some_, fun _ _ => rfl, fun _ also => absurd also paused, rfl⟩

/-- Settles O30: a kick by the state and substate it is taken in, and the heartbeat deadline with and without a grace. -/
theorem heartbeatWatch : Obligations.HeartbeatWatch := by
  unfold Obligations.HeartbeatWatch
  refine ⟨fun v s => ⟨_, rfl, ?_⟩, fun s due timer running => ?_⟩
  · dsimp only
    refine ⟨fun same => State.takeHeartbeat_same same, fun other => ⟨fun running watching => ?_, fun running late => ?_,
      fun running paused => ?_, fun ending => ?_, fun running restarting shutting => ?_⟩⟩
    · exact State.takeHeartbeat_watching other running watching
    · rw [State.takeHeartbeat_late (s := s.taking (.heartbeatKick v)) other running late]
      exact State.lateEnded_watching running
    · exact State.takeHeartbeat_paused other running paused
    · exact State.takeHeartbeat_lateKick other ending
    · exact State.takeHeartbeat_elsewhere other running restarting shutting
  · refine ⟨_, exec_heartbeatTimerExpiry timer, ?_⟩
    have told := State.lateTold_eq running due
    dsimp only at told ⊢
    refine ⟨fun some_ => ?_, fun none_ => ?_⟩
    · rw [if_neg (by omega), told]
      exact ⟨rfl, rfl, rfl, rfl⟩
    · rw [if_pos none_]
      exact ⟨s.lateTold due, State.ladderCause_taken _ _ _, told⟩

end Sys2Proof.Settled
end

section
/-! SUPPORT. The supervisor's timers, channel 0's outcome, the forced-off timer, and rail drops (R51, R70 to R90, R115). -/

namespace Sys2Proof.Machine

open Sys2Proof Host

variable {s t : State} {due : Nat}

/-! ### Timers (R70, R78, R79, R83, R87 to R89) -/

/-- A start order takes the gate's re-arm, the supervisor and what the state publishes, and nothing else (R70). -/
theorem State.startOrder_still (s : State) : s.startOrder.transit = s.transit ++ [.gateRearm] ∧
    s.startOrder.channels = s.channels ∧ s.startOrder.rails = s.rails ∧ s.startOrder.lines = s.lines ∧
    s.startOrder.link = s.link := ⟨rfl, rfl, rfl, rfl, rfl⟩

theorem StartOrdered.of_mem {m : State} (h : StartOrdered m t) (mem : m.mem = s.mem) : StartOrdered s t := by
  unfold StartOrdered at *
  rwa [mem] at h

/-- A start order from a supervisor u (R70). -/
theorem State.startOrder_setSup (s : State) (u : Sup) :
    let t := (s.setSup u).startOrder
    StartOrdered s t ∧ t.transit = s.transit ++ [.gateRearm] ∧ HostFrame s t ∧ t.channels = s.channels ∧ t.rails = s.rails ∧
      t.lines = s.lines ∧ t.link = s.link := by
  obtain ⟨sent, channels, rails, lines, link⟩ := (s.setSup u).startOrder_still
  exact ⟨(s.setSup u).startOrder_ordered.of_mem rfl, sent, (s.setSup_hostFrame u).trans (s.setSup u).startOrder_hostFrame,
    channels, rails, lines, link⟩

/-- The supervisor after a start order taken in OFF or HELD (R70). -/
theorem State.startOrder_idle (idle : s.sup.state = .off ∨ s.sup.state = .held) : s.startOrder.sup = { s.sup with
    state := .warming, sub := .none, gateWait := true, wakeTimer := none, heldRetryTimer := none, awaiting := none } := by
  rw [State.startOrder_sup]
  unfold Sup.entered
  rcases idle with state | state <;> simp [state]

theorem exec_wakeTimerExpiry (timer : s.sup.wakeTimer = some due) (off : s.sup.state = .off) :
    exec .wakeTimerExpiry s = .next ((s.reachTime due).setSup { s.sup with wakeTimer := none }).startOrder := by
  have unfolded : exec .wakeTimerExpiry s = execWakeTimerExpiry s := rfl
  rw [unfolded]
  unfold execWakeTimerExpiry
  rw [timer]
  exact congrArg Outcome.next (if_pos off)

theorem exec_heldRetryExpiry (timer : s.sup.heldRetryTimer = some due) (held : s.sup.state = .held) :
    exec .heldRetryExpiry s = .next ((s.reachTime due).setSup
      { s.sup with heldRetryTimer := none, ladder := ladderOf s.mem, rung := 0, attempts := 0 }).startOrder := by
  have unfolded : exec .heldRetryExpiry s = execHeldRetryExpiry s := rfl
  rw [unfolded]
  unfold execHeldRetryExpiry
  rw [timer]
  exact congrArg (fun r => Outcome.next r.1)
    (State.releaseHold_held (s := (s.reachTime due).setSup { s.sup with heldRetryTimer := none }) held)

theorem exec_pauseTimerExpiry (timer : s.sup.pauseTimer = some due) : exec .pauseTimerExpiry s =
    .next ((s.reachTime due).setSup { s.sup with pauseTimer := none }).enterWatching := by
  have unfolded : exec .pauseTimerExpiry s = execPauseTimerExpiry s := rfl
  rw [unfolded]
  unfold execPauseTimerExpiry
  rw [timer]
  rfl

theorem exec_settleExpiry (timer : s.sup.settleTimer = some due) : exec .settleExpiry s = .next ((s.reachTime due).setSup
    { s.sup with settleTimer := none, ladder := ladderOf s.mem, rung := 0, attempts := 0 }) := by
  have unfolded : exec .settleExpiry s = execSettleExpiry s := rfl
  rw [unfolded]
  unfold execSettleExpiry
  rw [timer]
  rfl

theorem exec_holdOffExpiry {r : Restart} (timer : s.sup.holdOffTimer = some due) (restart : s.sup.restart = some r) :
    exec .holdOffExpiry s = .next (((s.reachTime due).setSup { s.sup with holdOffTimer := none }).enterSequence r) := by
  have unfolded : exec .holdOffExpiry s = execHoldOffExpiry s := rfl
  rw [unfolded]
  unfold execHoldOffExpiry
  rw [timer, restart]
  rfl

theorem exec_haltDelayExpiry (timer : s.sup.haltTimer = some due) : exec .haltDelayExpiry s =
    .next ((s.reachTime due).setSup { s.sup with haltTimer := none }).startOff := by
  have unfolded : exec .haltDelayExpiry s = execHaltDelayExpiry s := rfl
  rw [unfolded]
  unfold execHaltDelayExpiry
  rw [timer]
  rfl

/-- The supervisor in SEQUENCE, entered from HOLD OFF (R83). -/
theorem State.enterSequence_held (r : Restart) (restarting : s.sup.state = .restarting) : (s.enterSequence r).sup = { s.sup with
    sub := .sequence, restart := some { r with mode := some (rungMode s.mem r.rung) }
    starts := s.sup.starts + 1, awaiting := some (s.sup.starts + 1) } := by
  rw [State.enterSequence_sup]
  unfold Sup.entered
  simp [restarting]

/-- WATCHING entered from a supervisor u (R77). -/
theorem State.enterWatching_hostFrame (s : State) (u : Sup) : HostFrame s (s.setSup u).enterWatching := by
  unfold State.enterWatching
  rw [State.startHeartbeat_eq]
  exact (s.setSup_hostFrame u).trans ((State.enter_hostFrame _ _ _).trans (State.setSup_hostFrame _ _))

/-- A rung's head started from a state in which entries alone have happened since s (R83). -/
theorem Quiet.enterSequence {m : State} (quiet : Quiet s m) (r : Restart) (starts : m.sup.starts = s.sup.starts) :
    SupervisorStarted s (m.enterSequence r) (rungHead s.mem r.rung)
      (if rungMode s.mem r.rung = .rewarm then hostMask s.mem else 0) [] := by
  have entry : m.mem = s.mem := by rw [quiet]
  have sup := m.enterSequence_sup r
  have follows := Follows.self (m.enterSequence r)
  generalize ht : m.enterSequence r = t at sup follows
  have state : t.sup.state = (m.sequenced r).sup.state := by rw [sup]; rfl
  have counted : t.sup.starts = s.sup.starts + 1 := by rw [sup, ← starts]
  have awaits : t.sup.awaiting = some (s.sup.starts + 1) := by rw [sup, ← starts]
  have started := (quiet.trans (m.sequenced_quiet r)).supervisorStart state starts counted awaits
    (h := rungHead s.mem r.rung) (off := decide (rungMode s.mem r.rung = .rewarm)) (after := [])
    (by rw [← entry, ← State.enterSequence_eq, ht]; exact follows)
  simpa only [decide_eq_true_eq] using started

/-! ### Channel 0's outcome (R66, R73, R84, R87) -/

section
variable {start : Nat} {fault : Option FaultCode}

/-- The awaited outcome taken: it is awaited no longer (R66). -/
def State.outcomeTaken (s : State) (start : Nat) (fault : Option FaultCode) : State :=
  (s.taking (.channel0Outcome start fault)).setSup { s.sup with awaiting := none }

theorem exec_channel0Outcome_other (awaited : s.sup.awaiting ≠ some start) :
    exec (.channel0Outcome start fault) s = .next (s.taking (.channel0Outcome start fault)) := if_pos awaited

/-- An awaited outcome by the state it is taken in. -/
theorem exec_channel0Outcome_awaited (awaited : s.sup.awaiting = some start) :
    exec (.channel0Outcome start fault) s =
      let m := s.outcomeTaken start fault
      match m.sup.state with
      | .powering => .next (if fault.isNone then m.enterBooting else m.ladderCause .powerFault 0)
      | .restarting =>
        match m.sup.restart.bind Restart.mode with
        | some .rewarm => .next m.rewarm
        | _ => .next (if fault.isNone then m.enterBooting else m.ladderCause .powerFault 0)
      | .shutting => .next m.shutDone
      | _ => .next m :=
  if_neg (not_not_intro awaited)

theorem State.outcomeTaken_state (s : State) : (s.outcomeTaken start fault).sup.state = s.sup.state := rfl

theorem State.outcomeTaken_restart (s : State) : (s.outcomeTaken start fault).sup.restart = s.sup.restart := rfl

theorem exec_channel0Outcome_direct (awaited : s.sup.awaiting = some start) (direct : s.sup.state = .powering ∨
      (s.sup.state = .restarting ∧ ∃ r o, s.sup.restart = some { rung := r, mode := some .direct, origin := o })) :
    exec (.channel0Outcome start fault) s = .next
      (if fault = none then (s.outcomeTaken start fault).enterBooting
        else (s.outcomeTaken start fault).ladderCause .powerFault 0) := by
  rw [exec_channel0Outcome_awaited awaited]
  dsimp only
  rw [State.outcomeTaken_state, State.outcomeTaken_restart]
  rcases direct with powering | ⟨restarting, r, o, rung⟩
  · rw [powering]
    cases fault <;> rfl
  · rw [restarting, rung]
    cases fault <;> rfl

theorem exec_channel0Outcome_rewarm {r : Fin 6} {o : Origin} (awaited : s.sup.awaiting = some start)
    (restarting : s.sup.state = .restarting)
    (rung : s.sup.restart = some { rung := r, mode := some .rewarm, origin := o }) :
    exec (.channel0Outcome start fault) s = .next (s.outcomeTaken start fault).rewarm := by
  rw [exec_channel0Outcome_awaited awaited]
  dsimp only
  rw [State.outcomeTaken_state, State.outcomeTaken_restart, restarting, rung]
  rfl

theorem exec_channel0Outcome_shutting (awaited : s.sup.awaiting = some start) (shutting : s.sup.state = .shutting) :
    exec (.channel0Outcome start fault) s = .next (s.outcomeTaken start fault).shutDone := by
  rw [exec_channel0Outcome_awaited awaited]
  dsimp only
  rw [State.outcomeTaken_state, shutting]

/-- An outcome moves the state, whatever it is. -/
theorem exec_channel0Outcome_next (start : Nat) (fault : Option FaultCode) (s : State) :
    ∃ t, exec (.channel0Outcome start fault) s = .next t := by
  by_cases awaited : s.sup.awaiting = some start
  · rw [exec_channel0Outcome_awaited awaited]
    dsimp only
    split
    · exact ⟨_, rfl⟩
    · split <;> exact ⟨_, rfl⟩
    · exact ⟨_, rfl⟩
    · exact ⟨_, rfl⟩
  · exact ⟨_, exec_channel0Outcome_other awaited⟩

end

/-! ### The cut at the end of a rung or of the off-sequence (R54, R72) -/

/-- A cut still stands where the sequencer's parts are as it left them and nothing sent was lost. -/
theorem CutUnder.later {m : State} {mask : BitVec 6} (h : CutUnder s m mask) (rails : t.rails = m.rails) (lines : t.lines = m.lines)
    (channels : t.channels = m.channels) (link : t.link = m.link) (uptime : t.uptime = m.uptime) (mem : t.mem = m.mem)
    (sent : m.transit <+: t.transit) : CutUnder s t mask := by
  obtain ⟨on, off, level, aborted, others, flush⟩ := h
  unfold CutUnder
  simp only [rails, lines, channels, link, uptime, mem]
  refine ⟨on, off, level, fun c busy named => ?_, others, fun commanded named => ?_⟩
  · obtain ⟨record, events⟩ := aborted c busy named
    exact ⟨record, fun e told => sent.subset (events e told)⟩
  · obtain ⟨told, fenced⟩ := flush commanded named
    exact ⟨sent.subset told, fenced⟩

theorem State.cutAndRelease_frame (s : State) : s.cutAndRelease =
    (s.setSup { s.sup with reservation := false }).onto s.forcedCut := by
  have cut := local_forcedCut.frame s
  unfold State.cutAndRelease
  dsimp only
  generalize s.forcedCut = t at cut
  rw [cut]
  rfl

theorem State.cutAndRelease_cut (s : State) : CutUnder s s.cutAndRelease (hostMask s.mem) :=
  s.forcedCut_cutUnder.later rfl rfl rfl rfl rfl rfl (List.prefix_rfl)

/-- The state entered after the cut keeps the cut. -/
theorem State.rewarm_ordered (s : State) : CutUnder s s.rewarm (hostMask s.mem) ∧ StartOrdered s s.rewarm := by
  have frame := s.cutAndRelease_frame
  have cut := s.cutAndRelease_cut
  have mem : s.cutAndRelease.mem = s.mem := by rw [frame]; rfl
  have eq : s.rewarm = s.cutAndRelease.startOrder := rfl
  rw [eq]
  generalize s.cutAndRelease = m at cut mem
  obtain ⟨sent, channels, rails, lines, link⟩ := m.startOrder_still
  exact ⟨cut.later rails lines channels link rfl rfl (sent ▸ List.prefix_append _ _), m.startOrder_ordered.of_mem mem⟩

theorem State.cutAndRelease_sup (s : State) : s.cutAndRelease.sup = { s.sup with reservation := false } := by
  rw [State.cutAndRelease_frame]
  rfl

/-- The supervisor at the end of a REWARM rung (R84). -/
theorem State.rewarm_sup (restarting : s.sup.state = .restarting) : s.rewarm.sup = { s.sup with
    state := .warming, sub := .none, gateWait := true, wakeTimer := none, heldRetryTimer := none, awaiting := none
    reservation := false, restart := none } := by
  unfold State.rewarm
  rw [State.startOrder_sup, State.cutAndRelease_sup]
  unfold Sup.entered
  simp [restarting]

/-- The target of the off-sequence entered (R87 to R89). -/
def State.targetEntered (s : State) (target : Option ShutTarget) : State :=
  match target with
  | some .heldByLadder => s.enterHeld true
  | some .heldByRequest => s.enterHeld false
  | _ => s.enterOff

theorem State.shutDone_eq (s : State) : s.shutDone = s.cutAndRelease.targetEntered s.sup.target := rfl

theorem State.enterHeld_transit (s : State) (byLadder : Bool) : (s.enterHeld byLadder).transit = s.transit ++
    [.counterIncrement .holdsEntered,
      posting s.uptime .held (if byLadder then 1 else 2) true 0 { w0 := natWord (heldRetry s.mem) }] := by
  have sent : (s.enterHeld byLadder).transit = (s.transit ++ [.counterIncrement .holdsEntered]) ++
      [posting s.uptime .held (BitVec.ofNat 8 (if byLadder then 1 else 2)) true 0 { w0 := natWord (heldRetry s.mem) }] := rfl
  rw [sent, List.append_assoc]
  cases byLadder <;> rfl

theorem State.targetEntered_kept (s : State) (target : Option ShutTarget) : (s.targetEntered target).rails = s.rails ∧
    (s.targetEntered target).lines = s.lines ∧ (s.targetEntered target).channels = s.channels ∧
    (s.targetEntered target).link = s.link ∧ (s.targetEntered target).clock = s.clock ∧
    (s.targetEntered target).mem = s.mem ∧ s.transit <+: (s.targetEntered target).transit := by
  unfold State.targetEntered
  split
  · rw [State.enterHeld_transit]
    exact ⟨rfl, rfl, rfl, rfl, rfl, rfl, List.prefix_append _ _⟩
  · rw [State.enterHeld_transit]
    exact ⟨rfl, rfl, rfl, rfl, rfl, rfl, List.prefix_append _ _⟩
  · exact ⟨rfl, rfl, rfl, rfl, rfl, rfl, List.prefix_rfl⟩

theorem State.shutDone_cut (s : State) : CutUnder s s.shutDone (hostMask s.mem) := by
  rw [State.shutDone_eq]
  obtain ⟨rails, lines, channels, link, clock, mem, sent⟩ := s.cutAndRelease.targetEntered_kept s.sup.target
  exact s.cutAndRelease_cut.later rails lines channels link (by unfold State.uptime; rw [clock]) mem sent

theorem State.enterOff_sup (shutting : s.sup.state = .shutting) : s.enterOff.sup = { s.sup with
    state := .off, sub := .none, awaiting := none, target := none, wakeAfter := none
    wakeTimer := match s.sup.wakeAfter with
      | some (n + 1) => some (s.clock + (n + 1) * 60000000)
      | _ => none } := by
  have entered : (s.enter .off .none).sup = { s.sup with state := .off, sub := .none, awaiting := none, target := none } := by
    rw [State.enter_sup]
    unfold Sup.entered
    simp [shutting]
  have wakes (n : Nat) : (s.enter .off .none).timer (mins n) = some (s.clock + n * 60000000) := by
    unfold State.timer State.inMs mins
    rw [Nat.mul_assoc]
    rfl
  unfold State.enterOff
  dsimp only
  rw [entered]
  simp only [wakes]
  rcases s.sup.wakeAfter with - | (- | n) <;> rfl

theorem State.enterHeld_sup (shutting : s.sup.state = .shutting) (byLadder : Bool) : (s.enterHeld byLadder).sup = { s.sup with
    state := .held, sub := .none, awaiting := none, target := none
    heldRetryTimer := if heldRetry s.mem = 0 then none else some (s.clock + heldRetry s.mem * 60000000) } := by
  have entered : (s.enter .held .none).sup = { s.sup with state := .held, sub := .none, awaiting := none, target := none } := by
    rw [State.enter_sup]
    unfold Sup.entered
    simp [shutting]
  have retry : (s.enterHeld byLadder).sup = { (s.enter .held .none).sup with
      heldRetryTimer := if heldRetry s.mem = 0 then none else some (s.clock + heldRetry s.mem * 60000 * 1000) } := rfl
  rw [retry, entered, Nat.mul_assoc]

theorem State.cutAndRelease_mem (s : State) : s.cutAndRelease.mem = s.mem := by
  rw [State.cutAndRelease_frame]
  rfl

theorem State.cutAndRelease_clock (s : State) : s.cutAndRelease.clock = s.clock := by
  rw [State.cutAndRelease_frame]
  rfl

theorem State.cutAndRelease_shutting (shutting : s.sup.state = .shutting) : s.cutAndRelease.sup.state = .shutting := by
  rw [State.cutAndRelease_sup]
  exact shutting

/-- SHUTTING ends with the reservation released and no target (R87). -/
theorem State.shutDone_released (shutting : s.sup.state = .shutting) :
    s.shutDone.sup.reservation = false ∧ s.shutDone.sup.target = none := by
  have kept := State.cutAndRelease_shutting shutting
  have released : s.cutAndRelease.sup.reservation = false := by rw [State.cutAndRelease_sup]
  rw [State.shutDone_eq]
  unfold State.targetEntered
  split
  · rw [State.enterHeld_sup kept]
    exact ⟨released, rfl⟩
  · rw [State.enterHeld_sup kept]
    exact ⟨released, rfl⟩
  · rw [State.enterOff_sup kept]
    exact ⟨released, rfl⟩

/-- SHUTTING with target OFF ends in OFF, with its wake timer (R88). -/
theorem State.shutDone_off (shutting : s.sup.state = .shutting) (off : s.sup.target = some .off) :
    s.shutDone.sup.state = .off ∧ s.shutDone.sup.wakeAfter = none ∧
      s.shutDone.sup.wakeTimer = match s.sup.wakeAfter with
        | some (n + 1) => some (s.clock + (n + 1) * 60000000)
        | _ => none := by
  have eq : s.shutDone = s.cutAndRelease.enterOff := by rw [State.shutDone_eq, off]; rfl
  have sup := s.cutAndRelease_sup
  have clock := s.cutAndRelease_clock
  have kept := State.cutAndRelease_shutting shutting
  rw [eq]
  generalize s.cutAndRelease = m at sup clock kept
  rw [State.enterOff_sup kept, sup, clock]
  exact ⟨rfl, rfl, rfl⟩

/-- SHUTTING with a target of HELD ends in HELD: counted, reported with its reason, and the retry timer started (R89). -/
theorem State.shutDone_held (shutting : s.sup.state = .shutting) (byLadder : Bool)
    (held : s.sup.target = some (if byLadder = true then .heldByLadder else .heldByRequest)) :
    s.shutDone.sup.state = .held ∧ .counterIncrement .holdsEntered ∈ s.shutDone.transit ∧
      posting s.uptime .held (if byLadder = true then 1 else 2) true 0 { w0 := natWord (heldRetry s.mem) } ∈
        s.shutDone.transit ∧
      s.shutDone.sup.heldRetryTimer =
        if heldRetry s.mem = 0 then none else some (s.clock + heldRetry s.mem * 60000000) := by
  have eq : s.shutDone = s.cutAndRelease.enterHeld byLadder := by
    rw [State.shutDone_eq, held]
    cases byLadder <;> rfl
  have clock := s.cutAndRelease_clock
  have mem := s.cutAndRelease_mem
  have kept := State.cutAndRelease_shutting shutting
  rw [eq]
  generalize s.cutAndRelease = m at clock mem kept
  have uptime : m.uptime = s.uptime := by unfold State.uptime; rw [clock]
  rw [State.enterHeld_sup kept, State.enterHeld_transit, mem, clock, uptime]
  exact ⟨rfl, List.mem_append_right _ (List.mem_cons_self ..),
    List.mem_append_right _ (List.mem_cons_of_mem _ (List.mem_singleton_self _)), rfl⟩

/-! ### The forced-off timer's expiry (R115, R116) -/

/-- The forced-off timer stopped, its status entry rewritten (R115). -/
def State.forcedStopped (s : State) : State :=
  (s.setChords { s.chords with forcedOffTimer := none, openExpiry := none }).publishChords

theorem State.forcedOff_eq (s : State) (word : DWord) : s.forcedOff word =
    { s.forcedStopped.forcedShutdown with transit := s.forcedStopped.forcedShutdown.transit ++
      [posting s.forcedStopped.forcedShutdown.uptime .powerKey 4 true 0 { w0 := word }] } := rfl

/-- The expiry, taken in s (R115). -/
theorem State.forcedOff_expires (s : State) (word : DWord) : ∃ stopped u : State,
    stopped = { s with
      chords := { s.chords with forcedOffTimer := none, openExpiry := none }
      shown := { s.shown with chords := stopped.shown.chords } } ∧
    ForcedDown stopped u ∧
    s.forcedOff word = { u with transit := u.transit ++ [posting (s.forcedOff word).uptime .powerKey 4 true 0 { w0 := word }] } :=
  ⟨s.forcedStopped, s.forcedStopped.forcedShutdown, rfl, State.forcedShutdown_down _, State.forcedOff_eq s word⟩

theorem exec_forcedOffTimerExpiry_timer (timer : s.chords.forcedOffTimer = some due) : exec .forcedOffTimerExpiry s =
    .next ((s.reachTime due).forcedOff (supWordOf s.chords.published s.chords.publishedSub)) := by
  have unfolded : exec .forcedOffTimerExpiry s = execForcedOffTimerExpiry s := rfl
  rw [unfolded]
  unfold execForcedOffTimerExpiry
  rw [timer]
  rfl

theorem exec_forcedOffTimerExpiry_open {x : OpenExpiry} (timer : s.chords.forcedOffTimer = none)
    (openExpiry : s.chords.openExpiry = some x) : exec .forcedOffTimerExpiry s =
      .next (if s.clock ≤ x.moment then s.forcedOff x.word else s) := by
  have unfolded : exec .forcedOffTimerExpiry s = execForcedOffTimerExpiry s := rfl
  rw [unfolded]
  unfold execForcedOffTimerExpiry
  rw [timer, openExpiry]

theorem exec_forcedOffTimerExpiry_none (timer : s.chords.forcedOffTimer = none) (closed : s.chords.openExpiry = none) :
    exec .forcedOffTimerExpiry s = .next s := by
  have unfolded : exec .forcedOffTimerExpiry s = execForcedOffTimerExpiry s := rfl
  rw [unfolded]
  unfold execForcedOffTimerExpiry
  rw [timer, closed]

/-! ### Waiting channels (R59) -/

/-- One channel's part in a PG change (R59). -/
def State.serveWait (r : Fin 6) (level : Bool) (s : State) (c : Fin 4) : State :=
  match s.channels[c].activity with
  | .wait rail good next _ => if rail = r ∧ good = level then s.proceed c next else s
  | _ => s

theorem State.serveWait_served (r : Fin 6) (level : Bool) (s : State) (c : Fin 4) :
    WaitServed s (s.serveWait r level c) c r level := by
  unfold State.serveWait
  refine ⟨fun next due waits => ?_, fun others => ?_⟩
  · rw [waits]
    dsimp only
    rw [if_pos ⟨rfl, rfl⟩]
    exact s.proceed_here c next
  · split
    next rail good next due waits =>
      refine if_neg ?_
      rintro ⟨rfl, rfl⟩
      exact others next due waits
    · rfl

theorem State.satisfyWaits_eq (s : State) (r : Fin 6) (level : Bool) : s.satisfyWaits r level =
    (((s.serveWait r level 0).serveWait r level 1).serveWait r level 2).serveWait r level 3 := rfl

theorem local_serveWait (r : Fin 6) (level : Bool) (c : Fin 4) : Local fun s => s.serveWait r level c := fun b s like => by
  have same : (b.onto s).channels = s.channels := rfl
  dsimp only
  unfold State.serveWait
  rw [same]
  split
  · split
    · exact local_proceed c _ b s like
    · rfl
  · rfl

theorem local_satisfyWaits (r : Fin 6) (level : Bool) : Local fun s => s.satisfyWaits r level :=
  (((local_serveWait r level 0).comp (local_serveWait r level 1)).comp (local_serveWait r level 2)).comp
    (local_serveWait r level 3)

/-! ### Rail drops (R50, R51) -/

/-- The new level recorded on its rail, a drop counted and reported (R50, R51). -/
def State.levelTaken (s : State) (r : Fin 6) (level : Bool) : State :=
  let m : State := { s with rails := put s.rails r (s.rails[r].takeLevel level) }
  if s.rails[r].drops level then m.reportDrop r else m

/-- The new level told to the link port and to the waiting channels (R52, R59). -/
def State.levelTold (s : State) (r : Fin 6) (level : Bool) : State :=
  ((s.levelTaken r level).deliverRail r).satisfyWaits r level

theorem State.levelTaken_frame (s : State) (r : Fin 6) (level : Bool) :
    (s.levelTaken r level).deliverRail r = s.onto ((s.levelTaken r level).deliverRail r) := by
  unfold State.levelTaken State.deliverRail
  dsimp only
  split <;> split <;> rfl

/-- Of a PG change the sequencer's parts, the link port and the events take all that the supervisor does not (R50). -/
theorem State.levelTold_frame (s : State) (r : Fin 6) (level : Bool) : s.levelTold r level = s.onto (s.levelTold r level) := by
  have told := (local_satisfyWaits r level).frame ((s.levelTaken r level).deliverRail r)
  have before := s.levelTaken_frame r level
  unfold State.levelTold
  generalize (s.levelTaken r level).deliverRail r = m at told before
  generalize m.satisfyWaits r level = t at told
  rw [told, before]
  rfl

theorem State.levelTold_mem (s : State) (r : Fin 6) (level : Bool) : (s.levelTold r level).mem = s.mem := by
  rw [State.levelTold_frame]
  rfl

theorem State.levelTold_sup (s : State) (r : Fin 6) (level : Bool) : (s.levelTold r level).sup = s.sup := by
  rw [State.levelTold_frame]
  rfl

theorem State.takePg_eq (s : State) (r : Fin 6) (level : Bool) : s.takePg r level =
    if s.rails[r].drops level && (hostMask s.mem).getLsbD r.val then (s.levelTold r level).railDropCause r
    else s.levelTold r level := by
  have unfolded : s.takePg r level =
      if s.rails[r].drops level && (hostMask (s.levelTold r level).mem).getLsbD r.val then (s.levelTold r level).railDropCause r
      else s.levelTold r level := rfl
  rw [unfolded, State.levelTold_mem]

theorem Rail.drops_iff (x : Rail) (level : Bool) :
    x.drops level = true ↔ x.commanded = true ∧ x.watched = true ∧ level = false := by
  unfold Rail.drops
  simp [and_assoc]

/-- The states in which a drop of a host rail is a cause (R80). -/
abbrev Sup.TakesDrops (u : Sup) : Prop := u.state = .powering ∨ u.state = .booting ∨ u.state = .running

theorem State.railDropCause_taken {r : Fin 6} (taken : s.sup.TakesDrops) :
    LadderTaken s (s.railDropCause r) .railDrop r.val := by
  have cause : s.railDropCause r = s.ladderCause .railDrop r.val := by
    unfold State.railDropCause
    rcases taken with state | state | state <;> rw [state]
  rw [cause]
  exact s.ladderCause_taken _ _

theorem State.railDropCause_idle {r : Fin 6} (idle : ¬ s.sup.TakesDrops) : s.railDropCause r = s := by
  unfold State.railDropCause
  split
  · exact absurd (.inl ‹_›) idle
  · exact absurd (.inr (.inl ‹_›)) idle
  · exact absurd (.inr (.inr ‹_›)) idle
  · rfl

/-- The delivery of a rail's record to the link port moves the port alone (R50, R52). -/
theorem State.deliverRail_link (s : State) (r : Fin 6) : s.deliverRail r = { s with link := (s.deliverRail r).link } := by
  unfold State.deliverRail
  split <;> rfl

theorem State.deliverRail_evaluated {r : Fin 6} (named : r = linkRail s.mem) : LinkEvaluated s (s.deliverRail r) r := by
  unfold LinkEvaluated State.deliverRail State.deliverLink
  subst named
  simp [Link.evaluate_eq]

theorem State.deliverRail_other {r : Fin 6} (other : r ≠ linkRail s.mem) : (s.deliverRail r).link = s.link := by
  unfold State.deliverRail
  rw [if_neg other]

/-- A host rail's drop where the supervisor takes one is a RAIL DROP cause, and else the level is only told (R51, R80). -/
theorem State.takePg_drop (s : State) (r : Fin 6) (level : Bool) :
    let drop : Prop := (s.rails[r].commanded = true ∧ s.rails[r].watched = true ∧ level = false) ∧
      (hostMask s.mem).getLsbD r.val = true ∧ s.sup.TakesDrops
    (¬ drop → s.takePg r level = s.levelTold r level) ∧
      (drop → LadderTaken (s.levelTold r level) (s.takePg r level) .railDrop r.val) := by
  have sup := s.levelTold_sup r level
  dsimp only
  rw [State.takePg_eq, ← Rail.drops_iff]
  refine ⟨fun calm => ?_, fun ⟨drops, host, taken⟩ => ?_⟩
  · split
    next host =>
      rw [Bool.and_eq_true] at host
      refine State.railDropCause_idle fun taken => calm ⟨host.1, host.2, ?_⟩
      rwa [sup] at taken
    · rfl
  · rw [if_pos (by rw [drops, host]; rfl)]
    exact State.railDropCause_taken (by rwa [sup])

/-- A level recorded, with the events of a drop, field by field (R50, R51). -/
theorem State.levelTaken_eq (s : State) (r : Fin 6) (level : Bool) : s.levelTaken r level = { s with
    rails := put s.rails r { s.rails[r] with
      good := level, watched := if s.rails[r].commanded = true then level else s.rails[r].watched }
    transit := s.transit ++
      (if s.rails[r].commanded = true ∧ s.rails[r].watched = true ∧ level = false then [.counterIncrement .railDrops,
        posting s.uptime .railDrop 0 true (BitVec.ofNat 8 r.val)
          { w0 := flagWord ((hostMask s.mem).getLsbD r.val), w1 := natWord (s.channelOf r), w2 := s.sup.word }] else []) } := by
  unfold State.levelTaken
  dsimp only
  by_cases drops : s.rails[r].drops level = true
  · rw [if_pos drops, if_pos ((Rail.drops_iff _ _).1 drops), List.append_cons]
    rfl
  · rw [if_neg drops, if_neg (mt (Rail.drops_iff _ _).2 drops), List.append_nil]
    rfl

theorem State.serveWait_silent {r : Fin 6} {level : Bool} {c : Fin 4}
    (silent : ∀ next due, s.channels[c].activity ≠ .wait r level next due) : s.serveWait r level c = s :=
  (s.serveWait_served r level c).2 silent

/-- Where no channel waits for it, a level goes to the rail and to the link port alone (R50, R59). -/
theorem State.levelTold_silent {r : Fin 6} {level : Bool}
    (silent : ∀ (c : Fin 4) next due, s.channels[c].activity ≠ .wait r level next due) :
    s.levelTold r level = (s.levelTaken r level).deliverRail r := by
  have channels : ((s.levelTaken r level).deliverRail r).channels = s.channels := by
    rw [State.levelTaken_eq, State.deliverRail_link]
  have here (c : Fin 4) : ∀ next due, ((s.levelTaken r level).deliverRail r).channels[c].activity ≠ .wait r level next due := by
    rw [channels]
    exact silent c
  unfold State.levelTold
  rw [State.satisfyWaits_eq, State.serveWait_silent (here 0), State.serveWait_silent (here 1),
    State.serveWait_silent (here 2), State.serveWait_silent (here 3)]

theorem exec_stageDeadlineExpiry (timer : s.sup.stageTimer = some due) : exec .stageDeadlineExpiry s =
    .next (((s.reachTime due).setSup { s.sup with stageTimer := none }).ladderCause .bootStall s.sup.bootStage) := by
  have unfolded : exec .stageDeadlineExpiry s = execStageDeadlineExpiry s := rfl
  rw [unfolded]
  unfold execStageDeadlineExpiry
  rw [timer]
  rfl

theorem exec_graceExpiry (timer : s.sup.graceTimer = some due) : exec .graceExpiry s =
    .next (((s.reachTime due).setSup { s.sup with graceTimer := none }).ladderCause .heartbeat 0) := by
  have unfolded : exec .graceExpiry s = execGraceExpiry s := rfl
  rw [unfolded]
  unfold execGraceExpiry
  rw [timer]
  rfl

end Sys2Proof.Machine

namespace Sys2Proof.Settled

open Sys2Proof Sys2Proof.Machine Host

/-- Settles O28: each of the six expiries. -/
theorem supervisorTimers : Obligations.SupervisorTimers := by
  unfold Obligations.SupervisorTimers
  intro s due
  dsimp only
  refine ⟨fun timer off => ⟨_, exec_wakeTimerExpiry timer off, ?_⟩, fun timer held => ⟨_, exec_heldRetryExpiry timer held, ?_⟩,
    fun timer running => ⟨_, exec_pauseTimerExpiry timer, ?_⟩, fun timer => ⟨_, exec_settleExpiry timer, rfl⟩,
    fun r timer restarting restart => ⟨_, exec_holdOffExpiry timer restart, ?_⟩,
    fun timer shutting => ⟨_, exec_haltDelayExpiry timer, ?_⟩⟩
  · obtain ⟨ordered, sent, still⟩ := (s.reachTime due).startOrder_setSup { s.sup with wakeTimer := none }
    exact ⟨ordered, sent, State.startOrder_idle (.inl off), still⟩
  · obtain ⟨ordered, sent, still⟩ := (s.reachTime due).startOrder_setSup
      { s.sup with heldRetryTimer := none, ladder := ladderOf s.mem, rung := 0, attempts := 0 }
    exact ⟨ordered, sent, State.startOrder_idle (.inr held), still⟩
  · have quiet := ((s.reachTime due).setSup_quiet { s.sup with pauseTimer := none }).trans (State.enterWatching_quiet _)
    refine ⟨State.enterWatching_sup running, ?_, State.enterWatching_hostFrame _ _, ?_⟩
    · rw [quiet]
      rfl
    · rw [quiet]
      exact ⟨rfl, rfl, rfl, rfl⟩
  · exact ⟨((s.reachTime due).setSup_quiet _).enterSequence r rfl,
      (State.setSup_hostFrame _ _).trans (State.enterSequence_hostFrame _ _), State.enterSequence_held r restarting⟩
  · exact ⟨((s.reachTime due).setSup_quiet _).startOff rfl,
      (State.setSup_hostFrame _ _).trans (State.supervisorStart_hostFrame _ _ _), State.startOff_sup _⟩

/-- Settles O27: the outcome disregarded, the boot, the power fault, the rewarm rung and the shutdown's end. -/
theorem channel0Outcome : Obligations.Channel0Outcome := by
  unfold Obligations.Channel0Outcome
  intro start fault s
  obtain ⟨t, exec_eq⟩ := exec_channel0Outcome_next start fault s
  refine ⟨t, exec_eq, ?_⟩
  dsimp only
  refine ⟨fun other => ?_, fun awaited => ⟨fun direct finished => ?_, fun direct faulted => ?_, fun r o restarting rung => ?_,
    fun shutting => ?_⟩⟩
  · rw [exec_channel0Outcome_other other] at exec_eq
    exact (Outcome.next.inj exec_eq).symm
  · rw [exec_channel0Outcome_direct awaited direct, if_pos finished] at exec_eq
    rw [← Outcome.next.inj exec_eq]
    exact ⟨State.enterBooting_begun _, rfl, rfl, rfl⟩
  · rw [exec_channel0Outcome_direct awaited direct, if_neg faulted] at exec_eq
    rw [← Outcome.next.inj exec_eq]
    exact State.ladderCause_taken _ _ _
  · rw [exec_channel0Outcome_rewarm awaited restarting rung] at exec_eq
    rw [← Outcome.next.inj exec_eq]
    obtain ⟨cut, ordered⟩ := (s.outcomeTaken start fault).rewarm_ordered
    have sup := State.rewarm_sup (s := s.outcomeTaken start fault) restarting
    refine ⟨cut, ordered, ?_⟩
    rw [sup]
    exact ⟨rfl, rfl, rfl, rfl⟩
  · rw [exec_channel0Outcome_shutting awaited shutting] at exec_eq
    rw [← Outcome.next.inj exec_eq]
    have kept : (s.outcomeTaken start fault).sup.state = .shutting := shutting
    obtain ⟨reservation, target⟩ := State.shutDone_released kept
    exact ⟨(s.outcomeTaken start fault).shutDone_cut, reservation, target, State.shutDone_off kept, State.shutDone_held kept⟩

/-- Settles O38: an expiry of the running timer, the open expiry of this moment, and no expiry. -/
theorem forcedOffExpiry : Obligations.ForcedOffExpiry := by
  unfold Obligations.ForcedOffExpiry
  intro s
  dsimp only
  refine ⟨fun due timer => ⟨_, exec_forcedOffTimerExpiry_timer timer,
    (s.reachTime due).forcedOff_expires _⟩,
    fun x timer openExpiry now => ?_, fun timer past => ?_⟩
  · rw [exec_forcedOffTimerExpiry_open timer openExpiry, if_pos now]
    exact ⟨_, rfl, s.forcedOff_expires _⟩
  · rcases openExpiry : s.chords.openExpiry with - | x
    · exact exec_forcedOffTimerExpiry_none timer openExpiry
    · rw [exec_forcedOffTimerExpiry_open timer openExpiry, if_neg (Nat.not_le.2 (past x openExpiry))]

/-- Settles O23: the record and its events, the port, the four channels in turn, and a host rail's drop as a cause. -/
theorem pgChange : Obligations.PgChange := by
  unfold Obligations.PgChange
  intro us r level s
  dsimp only
  have unfolded : exec (.pgChange us r level) s =
      if s.rails[r].good = level then .next (s.elapse us) else .next ((s.elapse us).takePg r level) := rfl
  refine ⟨fun same => unfolded.trans (if_pos same), fun other => ?_⟩
  have recorded := (s.elapse us).levelTaken_eq r level
  have rest := (s.elapse us).levelTaken_frame r level
  obtain ⟨told, cause⟩ := (s.elapse us).takePg_drop r level
  refine ⟨((s.elapse us).levelTaken r level).deliverRail r, _, _, _, (s.elapse us).levelTold r level,
    (s.elapse us).takePg r level, unfolded.trans (if_neg other), ?_, fun named => ?_, fun named => ?_,
    State.serveWait_served .., State.serveWait_served .., State.serveWait_served .., State.serveWait_served .., told, cause⟩
  · rw [recorded]
    exact State.deliverRail_link _ r
  · rw [recorded]
    exact State.deliverRail_evaluated named
  · rw [recorded]
    exact State.deliverRail_other named

/-- Settles O32: the stage deadline, the grace, and a host rail's drop that no channel waits for. -/
theorem ladderCauses : Obligations.LadderCauses := by
  unfold Obligations.LadderCauses
  intro s due
  refine ⟨fun timer => ⟨_, exec_stageDeadlineExpiry timer, State.ladderCause_taken _ _ _⟩,
    fun timer => ⟨_, exec_graceExpiry timer, State.ladderCause_taken _ _ _⟩, fun us r good commanded watched host silent => ?_⟩
  have unfolded : exec (.pgChange us r false) s =
      if s.rails[r].good = false then .next (s.elapse us) else .next ((s.elapse us).takePg r false) := rfl
  obtain ⟨told, cause⟩ := (s.elapse us).takePg_drop r false
  refine ⟨(s.elapse us).takePg r false, unfolded.trans (if_neg (by rw [good]; decide)), fun taken => ?_,
    fun powering booting running => ?_⟩
  · refine ⟨_, cause ⟨⟨commanded, watched, rfl⟩, host, taken⟩, State.levelTold_sup .., State.levelTold_mem .., ?_, ?_⟩
    · rw [State.levelTold_frame]
      rfl
    · rw [State.levelTold_silent (s := s.elapse us) silent, State.levelTaken_eq, State.deliverRail_link]
      rfl
  · rw [told fun ⟨_, _, taken⟩ => taken.elim powering (fun or => or.elim booting running), State.levelTold_sup]
    rfl

end Sys2Proof.Settled
end

section
/-! SUPPORT. The operations that leave the channels, the rails and the supervisor alone. -/

namespace Sys2Proof.Machine

open Sys2Proof Host

variable (s : State)

/-- The channels, the rails and the supervisor of a state. -/
def State.host (s : State) : Vector Channel 4 × Vector Rail 6 × Sup := (s.channels, s.rails, s.sup)

theorem foldl_host {α : Type} (f : State → α → State) (h : ∀ s x, (f s x).host = s.host) (l : List α) :
    ∀ s, (l.foldl f s).host = s.host := by
  induction l with
  | nil => intro s; rfl
  | cons x t ih => intro s; rw [List.foldl_cons, ih, h]

/-! ### Updates -/

@[simp] theorem State.send_host (c : Instr) : (s.send c).host = s.host := rfl
@[simp] theorem State.sendAll_host (cs : List Instr) : (s.sendAll cs).host = s.host := rfl
@[simp] theorem State.taking_host (c : Instr) : (s.taking c).host = s.host := rfl
@[simp] theorem State.elapse_host (n : Nat) : (s.elapse n).host = s.host := rfl
@[simp] theorem State.reachTime_host (n : Nat) : (s.reachTime n).host = s.host := rfl
@[simp] theorem State.drawFree_host : s.drawFree.host = s.host := rfl
@[simp] theorem State.report_host (k n u i p) : (s.report k n u i p).host = s.host := rfl
@[simp] theorem State.setGate_host (g : Gate) : (s.setGate g).host = s.host := rfl
@[simp] theorem State.setSweep_host (w) : (s.setSweep w).host = s.host := rfl
@[simp] theorem State.setFan_host (f x) : (s.setFan f x).host = s.host := rfl
@[simp] theorem State.setPool_host (p : Pool) : (s.setPool p).host = s.host := rfl
@[simp] theorem State.setChords_host (c : ChordUnit) : (s.setChords c).host = s.host := rfl
@[simp] theorem State.publishChords_host : s.publishChords.host = s.host := rfl

/-! ### Sensors and climate -/

@[simp] theorem State.reportSensor_host (ch o n) : (s.reportSensor ch o n).host = s.host := by
  unfold State.reportSensor; split <;> [rfl; split <;> rfl]

@[simp] theorem State.reportWarmUp_host (n b p) : (s.reportWarmUp n b p).host = s.host := rfl

@[simp] theorem State.openGate_host (b p) : (s.openGate b p).host = s.host := by
  cases b <;> rfl

@[simp] theorem State.gateMove_host (r m p) : (s.gateMove r m p).host = s.host := by
  unfold State.gateMove; dsimp only; repeat' split
  all_goals simp

@[simp] theorem State.limitMove_host (z d p) : (s.limitMove z d p).host = s.host := by
  unfold State.limitMove; dsimp only; repeat' split
  all_goals simp

@[simp] theorem State.gateWork_host (r z d p) : (s.gateWork r z d p).host = s.host := by
  unfold State.gateWork; simp

@[simp] theorem takeT0_host : (takeT0 s).host = s.host := by
  unfold takeT0; split <;> rfl

@[simp] theorem State.gatePass_host (r) : (s.gatePass r).host = s.host := by
  unfold State.gatePass
  exact (takeT0_host _).trans (by simp)

@[simp] theorem State.takeBoost_host (t n) : (s.takeBoost t n).1.host = s.host := by
  unfold State.takeBoost; split <;> [rfl; split <;> rfl]

/-! ### Fans -/

@[simp] theorem State.publishFan_host (f) : (s.publishFan f).host = s.host := rfl
@[simp] theorem State.wakeFan_host (f) : (s.wakeFan f).host = s.host := rfl

@[simp] theorem State.fanStateWork_host (f) : (s.fanStateWork f).host = s.host := by
  unfold State.fanStateWork; dsimp only; repeat' split
  all_goals simp

@[simp] theorem State.endSweep_host (w r n d b) : (s.endSweep w r n d b).host = s.host := by
  unfold State.endSweep; dsimp only; repeat' split
  all_goals simp

@[simp] theorem State.sweepAbortWork_host : s.sweepAbortWork.host = s.host := by
  unfold State.sweepAbortWork; repeat' split
  all_goals simp

@[simp] theorem State.fanPass_host : s.fanPass.host = s.host := by
  unfold State.fanPass; simp

@[simp] theorem State.enterSweeping_host (w) : (s.enterSweeping w).host = s.host := rfl

@[simp] theorem State.startSweep_host (f m a o) : (s.startSweep f m a o).1.host = s.host := by
  unfold State.startSweep; split
  · rfl
  · dsimp only; split <;> simp

@[simp] theorem State.spinUpSucceeds_host (f) : (s.spinUpSucceeds f).host = s.host := by
  unfold State.spinUpSucceeds; dsimp only; split <;> simp

@[simp] theorem State.spinUpFails_host (f) : (s.spinUpFails f).host = s.host := by
  unfold State.spinUpFails
  split
  · rw [State.endSweep_host]; split <;> simp
  · simp

@[simp] theorem State.completeSweep_host (w) : (s.completeSweep w).host = s.host := by
  unfold State.completeSweep
  repeat' split
  all_goals rw [State.endSweep_host]
  rfl

@[simp] theorem State.deliverRpm_host (f n) : (s.deliverRpm f n).host = s.host := by
  have measure : ∀ w taken rpm, (s.takeMeasurement w taken rpm).host = s.host := fun w taken rpm => by
    unfold State.takeMeasurement; dsimp only; repeat' split
    all_goals simp
  unfold State.deliverRpm
  repeat' split
  all_goals simp [measure]

/-! ### The climate pass -/

@[simp] theorem State.interlockPass_host : s.interlockPass.host = s.host := rfl

@[simp] theorem State.episodePass_host (g) : (s.episodePass g).host = s.host := by
  unfold State.episodePass; dsimp only; split <;> rfl

@[simp] theorem State.applyGrants_host (g b) : (s.applyGrants g b).host = s.host := rfl

@[simp] theorem State.budgetPass_host (b) : (s.budgetPass b).host = s.host := by
  unfold State.budgetPass; simp

@[simp] theorem State.demandPass_host (b) : (s.demandPass b).host = s.host := rfl

@[simp] theorem State.climatePass_host (b) : (s.climatePass b).host = s.host := by
  unfold State.climatePass
  have h : ∀ (t : State) (c : ChordUnit), ({ t with chords := c } : State).host = t.host := fun _ _ => rfl
  simp only [State.send_host, State.count_eq, h, State.publishFan_host, State.budgetPass_host, State.fanPass_host,
    State.gatePass_host, State.demandPass_host, State.setGate_host]

/-! ### The keypad -/

@[simp] theorem State.checkKeypadFault_host : s.checkKeypadFault.host = s.host := by
  unfold State.checkKeypadFault; dsimp only; split <;> rfl

@[simp] theorem State.reportKey_host (p r n) : (s.reportKey p r n).host = s.host := rfl

@[simp] theorem State.reportKeys_host (v) : (s.reportKeys v).host = s.host := by
  unfold State.reportKeys
  refine foldl_host _ (fun s p => ?_) _ s
  split <;> simp

@[simp] theorem State.scanKeys_host (v) : (s.scanKeys v).host = s.host := by
  unfold State.scanKeys
  have h : ∀ (t : State) (k : Keypad), ({ t with keypad := k } : State).host = t.host := fun _ _ => rfl
  simp [h]

/-! ### The report pool, the schedule and the desk -/

@[simp] theorem State.post_host (r : Posting) : (s.post r).host = s.host := by
  have marks : ∀ t : State, (t.postMarks r).host = t.host := fun t => by
    unfold State.postMarks; dsimp only; repeat' split
    all_goals simp
  have collide : ∀ (t : State) n, (t.postCollide n).host = t.host := fun t n => by
    unfold State.postCollide; split <;> rfl
  have place : ∀ t : State, (t.postPlace r).1.host = t.host := fun t => by
    unfold State.postPlace; repeat' split
    all_goals rfl
  have write : ∀ (t : State) n c, (t.postWrite r n c).host = t.host := fun t n c => rfl
  unfold State.post
  split
  · rfl
  · dsimp only
    generalize hu : State.postCollide _ _ = u
    have before := collide (s.setPool { s.pool with
      generator := nextNumber s.pool.generator, newest := s.pool.generator }) s.pool.generator
    rw [hu] at before
    have placed := place u
    split
    next v _ hv =>
      rw [hv] at placed
      rw [marks, write]
      exact placed.trans before
    next v hv =>
      rw [hv] at placed
      exact placed.trans before

@[simp] theorem State.publishTicks_host : s.publishTicks.host = s.host := rfl

@[simp] theorem State.snapshot_host (e) : (s.snapshot e).host = s.host :=
  foldl_host _ (fun t _ => t.post_host _) _ s

@[simp] theorem State.writeEntry_host (e o v) : (s.writeEntry e o v).host = s.host := rfl

@[simp] theorem State.writeAnswer_host (slot r code data) : (s.writeAnswer slot r code data).host = s.host := rfl

@[simp] theorem State.takeSlot_host (slot) : (s.takeSlot slot).host = s.host := by
  unfold State.takeSlot
  dsimp only
  split <;> rfl

@[simp] theorem State.takeOutcome_host (slot code data) : (s.takeOutcome slot code data).host = s.host := by
  unfold State.takeOutcome
  split
  · rfl
  · dsimp only
    split <;> simp

@[simp] theorem State.deliverSlot_host (slot before) : (s.deliverSlot slot before).host = s.host := by
  unfold State.deliverSlot
  repeat' split
  all_goals simp

@[simp] theorem State.deliverDesk_host (kept before) : (s.deliverDesk kept before).host = s.host := by
  unfold State.deliverDesk
  refine foldl_host _ (fun t slot => ?_) _ s
  split <;> simp

@[simp] theorem State.closeWrite_host (start data) : (s.closeWrite start data).host = s.host := by
  unfold State.closeWrite
  dsimp only
  rw [State.deliverDesk_host]
  split <;> rfl

theorem State.selectActs_host (x c inbound) : (s.selectActs x c inbound).host = s.host := by
  unfold State.selectActs
  repeat' split
  all_goals rfl

theorem State.selectRises_host (c inbound) : (s.selectRises c inbound).host = s.host := by
  have closes : (s.selectCloses c inbound).host = s.host := by
    unfold State.selectCloses
    split
    · split
      · exact State.closeWrite_host ..
      · rfl
    · rfl
  unfold State.selectRises
  split
  · rfl
  · exact closes

@[simp] theorem State.select_host (cs c inbound) : (s.select cs c inbound).host = s.host := by
  unfold State.select
  dsimp only
  split
  · rfl
  · split
    · exact State.selectActs_host ..
    · rfl
  · exact State.selectRises_host ..

end Sys2Proof.Machine
end

section
/-! SUPPORT. The invariants of the sequencer and of the supervisor: disjoint busy channels (R62), host rails off (R72), the
ladder position (R81), and the way into POWERING (R71). -/

namespace Sys2Proof.Machine

open Sys2Proof Host

variable {s t u : State} {b : Prop}

/-! ### What an operation keeps -/

/-- The host rails are commanded off (R72). -/
def State.HostOff (s : State) : Prop := ∀ r : Fin 6, (hostMask s.mem).getLsbD r.val → s.rails[r].commanded = false

/-- What an operation keeps: the host rail mask and each invariant; and it does not enter POWERING. The channels stay sound
under the condition b of the operation. -/
structure Guarded (b : Prop) (s t : State) : Prop where
  mask : hostMask t.mem = hostMask s.mem
  channels : b → s.ChannelsOk → t.ChannelsOk
  rails : s.HostRailsOff → t.HostRailsOff
  ladder : s.sup.LadderOk → t.sup.LadderOk
  powering : t.sup.state = .powering → s.sup.state = .powering

theorem Guarded.refl (s : State) : Guarded b s s := ⟨rfl, fun _ => id, id, id, id⟩

theorem Guarded.trans {c : Prop} (h : Guarded b s t) (h' : Guarded c t u) (next : b → s.ChannelsOk → c) : Guarded b s u where
  mask := h'.mask.trans h.mask
  channels holds ok := h'.channels (next holds ok) (h.channels holds ok)
  rails off := h'.rails (h.rails off)
  ladder ok := h'.ladder (h.ladder ok)
  powering now := h.powering (h'.powering now)

theorem Guarded.then {c : Prop} (h : Guarded b s t) (h' : Guarded c t u) (always : c) : Guarded b s u := h.trans h' fun _ _ => always

theorem Guarded.mono {c : Prop} (h : Guarded b s t) (weaker : c → s.ChannelsOk → b) : Guarded c s t :=
  { h with channels := fun holds ok => h.channels (weaker holds ok) ok }

theorem Guarded.foldl {α : Type} {f : State → α → State} (h : ∀ s x, Guarded True s (f s x)) (l : List α) :
    ∀ s, Guarded True s (l.foldl f s) := by
  induction l with
  | nil => exact fun s => .refl s
  | cons x l ih => exact fun s => (h s x).then (ih _) trivial

theorem State.ChannelsOk.of_eq (ok : s.ChannelsOk) (channels : t.channels = s.channels) : t.ChannelsOk := by
  unfold State.ChannelsOk at *
  rwa [channels]

theorem State.HostRailsOff.of_eq (off : s.HostRailsOff) (mask : hostMask t.mem = hostMask s.mem) (state : t.sup.state = s.sup.state)
    (rails : ∀ r : Fin 6, t.rails[r].commanded = s.rails[r].commanded) : t.HostRailsOff := by
  intro locked r masked
  rw [mask] at masked
  rw [state] at locked
  rw [rails]
  exact off locked r masked

theorem Sup.LadderOk.of_eq {u v : Sup} (ok : u.LadderOk) (ladder : v.ladder = u.ladder) (rung : v.rung = u.rung)
    (attempts : v.attempts = u.attempts) : v.LadderOk := by
  obtain ⟨within, tries, count, limits⟩ := ok
  refine ⟨by rw [rung, ladder]; exact within, ?_, by rw [ladder]; exact count, by rw [ladder]; exact limits⟩
  rw [attempts]
  simp only [rung, ladder]
  exact tries

/-- Where the channels, the rails, the supervisor and the host rail mask are the same, everything is kept. -/
theorem Guarded.of_host (host : t.host = s.host) (mask : hostMask t.mem = hostMask s.mem) : Guarded b s t := by
  obtain ⟨channels, rails, sup⟩ : t.channels = s.channels ∧ t.rails = s.rails ∧ t.sup = s.sup := by
    have := host
    unfold State.host at this
    simpa using this
  exact ⟨mask, fun _ ok => ok.of_eq channels, fun off => off.of_eq mask (by rw [sup]) fun r => by rw [rails],
    by rw [sup]; exact id, by rw [sup]; exact id⟩

/-- An operation of the sequencer: the supervisor and the memory are the same. -/
theorem Guarded.of_sequencer (sup : t.sup = s.sup) (mem : t.mem = s.mem) (channels : b → s.ChannelsOk → t.ChannelsOk)
    (rails : ∀ r : Fin 6, t.rails[r].commanded = true →
      s.rails[r].commanded = true ∨ ¬ (s.sup.state.hostOff ∧ (hostMask s.mem).getLsbD r.val = true)) : Guarded b s t where
  mask := by rw [mem]
  channels := channels
  rails off locked r masked := by
    rw [sup] at locked
    rw [mem] at masked
    rcases on : t.rails[r].commanded with - | -
    · rfl
    · rcases rails r on with before | free
      · rw [off locked r masked] at before
        exact before.symm
      · exact absurd ⟨locked, masked⟩ free
  ladder := by rw [sup]; exact id
  powering := by rw [sup]; exact id

/-- A change of the supervisor alone that neither locks the host rails nor moves the ladder position. -/
theorem Guarded.setSup {v : Sup} (state : v.state.hostOff → s.sup.state.hostOff) (powering : v.state = .powering → s.sup.state = .powering)
    (ladder : v.ladder = s.sup.ladder) (rung : v.rung = s.sup.rung) (attempts : v.attempts = s.sup.attempts) :
    Guarded b s (s.setSup v) :=
  ⟨rfl, fun _ => id, fun off locked => off (state locked), fun ok => ok.of_eq ladder rung attempts, powering⟩

/-- An entry into a state that does not lock the host rails, or from one that does. -/
theorem Guarded.enter {st : SupState} {sub : SupSub} (state : st.hostOff → s.sup.state.hostOff) (other : st ≠ .powering) :
    Guarded b s (s.enter st sub) :=
  ⟨rfl, fun _ ok => ok.of_eq rfl, fun off locked => off (state locked), fun ok => ok.of_eq rfl rfl rfl,
    fun now => absurd now other⟩

/-! ### Channels -/

/-- A mask shares no rail with a busy channel other than c (R62). -/
def State.Fits (s : State) (c : Fin 4) (mask : BitVec 6) : Prop :=
  ∀ d : Fin 4, d ≠ c → s.channels[d].busy = true → mask &&& s.channels[d].mask = 0

theorem State.ChannelsOk.fits (ok : s.ChannelsOk) {c : Fin 4} (busy : s.channels[c].busy = true) : s.Fits c s.channels[c].mask :=
  fun d other also => ok.1 c d other.symm busy also

/-- One channel's record changed. -/
theorem State.ChannelsOk.change (ok : s.ChannelsOk) {c : Fin 4} (others : ∀ d : Fin 4, d ≠ c → t.channels[d] = s.channels[d])
    (active : t.channels[c].activity ≠ .none → t.channels[c].busy = true)
    (fits : t.channels[c].busy = true → s.Fits c t.channels[c].mask) : t.ChannelsOk := by
  obtain ⟨apart, idle⟩ := ok
  refine ⟨fun d e differ busyD busyE => ?_, fun d works => ?_⟩
  · by_cases dHere : d = c
    · subst dHere
      have eOther : e ≠ d := differ.symm
      rw [others e eOther] at busyE ⊢
      exact fits busyD e eOther busyE
    · rw [others d dHere] at busyD ⊢
      by_cases eHere : e = c
      · subst eHere
        rw [BitVec.and_comm]
        exact fits busyE d dHere busyD
      · rw [others e eHere] at busyE ⊢
        exact apart d e differ busyD busyE
  · by_cases here : d = c
    · subst here
      exact active works
    · rw [others d here] at works ⊢
      exact idle d works

theorem EndsAs.guarded {c : Fin 4} {y : Channel} (h : EndsAs s t c y) (ended : y.busy = false) : Guarded b s t := by
  obtain ⟨here, others, -, frame⟩ := h
  refine .of_sequencer (by rw [frame]) (by rw [frame]) (fun _ ok => ok.change others ?_ ?_) fun r on => .inl ?_
  · rw [here]
    exact fun works => absurd rfl works
  · rw [here]
    exact fun busy => absurd (ended.symm.trans busy) Bool.false_ne_true
  · rw [frame] at on
    exact on

theorem FaultsWith.guarded {c : Fin 4} {x : Channel} {code : FaultCode} {step : Byte} (h : FaultsWith s t c x code step) :
    Guarded b s t := EndsAs.guarded h rfl

theorem ChannelsAborted.guarded {P : Fin 4 → Prop} (h : ChannelsAborted s t P) : Guarded b s t := by
  obtain ⟨order, -, -, aborted, others, -, frame⟩ := h
  have busy : ∀ c : Fin 4, t.channels[c].busy = true → t.channels[c] = s.channels[c] := fun c now => by
    by_cases listed : c ∈ order
    · rw [aborted c listed] at now
      exact absurd now Bool.false_ne_true
    · exact others c listed
  refine .of_sequencer (by rw [frame]) (by rw [frame]) (fun _ ok => ?_) fun r on => .inl (by rw [frame] at on; exact on)
  obtain ⟨apart, idle⟩ := ok
  refine ⟨fun c d differ busyC busyD => ?_, fun c works => ?_⟩
  · have sameC := busy c busyC
    have sameD := busy d busyD
    rw [sameC] at busyC ⊢
    rw [sameD] at busyD ⊢
    exact apart c d differ busyC busyD
  · by_cases listed : c ∈ order
    · rw [aborted c listed] at works
      exact absurd rfl works
    · rw [others c listed] at works ⊢
      exact idle c works

/-- A channel's record written in a state that keeps everything else (R55). -/
theorem Guarded.put_channel {c : Fin 4} {x y : Channel} (moved : t = { s with channels := put s.channels c y })
    (busy : y.busy = true) (mask : y.mask = x.mask) : Guarded (s.Fits c x.mask) s t := by
  rw [← mask, moved]
  refine .of_sequencer rfl rfl (fun fits ok => ok.change (c := c) (fun d other => put_other _ other.symm _) ?_ ?_) fun r on => .inl on
  · exact fun _ => (congrArg Channel.busy (put_same _ c y)).trans busy
  · intro _
    rw [show ({ s with channels := put s.channels c y } : State).channels[c] = y from put_same _ c y]
    exact fits

/-- A performance switches no locked rail on (R56). -/
theorem Performs.guarded {c : Fin 4} {x : Channel} {a : Action} (h : Performs s t c x a) : Guarded (s.Fits c x.mask) s t := by
  obtain ⟨unknown, outside, locked, done⟩ := h
  by_cases known : ((a.operation.toNat = 1 ∨ a.operation.toNat = 2) ∧ a.target.toNat < 6) ∨
      ((a.operation.toNat = 3 ∨ a.operation.toNat = 4 ∨ a.operation.toNat = 5) ∧ a.target.toNat < 4) ∨
      a.operation.toNat = 6 ∨ (a.operation.toNat = 7 ∧ (a.target.toNat < 3 ∨ a.target.toNat = 255))
  · by_cases out : (a.operation.toNat = 1 ∨ a.operation.toNat = 2) ∧ x.mask.getLsbD a.target.toNat = false
    · exact (outside known out).guarded
    · by_cases lock : a.operation.toNat = 1 ∧ (hostMask s.mem).getLsbD a.target.toNat = true ∧
          (s.sup.state = .off ∨ s.sup.state = .warming ∨ s.sup.state = .held)
      · exact (locked known out lock).guarded
      · obtain ⟨here, others, on, off, still, -, -, -, -, frame⟩ := done known out lock
        refine .of_sequencer (by rw [frame]) (by rw [frame]) (fun fits ok => ok.change others ?_ ?_) fun r commanded => ?_
        · rw [here]
          exact fun _ => rfl
        · rw [here]
          exact fun _ => fits
        · by_cases switched : (a.operation.toNat = 1 ∨ a.operation.toNat = 2) ∧ r.val = a.target.toNat
          · obtain ⟨op | op, named⟩ := switched
            · refine .inr fun ⟨closed, masked⟩ => lock ⟨op, named ▸ masked, (SupState.hostOff_iff _).1 closed⟩
            · rw [off r op named] at commanded
              split at commanded
              · exact absurd commanded Bool.false_ne_true
              · exact .inl commanded
          · rw [still r switched] at commanded
            exact .inl commanded
  · exact (unknown known).guarded

theorem Reaches.guarded {c : Fin 4} {x : Channel} {i : Byte} (h : Reaches s t c x i) : Guarded (s.Fits c x.mask) s t := by
  obtain ⟨action, delay, wait, invalid⟩ := h
  generalize hk : (if 127 < i.toNat then 0 else s.mem.byte (0x1400 + 8 * i.toNat)) = kind at action delay wait invalid
  by_cases isAction : kind = 1
  · exact (action isAction).guarded
  · by_cases isDelay : kind = 2
    · exact .put_channel (delay isDelay) rfl rfl
    · by_cases isWait : kind = 3
      · obtain ⟨beyond, within⟩ := wait isWait
        by_cases far : 5 < s.mem.byte (0x1400 + 8 * i.toNat + 2)
        · exact (beyond far).guarded
        · obtain ⟨matched, waits⟩ := within ⟨s.mem.byte (0x1400 + 8 * i.toNat + 2), by omega⟩ rfl
          by_cases good : s.rails[(⟨s.mem.byte (0x1400 + 8 * i.toNat + 2), by omega⟩ : Fin 6)].good =
              decide (s.mem.read (0x1400 + 8 * i.toNat + 3) ≠ 0#8)
          · exact .put_channel (matched good) rfl rfl
          · exact .put_channel (waits good) rfl rfl
      · exact (invalid isAction isDelay isWait).guarded

theorem BeginsRun.guarded {c : Fin 4} {x : Channel} (h : BeginsRun s t c x) : Guarded (s.Fits c x.mask) s t := by
  obtain ⟨none_, some_⟩ := h
  by_cases first : s.mem.read (0x1100 + 8 * x.sequence.val) = 0#8
  · exact (none_ first).guarded
  · exact (some_ first).guarded

theorem Proceeds.guarded {c : Fin 4} {x : Channel} {i : Byte} (h : Proceeds s t c x i) : Guarded (s.Fits c x.mask) s t := by
  obtain ⟨step, ends⟩ := h
  by_cases last : i = 0#8
  · obtain ⟨again, fewer, finished, followed⟩ := ends last
    have final (runs : x.runs = .none ∨ x.runs = .left 0 ∨ x.runs = .left 1) : Guarded (s.Fits c x.mask) s t := by
      by_cases beyond : 15 < s.mem.byte (0x1100 + 8 * x.sequence.val + 3)
      · exact (finished runs beyond).guarded rfl
      · let h : Fin 16 := ⟨s.mem.byte (0x1100 + 8 * x.sequence.val + 3), by omega⟩
        obtain ⟨conflict, begins⟩ := followed runs h rfl
        by_cases shared : ∃ d : Fin 4, d ≠ c ∧ s.channels[d].busy = true ∧ s.channels[d].mask &&& headMask s.mem h ≠ 0#6
        · exact (conflict shared).guarded
        · refine (begins shared).guarded.mono fun _ _ d other busy => ?_
          by_contra shares
          rw [BitVec.and_comm] at shares
          exact shared ⟨d, other, busy, shares⟩
    rcases runs : x.runs with - | - | (- | - | n)
    · exact final (.inl runs)
    · exact (again runs).guarded
    · exact final (.inr (.inl runs))
    · exact final (.inr (.inr runs))
    · exact (fewer n runs).guarded
  · exact (step last).guarded

end Sys2Proof.Machine
end

section
/-! SUPPORT. Each operation of the sequencer and of the supervisor keeps their invariants (R62, R71, R72, R81). -/

namespace Sys2Proof.Machine

open Sys2Proof Host

variable {s t u : State} {b : Prop}

/-! ### The sequencer's operations -/

theorem Guarded.of_busy {c : Fin 4} (h : Guarded (s.Fits c s.channels[c].mask) s t) : Guarded (s.channels[c].busy = true) s t :=
  h.mono fun busy ok => ok.fits busy

theorem State.send_guarded (s : State) (i : Instr) : Guarded b s (s.send i) := .of_host rfl rfl

theorem State.perform_guarded (s : State) (c : Fin 4) (a : Action) : Guarded (s.channels[c].busy = true) s (s.perform c a) :=
  (s.perform_here c a).guarded.of_busy

theorem State.proceed_guarded (s : State) (c : Fin 4) (i : Byte) : Guarded (s.channels[c].busy = true) s (s.proceed c i) :=
  (s.proceed_here c i).guarded.of_busy

theorem State.abortChannel_guarded (s : State) (c : Fin 4) : Guarded b s (s.abortChannel c .supervisor) :=
  (s.abortChannel_aborted c).guarded

theorem State.deskStop_guarded (s : State) (c : Fin 4) : Guarded b s (s.abortChannel c .desk) := by
  unfold State.abortChannel
  split
  · exact (State.endChannel_endsAs s c _).guarded rfl
  · exact .refl s

theorem SequenceRequested.guarded {h : Fin 16} {starter : Starter} {refusal : Option AnswerCode} {channel : Option (Fin 4)}
    (req : SequenceRequested s t h starter refusal channel) : Guarded b s t := by
  obtain ⟨full, conflict, begins⟩ := req
  by_cases shared : ∃ d : Fin 4, s.channels[d].busy = true ∧ s.channels[d].mask &&& headMask s.mem h ≠ 0#6
  · by_cases none_ : ∀ c : Fin 4, ¬ (c ≠ 0 ∧ s.channels[c].busy = false)
    · rw [(full none_).1]
      exact .refl s
    · rw [(conflict (by simpa using none_) shared).1]
      exact .refl s
  · rcases free : s.freeChannel with - | c
    · rw [(full (State.freeChannel_eq_none_iff.1 free)).1]
      exact .refl s
    · obtain ⟨here, lowest⟩ := State.freeChannel_eq_some free
      have run := (begins c here lowest shared).2.2
      refine (State.send_guarded s (.counterIncrement .channelsStarted)).then run.guarded fun d _ busy => ?_
      by_contra shares
      rw [BitVec.and_comm] at shares
      exact shared ⟨d, busy, shares⟩

theorem State.startSequence_guarded (s : State) (h : Fin 16) (starter : Starter) : Guarded b s (s.startSequence h starter).1 :=
  (s.startSequence_requested h starter).guarded

theorem WaitServed.guarded {c : Fin 4} {r : Fin 6} {level : Bool} (h : WaitServed s t c r level) : Guarded b s t := by
  obtain ⟨served, others⟩ := h
  by_cases waits : ∃ next due, s.channels[c].activity = .wait r level next due
  · obtain ⟨next, due, waits⟩ := waits
    refine (served next due waits).guarded.mono fun _ ok => ok.fits (ok.2 c ?_)
    rw [waits]
    exact Activity.noConfusion
  · rw [others fun next due waiting => waits ⟨next, due, waiting⟩]
    exact .refl s

theorem State.supervisorStart_guarded (s : State) (h : Fin 16) (off : Bool) : Guarded b s (s.supervisorStart h off) := by
  have cleared := s.clearWay_aborted h off
  have mem : (s.clearWay h off).mem = s.mem := by rw [(local_clearWay h off).frame s]; rfl
  rw [State.supervisorStart_eq]
  have numbered : Guarded b s (s.clearWay h off).numberStart :=
    cleared.guarded.then (Guarded.setSup (b := True) (v := (s.clearWay h off).numberStart.sup) id id rfl rfl rfl) trivial
  refine (numbered.then ((s.clearWay h off).numberStart.send_guarded (b := True) (.counterIncrement .channelsStarted)) trivial).then
    (State.setUp_begins (s.clearWay h off).numberStart 0 h .supervisor _).guarded fun d other busy => ?_
  obtain ⟨order, -, listed, aborted, others, -⟩ := cleared
  have still : (s.clearWay h off).channels[d].busy = true := busy
  have same : (s.clearWay h off).channels[d] = s.channels[d] := others d fun here => by
    rw [aborted d here] at still
    exact absurd still Bool.false_ne_true
  by_contra shares
  have here := (listed d).2 ⟨same ▸ still, .inr (.inl ?_)⟩
  · rw [aborted d here] at still
    exact absurd still Bool.false_ne_true
  · rw [← same, ← mem, BitVec.and_comm]
    exact shares

/-- After a forced cut the host rails stand commanded off (R54). -/
theorem State.forcedCut_hostOff (s : State) : s.forcedCut.HostOff := by
  have mem : s.forcedCut.mem = s.mem := by rw [local_forcedCut.frame s]; rfl
  obtain ⟨cut, -⟩ := s.forcedCut_cutUnder
  intro r masked
  rw [mem] at masked
  rw [cut r masked]

theorem State.forcedCut_guarded (s : State) : Guarded b s s.forcedCut := by
  have sup : s.forcedCut.sup = s.sup := by rw [local_forcedCut.frame s]; rfl
  have mem : s.forcedCut.mem = s.mem := by rw [local_forcedCut.frame s]; rfl
  have off := s.forcedCut_hostOff
  obtain ⟨cut, others, -, aborted, same, -⟩ := s.forcedCut_cutUnder
  refine .of_sequencer sup mem (fun _ ok => ?_) fun r on => ?_
  · have busy : ∀ c : Fin 4, s.forcedCut.channels[c].busy = true → s.forcedCut.channels[c] = s.channels[c] := fun c now => by
      by_cases way : s.channels[c].busy = true ∧ (c = 0 ∨ s.channels[c].mask &&& hostMask s.mem ≠ 0#6)
      · rw [(aborted c way.1 way.2).1] at now
        exact absurd now Bool.false_ne_true
      · exact same c (by simpa [or_iff_not_imp_left] using way)
    obtain ⟨apart, idle⟩ := ok
    refine ⟨fun c d differ busyC busyD => ?_, fun c works => ?_⟩
    · have sameC := busy c busyC
      have sameD := busy d busyD
      rw [sameC] at busyC ⊢
      rw [sameD] at busyD ⊢
      exact apart c d differ busyC busyD
    · by_cases way : s.channels[c].busy = true ∧ (c = 0 ∨ s.channels[c].mask &&& hostMask s.mem ≠ 0#6)
      · rw [(aborted c way.1 way.2).1] at works
        exact absurd rfl works
      · have kept := same c (by simpa [or_iff_not_imp_left] using way)
        rw [kept] at works ⊢
        exact idle c works
  · rcases masked : (hostMask s.mem).getLsbD r.val with - | -
    · exact .inr fun both => Bool.false_ne_true both.2
    · rw [cut r masked] at on
      exact absurd on Bool.false_ne_true

/-! ### The supervisor's operations -/

/-- An entry into a state that locks the host rails from one that does, or with them off (R72). -/
theorem State.enter_guarded {st : SupState} {sub : SupSub} (state : st.hostOff → s.sup.state.hostOff ∨ s.HostOff)
    (other : st ≠ .powering) : Guarded b s (s.enter st sub) :=
  ⟨rfl, fun _ ok => ok.of_eq rfl, fun off locked => (state locked).elim off id, fun ok => ok.of_eq rfl rfl rfl,
    fun now => absurd now other⟩

/-- A change of the supervisor that leaves its state and its ladder position. -/
theorem State.setSup_guarded {v : Sup} (state : v.state = s.sup.state) (ladder : v.ladder = s.sup.ladder) (rung : v.rung = s.sup.rung)
    (attempts : v.attempts = s.sup.attempts) : Guarded b s (s.setSup v) :=
  .setSup (fun locked => state ▸ locked) (fun now => state ▸ now) ladder rung attempts

/-- The state and the ladder position of the supervisor. -/
def Sup.position (v : Sup) : SupState × LadderCopy × Fin 6 × Nat := (v.state, v.ladder, v.rung, v.attempts)

theorem Guarded.setting {v : Sup} (h : Guarded b s t) (same : v.position = t.sup.position) : Guarded b s (t.setSup v) := by
  unfold Sup.position at same
  obtain ⟨state, ladder, rung, attempts⟩ : v.state = t.sup.state ∧ v.ladder = t.sup.ladder ∧ v.rung = t.sup.rung ∧
      v.attempts = t.sup.attempts := by simpa using same
  exact h.then (State.setSup_guarded (b := True) state ladder rung attempts) trivial

theorem Guarded.sending (h : Guarded b s t) (i : Instr) : Guarded b s (t.send i) := h.then (t.send_guarded (b := True) i) trivial

theorem Guarded.entering {st : SupState} {sub : SupSub} (h : Guarded b s t)
    (state : st.hostOff → t.sup.state.hostOff ∨ t.HostOff) (other : st ≠ .powering) : Guarded b s (t.enter st sub) :=
  h.then (State.enter_guarded (b := True) state other) trivial

/-- An entry into a state that does not lock the host rails, and is not POWERING. -/
theorem Guarded.opening {st : SupState} {sub : SupSub} (h : Guarded b s t) (free : st.hostOff = false)
    (other : st ≠ .powering) : Guarded b s (t.enter st sub) :=
  h.entering (fun locked => absurd (free.symm.trans locked) Bool.false_ne_true) other

theorem Guarded.starting (h : Guarded b s t) (head : Fin 16) (off : Bool) : Guarded b s (t.supervisorStart head off) :=
  h.then (t.supervisorStart_guarded (b := True) head off) trivial

theorem State.startOrder_guarded (locked : s.sup.state.hostOff ∨ s.HostOff) : Guarded b s s.startOrder := by
  unfold State.startOrder
  dsimp only
  refine .setting (.entering (.sending (.setting (.refl s) (by rfl)) _) (fun _ => locked) (by decide)) (by rfl)

theorem State.powerOn_guarded (s : State) : Guarded b s s.powerOn.1 := by
  unfold State.powerOn
  split
  next off => exact State.startOrder_guarded (.inl ((SupState.hostOff_iff _).2 (.inl off)))
  · exact .refl s

/-- A ladder position at rung 0 with 0 attempts is sound (R79, R81). -/
theorem Sup.resetLadder_ok (v : Sup) (m : Memory) : (v.resetLadder m).LadderOk :=
  ⟨(rungCount_bounds m).1, Nat.zero_le _, (rungCount_bounds m).2, fun r => by
    rw [show (v.resetLadder m).ladder.limits[r] = rungLimit m r from ladderOf_limits m r]
    exact rungLimit_bounds m r⟩

/-- A change of the supervisor to a sound ladder position, in the state it is in. -/
theorem State.setSup_ladder {v : Sup} (state : v.state = s.sup.state) (ok : v.LadderOk) : Guarded b s (s.setSup v) :=
  ⟨rfl, fun _ => id, fun off locked => off (state ▸ locked), fun _ => ok, fun now => state ▸ now⟩

theorem State.releaseHold_guarded (s : State) : Guarded b s s.releaseHold.1 := by
  unfold State.releaseHold
  split
  next held =>
    have reset : Guarded b s (s.setSup (s.sup.resetLadder s.mem)) := State.setSup_ladder rfl (s.sup.resetLadder_ok s.mem)
    have locked : (s.setSup (s.sup.resetLadder s.mem)).sup.state.hostOff := (SupState.hostOff_iff _).2 (.inr (.inr held))
    exact reset.then (State.startOrder_guarded (b := True) (.inl locked)) trivial
  · exact .refl s

theorem State.enterSequence_guarded (s : State) (r : Restart) : Guarded b s (s.enterSequence r) := by
  rw [State.enterSequence_eq]
  have entered : Guarded b s (s.enter .restarting .sequence) := .opening (.refl s) (by rfl) (by decide)
  have sequenced : Guarded b s (s.sequenced r) := by
    unfold State.sequenced
    exact entered.setting rfl
  exact sequenced.starting _ _

theorem State.enterRestarting_guarded (s : State) (rung : Fin 6) (origin : Origin) : Guarded b s (s.enterRestarting rung origin) := by
  rw [State.enterRestarting_eq]
  have begun : Guarded b s (s.holdOffBegun rung origin) := by
    unfold State.holdOffBegun State.heldOff
    exact (Guarded.setting (.opening (.setting (.refl s) (by rfl)) (by rfl) (by decide)) (by rfl)).then
      (State.abortChannel_guarded (b := True) _ _) trivial
  dsimp only
  split
  · exact begun.setting (by rfl)
  · exact begun.then (State.enterSequence_guarded (b := True) _ _) trivial

theorem State.enterShutting_guarded (s : State) (target : ShutTarget) (halt : Nat) (wake : Option Nat) :
    Guarded b s (s.enterShutting target halt wake) := by
  rw [State.enterShutting_eq]
  have begun : Guarded b s (s.haltBegun target wake) := by
    unfold State.haltBegun State.shutting
    exact (Guarded.setting (.opening (.setting (.refl s) (by rfl)) (by rfl) (by decide)) (by rfl)).then
      (State.abortChannel_guarded (b := True) _ _) trivial
  dsimp only
  split
  · exact begun.setting (by rfl)
  · exact begun.starting _ _

theorem State.beginCause_guarded (s : State) (cause : Cause) : Guarded b s (s.beginCause cause) :=
  .sending (.setting (.refl s) (by rfl)) _

theorem State.recordCause_guarded (s : State) (before : Sup) (cause : Cause) (d : Decision) (detail : Nat) :
    Guarded b s (s.recordCause before cause d detail) :=
  .sending (.setting (.refl s) (by rfl)) _

theorem State.requestedRestart_guarded (s : State) (rung : Fin 6) (cause : Cause) (origin : Origin) :
    Guarded b s (s.requestedRestart rung cause origin) :=
  (s.beginCause_guarded cause).then ((State.enterRestarting_guarded (b := True) _ rung origin).then
    (State.recordCause_guarded (b := True) _ _ _ _ _) trivial) trivial

/-- A ladder decision leaves a sound position (R81, R82). -/
theorem Decided.ladderOk {v w : Sup} {m : Memory} {d : Decision} (h : Decided w m v d) : v.LadderOk := by
  obtain ⟨cur, position, ladder, fewer, next, full⟩ := h
  obtain ⟨least, most⟩ := rungCount_bounds m
  have bounds := rungLimit_bounds m
  have count : v.ladder.rungCount = rungCount m := by rw [ladder]; rfl
  have limits : ∀ r : Fin 6, v.ladder.limits[r] = rungLimit m r := fun r => by
    simp only [ladder]
    exact ladderOf_limits m r
  have within : cur.val < rungCount m := by rw [position]; split <;> omega
  have reached : min w.attempts (rungLimit m cur) ≤ rungLimit m cur := min_le_right _ _
  have tries : v.rung.val < rungCount m ∧ v.attempts ≤ rungLimit m v.rung := by
    rcases reached.lt_or_eq with less | all
    · obtain ⟨-, -, rung, attempts⟩ := fewer less
      rw [rung, attempts]
      exact ⟨within, less⟩
    · by_cases more : cur.val + 1 < rungCount m
      · obtain ⟨-, attempts, r, up, -, rung⟩ := next all more
        rw [rung, attempts, up]
        exact ⟨more, (bounds r).1⟩
      · obtain ⟨-, -, rung, attempts⟩ := full all (by omega)
        rw [rung, attempts]
        exact ⟨within, le_refl _⟩
  refine ⟨by rw [count]; exact tries.1, ?_, by rw [count]; exact most, fun r => by rw [limits]; exact bounds r⟩
  rw [limits]
  exact tries.2

theorem State.ladderCause_guarded (s : State) (cause : Cause) (detail : Nat) : Guarded b s (s.ladderCause cause detail) := by
  have state : s.deciding.1.state = s.sup.state := by
    unfold State.deciding
    rw [Sup.decide_keeps]
    rfl
  rw [State.ladderCause_eq]
  have decided : Guarded b s ((s.counted cause).setSup s.deciding.1) :=
    (s.send_guarded (.counterIncrement (.cause cause))).then
      (State.setSup_ladder (b := True) (s := s.counted cause) state s.deciding_decided.ladderOk) trivial
  refine Guarded.then (t := s.ladderOrder cause) ?_ (State.recordCause_guarded (b := True) _ _ _ _ _) trivial
  unfold State.ladderOrder
  split
  · exact decided.then (State.enterRestarting_guarded (b := True) _ _ _) trivial
  · exact decided.then (State.enterShutting_guarded (b := True) _ _ _ _) trivial

theorem State.railDropCause_guarded (s : State) (r : Fin 6) : Guarded b s (s.railDropCause r) := by
  by_cases taken : s.sup.TakesDrops
  · have cause : s.railDropCause r = s.ladderCause .railDrop r.val := by
      unfold State.railDropCause
      rcases taken with state | state | state <;> rw [state]
    rw [cause]
    exact s.ladderCause_guarded _ _
  · rw [State.railDropCause_idle taken]
    exact .refl s

theorem State.chordRestart_guarded (s : State) (r : Fin 6) : Guarded b s (s.chordRestart r).1 := by
  unfold State.chordRestart
  split
  · exact .refl s
  · exact s.requestedRestart_guarded _ _ _

theorem State.enterBooting_guarded (s : State) : Guarded b s s.enterBooting :=
  .setting (.opening (.refl s) (by rfl) (by decide)) (by rfl)

theorem State.enterWatching_guarded (s : State) : Guarded b s s.enterWatching :=
  .setting (.opening (.refl s) (by rfl) (by decide)) (by rfl)

theorem State.enterRunning_guarded (s : State) : Guarded b s s.enterRunning :=
  s.enterWatching_guarded.setting (by rfl)

theorem State.takeCheckpoint_guarded (s : State) (v : Byte) : Guarded b s (s.takeCheckpoint v) := by
  have checked : Guarded b s (s.checked v) := .setting (.refl s) (by rfl)
  by_cases same : s.sup.checkpointCopy = some v
  · rw [State.takeCheckpoint_same same]
    exact .refl s
  · by_cases booting : s.sup.state = .booting
    · by_cases up : s.sup.bootStage < v.toNat ∧ v.toNat ≤ 15
      · have advanced : Guarded b s (s.advanced v) := .setting (.refl s) (by rfl)
        rw [State.takeCheckpoint_up same booting up]
        split
        · exact advanced.then (State.enterRunning_guarded (b := True) _) trivial
        · exact advanced
      · rw [State.takeCheckpoint_ignored same booting up]
        exact checked.sending _
    · rw [State.takeCheckpoint_elsewhere same booting]
      exact checked

theorem State.takeHeartbeat_guarded (s : State) (v : DWord) : Guarded b s (s.takeHeartbeat v) := by
  have kicked : Guarded b s (s.kicked v) := .setting (.refl s) (by rfl)
  by_cases same : s.sup.heartbeatCopy = v
  · rw [State.takeHeartbeat_same same]
    exact .refl s
  · rw [State.takeHeartbeat_other same]
    split
    · split
      · exact (Guarded.sending (.setting (kicked.sending _) (by rfl)) _).then
          (State.enterWatching_guarded (b := True) _) trivial
      · exact kicked.sending _
      · exact .setting (kicked.sending _) (by rfl)
    · exact kicked.sending _
    · exact kicked.sending _
    · exact kicked

theorem State.forcedShutdown_guarded (s : State) : Guarded b s s.forcedShutdown := by
  by_cases idle : s.sup.state = .off ∨ s.sup.state = .held
  · rw [State.forcedShutdown_idle idle]
    exact .refl s
  · obtain ⟨off, held⟩ := not_or.1 idle
    by_cases shutting : s.sup.state = .shutting
    · have ended : Guarded b s s.haltEnded := .setting (.refl s) (by rfl)
      rw [State.forcedShutdown_shutting shutting]
      split
      · exact ended.starting _ _
      · exact ended
    · rw [State.forcedShutdown_other off held shutting]
      exact s.enterShutting_guarded _ _ _

theorem State.cutAndRelease_guarded (s : State) : Guarded b s s.cutAndRelease :=
  s.forcedCut_guarded.setting (by rfl)

theorem State.cutAndRelease_hostOff (s : State) : s.cutAndRelease.HostOff := s.forcedCut_hostOff

theorem State.rewarm_guarded (s : State) : Guarded b s s.rewarm :=
  s.cutAndRelease_guarded.then (State.startOrder_guarded (b := True) (.inr s.cutAndRelease_hostOff)) trivial

theorem State.shutDone_guarded (s : State) : Guarded b s s.shutDone := by
  rw [State.shutDone_eq]
  have off := s.cutAndRelease_hostOff
  have cut : Guarded b s s.cutAndRelease := s.cutAndRelease_guarded
  generalize s.cutAndRelease = m at off cut
  have held (byLadder : Bool) : Guarded b s (m.enterHeld byLadder) :=
    .setting (.sending (.sending (.entering cut (fun _ => .inr off) (by decide)) _) _) (by rfl)
  unfold State.targetEntered
  split
  · exact held true
  · exact held false
  · exact .setting (.entering cut (fun _ => .inr off) (by decide)) (by rfl)

theorem State.hostMaskEdited_guarded (s : State) (before after : Byte) : Guarded b s (s.hostMaskEdited before after) := by
  unfold State.hostMaskEdited
  split
  · exact s.forcedCut_guarded
  · exact .refl s

/-- A PG change switches no rail on (R50, R51). -/
theorem State.takePg_guarded (s : State) (r : Fin 6) (level : Bool) : Guarded b s (s.takePg r level) := by
  have told : Guarded b s (s.levelTold r level) := by
    have recorded : Guarded b s ((s.levelTaken r level).deliverRail r) := by
      rw [State.deliverRail_link, State.levelTaken_eq]
      refine .of_sequencer rfl rfl (fun _ ok => ok.of_eq rfl) fun d on => .inl ?_
      have here := put_get s.rails r d { s.rails[r] with
        good := level, watched := if s.rails[r].commanded = true then level else s.rails[r].watched }
      have on' := (congrArg Rail.commanded here).symm.trans on
      split at on'
      next same => exact same ▸ on'
      · exact on'
    have served (m : State) (c : Fin 4) (h : Guarded b s m) : Guarded b s (m.serveWait r level c) :=
      h.then ((State.serveWait_served r level m c).guarded (b := True)) trivial
    unfold State.levelTold
    rw [State.satisfyWaits_eq]
    exact served _ 3 (served _ 2 (served _ 1 (served _ 0 recorded)))
  rw [State.takePg_eq]
  split
  · exact told.then (State.railDropCause_guarded (b := True) _ _) trivial
  · exact told

end Sys2Proof.Machine
end

section
/-! SUPPORT. Each command keeps the invariants of the sequencer and of the supervisor (R62, R71, R72, R81). -/

namespace Sys2Proof.Machine

open Sys2Proof Host

variable {s t u : State} {b : Prop}

/-! ### The chord and light unit's orders -/

theorem Guarded.hosting (h : Guarded b s t) (host : u.host = t.host) (mem : u.mem = t.mem) : Guarded b s u :=
  h.then (Guarded.of_host (b := True) host (by rw [mem])) trivial

/-- An operation that leaves the host side and the kept blocks as they are. -/
theorem Guarded.of_kept (host : t.host = s.host) (kept : t.kept = s.kept) : Guarded b s t :=
  .of_host host (by rw [show t.mem = s.mem from congrArg Kept.mem kept])

theorem State.chordSend_guarded (s : State) (action argument : Nat) : Guarded b s (s.chordSend action argument).1 := by
  have boost (target n) : Guarded b s (s.takeBoost target n).1 := .of_kept (s.takeBoost_host ..) (s.takeBoost_kept ..)
  have sweep (f m a o) : Guarded b s (s.startSweep f m a o).1 := .of_kept (s.startSweep_host ..) (s.startSweep_kept ..)
  unfold State.chordSend
  dsimp only
  split
  · exact s.chordRestart_guarded _
  · exact s.powerOn_guarded
  · exact s.releaseHold_guarded
  · exact boost _ _
  · exact sweep _ _ _ _
  · split <;> exact s.startSequence_guarded _ _
  · exact .hosting (.refl s) rfl rfl
  · exact .refl s

theorem State.fireChord_guarded (s : State) (n : Fin 8) : Guarded b s (s.fireChord n) := by
  unfold State.fireChord
  dsimp only
  have fired := (s.chordSend_guarded (b := b) (chordAction s.mem n) (chordArgument s.mem n)).sending
    (.counterIncrement .chordsFired)
  split
  · exact .sending (fired.sending _) _
  · exact fired.sending _

theorem State.matchChord_guarded (s : State) (held : List Nat) (n : Fin 8) : Guarded b s (s.matchChord held n) := by
  have chord (c : Chord) : Guarded b s (s.setChord n c) := .hosting (.refl s) rfl rfl
  unfold State.matchChord
  dsimp only
  repeat' split
  · exact chord _
  · exact chord _
  · exact .refl s
  · exact (chord _).then (State.fireChord_guarded (b := True) _ n) trivial
  · exact chord _

theorem State.longOrder_guarded {r : State × Option AnswerCode} (h : Guarded b s r.1) (n : Nat) :
    Guarded b s (s.longOrder n r) := by
  have disarmed : Guarded b s (r.1.setChords r.1.chords.disarm) := h.hosting rfl rfl
  unfold State.longOrder
  dsimp only
  split
  · exact .sending (disarmed.sending _) _
  · exact disarmed.sending _

/-- A change of the chord and light unit's own record, published. -/
theorem State.timed_guarded (s : State) (c : ChordUnit) : Guarded b s (s.setChords c).publishChords := .of_host rfl rfl

theorem State.longPress_guarded (s : State) : Guarded b s s.longPress := by
  unfold State.longPress
  split
  · exact State.longOrder_guarded s.powerOn_guarded 1
  · exact State.longOrder_guarded s.releaseHold_guarded 2
  · split
    · exact s.send_guarded _
    · exact (s.timed_guarded _).sending _
  · split
    · exact s.send_guarded _
    · exact (s.timed_guarded _).sending _
  · exact s.send_guarded _

/-- A forced shutdown that the chord and light unit orders, and its report. -/
theorem State.forcedReport_guarded {m : State} (host : m.host = s.host) (mem : m.mem = s.mem) (n w r k) :
    Guarded b s (m.forcedShutdown.reportPower n w r k) :=
  .sending ((Guarded.hosting (.refl s) host mem).then (State.forcedShutdown_guarded (b := True) m) trivial) _

theorem State.forcedHold_guarded (s : State) (p : PowerPress) : Guarded b s (s.forcedHold p) := by
  unfold State.forcedHold
  split
  · exact .refl s
  · split
    · exact .refl s
    · exact .refl s
    · exact State.forcedReport_guarded (by rfl) (by rfl) _ _ _ _

theorem State.forcedOff_guarded (s : State) (word : DWord) : Guarded b s (s.forcedOff word) :=
by
  have stopped : Guarded b s s.forcedStopped := .of_host (by rfl) (by rfl)
  rw [s.forcedOff_eq]
  exact .sending (stopped.then (State.forcedShutdown_guarded (b := True) _) trivial) _

theorem State.checkLong_guarded (s : State) : Guarded b s s.checkLong := by
  unfold State.checkLong
  split
  · exact .refl s
  · split
    · exact (Guarded.hosting (.refl s) (by rfl) (by rfl)).then (State.longPress_guarded (b := True) _) trivial
    · exact .refl s

theorem State.checkForced_guarded (s : State) : Guarded b s s.checkForced := by
  unfold State.checkForced
  split
  · exact .refl s
  · split
    · exact (Guarded.hosting (.refl s) (by rfl) (by rfl)).then (State.forcedHold_guarded (b := True) _ _) trivial
    · exact .refl s

theorem State.handOff_guarded (s : State) (held : List (Fin 64 × KeyEntry)) : Guarded True s (s.handOff held) := by
  have chords (codes : List Nat) : Guarded True s ((indices 8).foldl (fun s n => s.matchChord codes n) s) :=
    .foldl (fun s n => s.matchChord_guarded codes n) _ s
  have taken : Guarded True s (s.takeHeld held) := by
    unfold State.takeHeld
    dsimp only
    have matched := chords (held.map fun h => h.2.code.toNat)
    generalize (indices 8).foldl (fun s n => s.matchChord (held.map fun h => h.2.code.toNat) n) s = m at matched
    have recorded : Guarded True s ((m.setChords (m.chords.seeing s.chords)).powerRecord (held.any fun h => h.2.power)) :=
      matched.hosting rfl rfl
    have checked := (recorded.then (State.checkLong_guarded (b := True) _) trivial).then
      (State.checkForced_guarded (b := True) _) trivial
    generalize ((m.setChords (m.chords.seeing s.chords)).powerRecord (held.any fun h => h.2.power)).checkLong.checkForced = n
      at checked ⊢
    exact checked.hosting rfl rfl
  unfold State.handOff
  generalize s.takeHeld held = u at taken
  dsimp only
  split
  · exact taken
  · exact taken.hosting rfl rfl

/-! ### The schedule -/

/-- No byte of the schedule's entries holds the host rail mask. -/
theorem State.writeEntry_guarded (s : State) (e : Fin 32) (offset v : Nat) : Guarded b s (s.writeEntry e offset v) := by
  refine .of_host rfl ?_
  have other : entryBase e + offset ≠ 0x10E0 := by
    unfold entryBase
    omega
  exact congrArg (BitVec.setWidth 6) (Memory.read_write_other s.mem other (BitVec.ofNat 8 v))

theorem State.entryAct_guarded (s : State) (e : Fin 32) : Guarded b s (s.entryAct e) := by
  have sent : Guarded b s (s.entrySend e).1 := by
    have snapshot : Guarded b s (s.snapshot e) :=
      .of_host (s.snapshot_host e) (by rw [show (s.snapshot e).mem = s.mem from congrArg Kept.mem (s.snapshot_kept e)])
    have boost (target n) : Guarded b s (s.takeBoost target n).1 :=
      .of_kept (s.takeBoost_host ..) (s.takeBoost_kept ..)
    have sweep (f m a o) : Guarded b s (s.startSweep f m a o).1 :=
      .of_kept (s.startSweep_host ..) (s.startSweep_kept ..)
    unfold State.entrySend
    dsimp only
    split
    · split <;> exact s.startSequence_guarded _ _
    · exact sweep _ _ _ _
    · exact snapshot
    · exact boost _ _
    · exact .refl s
  unfold State.entryAct
  generalize s.entrySend e = r at sent
  dsimp only
  split
  · exact (sent.sending (.counterIncrement .scheduleSkips)).hosting rfl rfl
  · exact sent.hosting rfl rfl

theorem State.takeEntry_guarded (k : Fin 8) (s : State) (e : Fin 32) : Guarded b s (State.takeEntry k s e) := by
  unfold State.takeEntry
  dsimp only
  split
  · exact .refl s
  · split
    · exact .refl s
    · split
      · exact (s.entryAct_guarded e).then (State.writeEntry_guarded (b := True) _ _ _ _) trivial
      · split
        · exact s.writeEntry_guarded _ _ _
        · have acted : Guarded b s { s.entryAct e with
              sched := { (s.entryAct e).sched with genCount := (s.entryAct e).sched.genCount + 1 } } :=
            (s.entryAct_guarded e).hosting rfl rfl
          exact acted.then (State.writeEntry_guarded (b := True) _ _ _ _) trivial

/-! ### Commands that leave the host side alone -/

/-- The commands that change no channel, no rail and nothing of the supervisor. -/
def keepsHost : Instr → Bool
  | .sensorSample .. | .s4ColdModeUpdate .. | .climatePass .. | .heaterOutputOff .. | .gateRearm | .boostRequest ..
  | .tachometerUpdate .. | .tachometerPulse .. | .spinUpLimitExpiry .. | .sweepSettleEnd | .lightTestEnd | .lightTableWrite
  | .tickLadderEdit .. | .status .. | .read .. | .write .. | .badCommand .. | .noticeEnable .. | .noticeAcknowledge ..
  | .noticeMarkSet .. | .linkRailEdit .. | .climateOverride .. | .fanSweep .. | .storeSettings .. | .storeComplete ..
  | .reloadSettings .. | .clearCounters .. | .freezeCounters .. | .flushReports .. | .keypadLock .. | .badKind ..
  | .deskOverpost .. | .deskAnswer .. | .reportPosting .. | .collection .. | .ageTick | .coalesceTimerExpiry | .restartFlush
  | .counterIncrement .. => true
  | _ => false

theorem exec_host (i : Instr) (h : keepsHost i = true) (e : exec i s = .next t) : t.host = s.host := by
  cases i with
  | sensorSample ch raw =>
    change execSensorSample ch raw s = _ at e
    unfold execSensorSample at e
    split at e
    · cases e; rfl
    · cases e; split <;> exact State.reportSensor_host ..
  | climatePass supplyLow =>
    change execClimatePass supplyLow s = _ at e
    unfold execClimatePass at e
    split at e
    · cases e; rfl
    · cases e; exact State.climatePass_host ..
  | heaterOutputOff z =>
    change execHeaterOutputOff z s = _ at e
    unfold execHeaterOutputOff at e
    split at e <;> cases e <;> rfl
  | boostRequest target seconds =>
    change execBoostRequest target seconds s = _ at e
    cases e
    exact State.takeBoost_host ..
  | tachometerUpdate f =>
    change execTachometerUpdate f s = _ at e
    unfold execTachometerUpdate at e
    split at e
    · cases e; rfl
    · cases e
      rw [State.deliverRpm_host]
      rfl
  | spinUpLimitExpiry f =>
    change execSpinUpLimitExpiry f s = _ at e
    unfold execSpinUpLimitExpiry at e
    dsimp only at e
    repeat' split at e
    all_goals cases e; simp
  | sweepSettleEnd =>
    change execSweepSettleEnd s = _ at e
    unfold execSweepSettleEnd at e
    dsimp only at e
    repeat' split at e
    all_goals cases e; rfl
  | lightTestEnd =>
    change execLightTestEnd s = _ at e
    unfold execLightTestEnd at e
    split at e <;> cases e <;> rfl
  | tickLadderEdit before after =>
    change execTickLadderEdit before after s = _ at e
    unfold execTickLadderEdit at e
    cases e
    split <;> rfl
  | status cs inbound => cases e; exact s.select_host ..
  | read cs inbound => cases e; exact s.select_host ..
  | write cs inbound => cases e; exact s.select_host ..
  | badCommand cs command inbound => cases e; exact s.select_host ..
  | linkRailEdit before after =>
    change execLinkRailEdit before after s = _ at e
    unfold execLinkRailEdit at e
    dsimp only at e
    split at e <;> cases e <;> rfl
  | climateOverride slot zone duty seconds =>
    change execClimateOverride slot zone duty seconds s = _ at e
    unfold execClimateOverride at e
    dsimp only at e
    split at e <;> cases e <;> rfl
  | fanSweep slot fan mode =>
    change execFanSweep slot fan mode s = _ at e
    unfold execFanSweep at e
    dsimp only at e
    repeat' split at e
    all_goals cases e; simp
  | storeSettings slot =>
    change execStoreSettings slot s = _ at e
    unfold execStoreSettings at e
    dsimp only at e
    split at e <;> cases e <;> rfl
  | storeComplete us verified =>
    change execStoreComplete us verified s = _ at e
    unfold execStoreComplete at e
    dsimp only at e
    repeat' split at e
    all_goals cases e; rfl
  | reloadSettings slot =>
    change execReloadSettings slot s = _ at e
    unfold execReloadSettings at e
    dsimp only at e
    repeat' split at e
    all_goals cases e; rfl
  | clearCounters slot group =>
    change execClearCounters slot group s = _ at e
    unfold execClearCounters at e
    dsimp only at e
    split at e <;> cases e <;> rfl
  | freezeCounters slot on =>
    change execFreezeCounters slot on s = _ at e
    unfold execFreezeCounters at e
    dsimp only at e
    split at e <;> cases e <;> rfl
  | flushReports slot cls =>
    change execFlushReports slot cls s = _ at e
    unfold execFlushReports at e
    dsimp only at e
    split at e <;> cases e <;> rfl
  | keypadLock slot lock =>
    change execKeypadLock slot lock s = _ at e
    unfold execKeypadLock at e
    dsimp only at e
    split at e <;> cases e <;> rfl
  | badKind slot => cases e; exact State.takeOutcome_host ..
  | deskAnswer slot code data => cases e; exact State.takeOutcome_host ..
  | reportPosting report => cases e; exact State.post_host ..
  | ageTick =>
    change execAgeTick s = _ at e
    unfold execAgeTick at e
    split at e <;> cases e <;> rfl
  | coalesceTimerExpiry =>
    change execCoalesceTimerExpiry s = _ at e
    unfold execCoalesceTimerExpiry at e
    split at e <;> cases e <;> rfl
  | restartFlush =>
    change execRestartFlush s = _ at e
    unfold execRestartFlush at e
    cases e
    split <;> rfl
  | s4ColdModeUpdate state held sampled => cases e; rfl
  | gateRearm => cases e; rfl
  | tachometerPulse us f => cases e; rfl
  | lightTableWrite => cases e; rfl
  | noticeEnable enable acknowledge => cases e; rfl
  | noticeAcknowledge acknowledge => cases e; rfl
  | noticeMarkSet m => cases e; rfl
  | deskOverpost slot => cases e; rfl
  | collection cells => cases e; rfl
  | counterIncrement c => cases e; rfl
  | _ => exact absurd h Bool.false_ne_true

end Sys2Proof.Machine
end

section
/-! SUPPORT. Every step keeps the invariants of the sequencer and of the supervisor (R62, R71, R72, R81). -/

namespace Sys2Proof.Machine

open Sys2Proof Host

variable {s t u : State}

/-! ### The sequencer's commands -/

theorem State.reachTime_guarded (s : State) (due : Nat) : Guarded True s (s.reachTime due) := .of_host rfl rfl

theorem State.taking_guarded (s : State) (i : Instr) : Guarded True s (s.taking i) := .of_host rfl rfl

theorem State.elapse_guarded (s : State) (us : Nat) : Guarded True s (s.elapse us) := .of_host rfl rfl

/-- An operation at its due time on a channel that was at work: such a channel is busy (R65, R66). -/
theorem State.dueWork_guarded {c : Fin 4} {due : Nat} (active : s.channels[c].activity ≠ .none)
    (work : Guarded ((s.reachTime due).channels[c].busy = true) (s.reachTime due) t) : Guarded True s t :=
  (s.reachTime_guarded due).trans work fun _ ok => ok.2 c active

/-- A busy channel's record written with the same state and mask. -/
theorem State.rewritten_guarded (s : State) {c : Fin 4} {y : Channel} (busy : y.busy = s.channels[c].busy)
    (mask : y.mask = s.channels[c].mask) : Guarded (s.channels[c].busy = true) s (s.setChan c y) := by
  have here : (s.setChan c y).channels[c] = y := put_same _ _ _
  refine .of_sequencer rfl rfl (fun runs ok => ok.change (c := c) (fun d other => put_other _ other.symm _) ?_ ?_)
    fun r on => .inl on
  · exact fun _ => (congrArg Channel.busy here).trans (busy.trans runs)
  · intro _
    rw [here, mask]
    exact ok.fits runs

/-- A timer of a channel at work: the channel performs, proceeds, binds its DELAY or faults (R56 to R59). -/
theorem exec_channelTimer_guarded {c : Fin 4} {i : Instr}
    (timer : i = .actionPerformanceEnd c ∨ i = .delayEnd c ∨ i = .waitMatchedComplete c ∨ i = .waitTimeout c)
    (e : exec i s = .next t) : Guarded True s t := by
  have next {a} (working : s.channels[c].activity = a) (some_ : a ≠ .none) : s.channels[c].activity ≠ .none :=
    working ▸ some_
  have decided (due : Nat) (active : s.channels[c].activity ≠ .none) (a : Action) (i : Byte) :
      Guarded True s (if 0 < s.channels[c].repeatLeft then (s.reachTime due).perform c a
        else (s.reachTime due).proceed c i) := by
    split
    · exact State.dueWork_guarded active (State.perform_guarded _ c a)
    · exact State.dueWork_guarded active (State.proceed_guarded _ c i)
  rcases timer with rfl | rfl | rfl | rfl
  · change execActionPerformanceEnd c s = _ at e
    by_cases working : ∃ a due, s.channels[c].activity = .performing a due
    · obtain ⟨a, due, working⟩ := working
      by_cases bind : a.next ≠ 0#8 ∧ stepKind s.mem a.next = 2
      · cases (exec_actionPerformanceEnd_bind working bind.1 bind.2).symm.trans e
        have active := next working (by simp)
        exact State.dueWork_guarded (due := due) active (State.rewritten_guarded _ rfl rfl)
      · cases (exec_actionPerformanceEnd_other working bind).symm.trans e
        exact decided due (next working (by simp)) a a.next
    · unfold execActionPerformanceEnd at e
      split at e
      next a due h => exact absurd ⟨a, due, h⟩ working
      cases e
      exact .refl s
  · change execDelayEnd c s = _ at e
    unfold execDelayEnd at e
    split at e
    next n due h =>
      cases e
      exact State.dueWork_guarded (next h (by simp)) (State.proceed_guarded _ c n)
    next a n due h =>
      have run : exec (.delayEnd c) s = .next t := by
        change execDelayEnd c s = _
        unfold execDelayEnd
        rw [h]
        exact e
      cases (exec_delayEnd_bound h).symm.trans run
      exact decided due (next h (by simp)) a n
    · cases e
      exact .refl s
  · change execWaitMatchedComplete c s = _ at e
    unfold execWaitMatchedComplete at e
    split at e
    next n due h =>
      cases e
      exact State.dueWork_guarded (next h (by simp)) (State.proceed_guarded _ c n)
    · cases e
      exact .refl s
  · change execWaitTimeout c s = _ at e
    unfold execWaitTimeout at e
    split at e
    next h =>
      cases e
      exact (s.reachTime_guarded _).then (State.fault_here ..).guarded (b := True) trivial
    · cases e
      exact .refl s

/-! ### The supervisor's commands -/

/-- A timer stopped at its due time. -/
theorem State.stopped_guarded {v : Sup} (s : State) (due : Nat) (same : v.position = s.sup.position) :
    Guarded True s ((s.reachTime due).setSup v) := (s.reachTime_guarded due).setting same

theorem exec_channel0Outcome_guarded {start : Nat} {fault : Option FaultCode} (e : exec (.channel0Outcome start fault) s = .next t) :
    Guarded True s t := by
  by_cases awaited : s.sup.awaiting = some start
  · rw [exec_channel0Outcome_awaited awaited] at e
    have taken : Guarded True s (s.outcomeTaken start fault) := (s.taking_guarded _).setting (by rfl)
    generalize s.outcomeTaken start fault = m at e taken
    have concluded : Guarded True m (if fault.isNone then m.enterBooting else m.ladderCause .powerFault 0) := by
      split
      · exact m.enterBooting_guarded
      · exact m.ladderCause_guarded _ _
    dsimp only at e
    split at e
    · cases e
      exact taken.then concluded trivial
    · split at e
      · cases e
        exact taken.then (State.rewarm_guarded (b := True) _) trivial
      · cases e
        exact taken.then concluded trivial
    · cases e
      exact taken.then (State.shutDone_guarded (b := True) _) trivial
    · cases e
      exact taken
  · cases (exec_channel0Outcome_other awaited).symm.trans e
    exact s.taking_guarded _

theorem State.lateTold_guarded (s : State) (due : Nat) : Guarded True s (s.lateTold due) := by
  have entered : Guarded True s (s.lateEntered due) := .opening (s.stopped_guarded due (by rfl)) (by rfl) (by decide)
  unfold State.lateTold
  generalize s.lateEntered due = m at entered
  exact ((entered.sending _).sending _).sending _

/-- The supervisor's own timers. -/
def isSupTimer : Instr → Bool
  | .wakeTimerExpiry | .heldRetryExpiry | .stageDeadlineExpiry | .heartbeatTimerExpiry | .graceExpiry | .pauseTimerExpiry
  | .settleExpiry | .holdOffExpiry | .haltDelayExpiry => true
  | _ => false

theorem exec_supTimer_guarded {i : Instr} (timer : isSupTimer i = true) (e : exec i s = .next t) : Guarded True s t := by
  cases i with
  | wakeTimerExpiry =>
    change execWakeTimerExpiry s = _ at e
    unfold execWakeTimerExpiry at e
    split at e
    · cases e; exact .refl s
    next due _ =>
      have stopped : Guarded True s ((s.reachTime due).setSup { s.sup with wakeTimer := none }) := s.stopped_guarded due (by rfl)
      cases e
      split
      next off => exact stopped.then (State.startOrder_guarded (b := True) (.inl ((SupState.hostOff_iff _).2 (.inl off)))) trivial
      · exact stopped
  | heldRetryExpiry =>
    change execHeldRetryExpiry s = _ at e
    unfold execHeldRetryExpiry at e
    split at e
    · cases e; exact .refl s
    next due _ =>
      have stopped : Guarded True s ((s.reachTime due).setSup { s.sup with heldRetryTimer := none }) := s.stopped_guarded due (by rfl)
      cases e
      exact stopped.then (State.releaseHold_guarded (b := True) _) trivial
  | stageDeadlineExpiry =>
    cases timer : s.sup.stageTimer with
    | none =>
      change execStageDeadlineExpiry s = _ at e
      unfold execStageDeadlineExpiry at e
      rw [timer] at e
      cases e; exact .refl s
    | some due =>
      cases (exec_stageDeadlineExpiry timer).symm.trans e
      exact (s.stopped_guarded due (by rfl)).then (State.ladderCause_guarded (b := True) _ _ _) trivial
  | heartbeatTimerExpiry =>
    cases timer : s.sup.heartbeatTimer with
    | none =>
      change execHeartbeatTimerExpiry s = _ at e
      unfold execHeartbeatTimerExpiry at e
      rw [timer] at e
      cases e; exact .refl s
    | some due =>
      have told : Guarded True s (s.lateTold due) := s.lateTold_guarded due
      rw [exec_heartbeatTimerExpiry timer] at e
      generalize s.lateTold due = m at e told
      dsimp only at e
      cases e
      split
      · exact told.then (State.ladderCause_guarded (b := True) _ _ _) trivial
      · exact told.setting (by rfl)
  | graceExpiry =>
    cases timer : s.sup.graceTimer with
    | none =>
      change execGraceExpiry s = _ at e
      unfold execGraceExpiry at e
      rw [timer] at e
      cases e; exact .refl s
    | some due =>
      cases (exec_graceExpiry timer).symm.trans e
      exact (s.stopped_guarded due (by rfl)).then (State.ladderCause_guarded (b := True) _ _ _) trivial
  | pauseTimerExpiry =>
    cases timer : s.sup.pauseTimer with
    | none =>
      change execPauseTimerExpiry s = _ at e
      unfold execPauseTimerExpiry at e
      rw [timer] at e
      cases e; exact .refl s
    | some due =>
      cases (exec_pauseTimerExpiry timer).symm.trans e
      exact (s.stopped_guarded due (by rfl)).then (State.enterWatching_guarded (b := True) _) trivial
  | settleExpiry =>
    change execSettleExpiry s = _ at e
    unfold execSettleExpiry at e
    split at e
    · cases e; exact .refl s
    next due _ =>
      cases e
      refine (s.reachTime_guarded due).then (State.setSup_ladder (b := True) rfl ?_) trivial
      exact (s.sup.resetLadder_ok s.mem).of_eq rfl rfl rfl
  | holdOffExpiry =>
    change execHoldOffExpiry s = _ at e
    unfold execHoldOffExpiry at e
    split at e
    next due r _ _ =>
      cases e
      exact (s.stopped_guarded due (by rfl)).then (State.enterSequence_guarded (b := True) _ r) trivial
    · cases e; exact .refl s
  | haltDelayExpiry =>
    cases timer : s.sup.haltTimer with
    | none =>
      change execHaltDelayExpiry s = _ at e
      unfold execHaltDelayExpiry at e
      rw [timer] at e
      cases e; exact .refl s
    | some due =>
      cases (exec_haltDelayExpiry timer).symm.trans e
      exact (s.stopped_guarded due (by rfl)).starting _ _
  | _ => exact absurd timer Bool.false_ne_true

/-! ### Requests of the desk -/

/-- The desk's requests to the supervisor and to the sequencer. -/
def isHostRequest : Instr → Bool
  | .restartHost .. | .shutDownHost .. | .pauseHeartbeat .. | .startSequence .. | .stopChannel .. => true
  | _ => false

theorem exec_hostRequest_guarded {i : Instr} (request : isHostRequest i = true) (e : exec i s = .next t) : Guarded True s t := by
  have answered (i slot code data) : Guarded True s ((s.taking i).answer slot code data) := (s.taking_guarded i).sending _
  cases i with
  | restartHost slot rung =>
    rw [exec_restartHost] at e
    cases e
    split
    · exact answered _ _ _ _
    · exact (answered _ _ _ _).then (State.requestedRestart_guarded (b := True) _ _ _ _) trivial
  | shutDownHost slot halt target wake =>
    rw [exec_shutDownHost] at e
    dsimp only at e
    cases e
    split
    · exact answered _ _ _ _
    · split
      · exact answered _ _ _ _
      · exact (answered _ _ _ _).then (State.enterShutting_guarded (b := True) _ _ _ _) trivial
  | pauseHeartbeat slot seconds =>
    have done : Guarded True s (s.pauseDone slot seconds) := answered _ _ _ _
    rw [exec_pauseHeartbeat] at e
    dsimp only at e
    cases e
    split
    · exact answered _ _ _ _
    · split
      · exact answered _ _ _ _
      · split
        · split
          · exact done.setting (by rfl)
          · exact .opening (done.setting (by rfl)) (by rfl) (by decide)
        · split
          · exact (done.setting (by rfl)).then (State.enterWatching_guarded (b := True) _) trivial
          · exact done
  | startSequence slot head =>
    by_cases bound : head.toNat < 16
    · have started := (s.taking_guarded (.startSequence slot head)).then
        (State.startSequence_guarded (b := True) _ ⟨head.toNat, bound⟩ .desk) trivial
      cases (exec_startSequence slot bound).symm.trans e
      unfold State.answerStart
      split <;> exact started.sending _
    · change execStartSequence slot head s = _ at e
      unfold execStartSequence at e
      rw [dif_neg bound] at e
      cases e
      exact answered _ _ _ _
  | stopChannel slot channel =>
    change execStopChannel slot channel s = _ at e
    unfold execStopChannel at e
    dsimp only at e
    split at e
    · split at e
      · cases e; exact answered _ _ _ _
      · cases e
        exact ((s.taking_guarded _).then (State.deskStop_guarded (b := True) _ _) trivial).sending _
    · cases e; exact answered _ _ _ _
  | _ => exact absurd request Bool.false_ne_true

/-! ### Scans, ticks, edits and the host's signs of life -/

/-- Commands of other units that reach the sequencer or the supervisor. -/
def reachesHost : Instr → Bool
  | .pgChange .. | .checkpoint .. | .heartbeatKick .. | .hostRailMaskEdit .. | .keypadScan .. | .forcedOffTimerExpiry
  | .tickAdvance .. => true
  | _ => false

theorem exec_reaching_guarded {i : Instr} (reaches : reachesHost i = true) (e : exec i s = .next t) : Guarded True s t := by
  cases i with
  | pgChange us r level =>
    change execPgChange us r level s = _ at e
    unfold execPgChange at e
    dsimp only at e
    split at e
    · cases e; exact s.elapse_guarded us
    · cases e
      exact (s.elapse_guarded us).then (State.takePg_guarded (b := True) _ r level) trivial
  | checkpoint value heartbeat =>
    have taken := (s.taking_guarded (.checkpoint value heartbeat)).then (State.takeCheckpoint_guarded (b := True) _ value) trivial
    change execCheckpoint value heartbeat s = _ at e
    unfold execCheckpoint at e
    dsimp only at e
    split at e
    · cases e
      exact taken.then (State.takeHeartbeat_guarded (b := True) _ _) trivial
    · cases e
      exact taken
  | heartbeatKick value =>
    cases e
    exact (s.taking_guarded _).then (State.takeHeartbeat_guarded (b := True) _ _) trivial
  | hostRailMaskEdit before after =>
    cases e
    exact (s.taking_guarded _).then (State.hostMaskEdited_guarded (b := True) _ _ _) trivial
  | keypadScan reading =>
    cases set : s.keypad.nextScan with
    | none => exact Outcome.next.inj ((exec_keypadScan_idle set reading).symm.trans e) ▸ .refl s
    | some due =>
      have reached : Guarded True s (s.atScan due) := .of_host rfl rfl
      have scanned : Guarded True s ((s.atScan due).scanKeys reading) :=
        reached.then (.of_kept (b := True) (State.scanKeys_host ..) (State.scanKeys_kept ..)) trivial
      exact Outcome.next.inj ((exec_keypadScan set reading).symm.trans e) ▸
        scanned.then (State.handOff_guarded _ _) trivial
  | forcedOffTimerExpiry =>
    change execForcedOffTimerExpiry s = _ at e
    unfold execForcedOffTimerExpiry at e
    split at e
    · cases e
      exact (s.reachTime_guarded _).then (State.forcedOff_guarded (b := True) _ _) trivial
    · cases e
      split
      · exact s.forcedOff_guarded _
      · exact .refl s
    · cases e
      exact .refl s
  | tickAdvance k =>
    cases set : s.sched.nextAdvance[k] with
    | none => exact Outcome.next.inj ((exec_tickAdvance_idle set).symm.trans e) ▸ .refl s
    | some due =>
      have reached : Guarded True s (s.atAdvance k due) := .of_host rfl rfl
      exact Outcome.next.inj ((exec_tickAdvance set).symm.trans e) ▸
        reached.then (.foldl (State.takeEntry_guarded k) _ _) trivial
  | _ => exact absurd reaches Bool.false_ne_true

/-! ### Every command -/

/-- What a command keeps: the sound channels, the host rails off under a mask that stays, and the ladder position; and it
enters POWERING only under the condition g. -/
structure Spares (g : Prop) (s t : State) : Prop where
  channels : s.ChannelsOk → t.ChannelsOk
  rails : hostMask t.mem = hostMask s.mem → s.HostRailsOff → t.HostRailsOff
  ladder : s.sup.LadderOk → t.sup.LadderOk
  powering : t.sup.state = .powering → s.sup.state = .powering ∨ g

theorem Guarded.spares {g : Prop} (h : Guarded True s t) : Spares g s t :=
  ⟨h.channels trivial, fun _ => h.rails, h.ladder, fun now => .inl (h.powering now)⟩

theorem Spares.of_host {g : Prop} (host : t.host = s.host) : Spares g s t := by
  obtain ⟨channels, rails, sup⟩ : t.channels = s.channels ∧ t.rails = s.rails ∧ t.sup = s.sup := by
    have := host
    unfold State.host at this
    simpa using this
  exact ⟨fun ok => ok.of_eq channels, fun mask off => off.of_eq mask (by rw [sup]) fun r => by rw [rails],
    by rw [sup]; exact id, by rw [sup]; exact .inl⟩

theorem Spares.then {g : Prop} (h : Spares g s t) (h' : Guarded True t u) : Spares g s u :=
  ⟨fun ok => h'.channels trivial (h.channels ok), fun mask off => h'.rails (h.rails (h'.mask.symm.trans mask) off),
    fun ok => h'.ladder (h.ladder ok), fun now => h.powering (h'.powering now)⟩

/-- What comes after a change that leaves the host side alone. -/
theorem Guarded.before {g : Prop} (h : Guarded True s t) (h' : Spares g t u) : Spares g s u :=
  ⟨fun ok => h'.channels (h.channels trivial ok), fun mask off => h'.rails (mask.trans h.mask.symm) (h.rails off),
    fun ok => h'.ladder (h.ladder ok), fun now => (h'.powering now).imp_left h.powering⟩

/-- A refreshed ladder copy takes the position within it (R81). -/
theorem Sup.refreshLadder_ok (v : Sup) (m : Memory) : (v.refreshLadder m).LadderOk := by
  obtain ⟨least, most⟩ := rungCount_bounds m
  have limits : ∀ r : Fin 6, (v.refreshLadder m).ladder.limits[r] = rungLimit m r := fun r => ladderOf_limits m r
  refine ⟨?_, ?_, most, fun r => by rw [limits]; exact rungLimit_bounds m r⟩
  · have rung := v.refreshLadder_rung m
    change (v.refreshLadder m).rung.val < rungCount m
    split at rung <;> omega
  · rw [limits, Sup.refreshLadder_attempts]
    exact min_le_right _ _

theorem State.powerOn1_spares {g : Prop} (s : State) (low : Bool) (pg : Vector Bool 6) : Spares g s (s.powerOn1 low pg) := by
  refine ⟨fun _ => ⟨fun c d _ busy => ?_, fun c => ?_⟩, fun _ _ _ r _ => ?_, fun _ => ?_, nofun⟩
  · simp [State.powerOn1, State.reset, Channel.busy] at busy
  · simp [State.powerOn1, State.reset]
  · simp [State.powerOn1]
  · have start : State.reset.sup.LadderOk := by
      unfold Sup.LadderOk
      decide
    exact start.of_eq rfl rfl rfl

theorem State.deliverLink_guarded (s : State) : Guarded True s s.deliverLink := .of_host rfl rfl

theorem State.startRhythms_guarded (s : State) : Guarded True s s.startRhythms := .of_host rfl rfl

theorem State.begun_spares {g : Prop} (s : State) : Spares g s s.begun := by
  have refreshed (m : State) : Guarded True m (m.setSup (m.sup.refreshLadder m.mem)).deliverLink.startRhythms := by
    have copied : Guarded True m (m.setSup (m.sup.refreshLadder m.mem)) :=
      State.setSup_ladder (by rfl) (Sup.refreshLadder_ok m.sup m.mem)
    generalize m.setSup (m.sup.refreshLadder m.mem) = n at copied
    exact (copied.then n.deliverLink_guarded trivial).then (State.startRhythms_guarded _) trivial
  have loaded : Spares g s s.loaded := .of_host rfl
  have noted (m : State) (p : PartState) : Guarded True m { m.noteDefaulted with partState := p } :=
    .of_host (State.post_host ..) (by rw [show m.noteDefaulted.mem = m.mem from congrArg Kept.mem (State.post_kept ..)])
  have defaulted : Guarded True s.loaded { (if !s.nv.isMatch then s.loaded.noteDefaulted else s.loaded) with
      partState := if !s.nv.isMatch then PartState.defaulted else PartState.ready } := by
    split
    · exact noted _ _
    · exact .of_host rfl rfl
  exact (loaded.then defaulted).then (refreshed _)

theorem exec_startUp_spares {g : Prop} {us : Nat} (e : exec (.startUpLoadComplete us) s = .next t) : Spares g s t := by
  change execStartUpLoadComplete us s = _ at e
  unfold execStartUpLoadComplete at e
  dsimp only at e
  split at e
  · cases e
    have begun : Spares g s (s.elapse us).begun := (s.elapse_guarded us).before (State.begun_spares _)
    rw [State.startUp_eq]
    split
    · exact begun.then (State.powerOn_guarded _)
    · exact begun
  · cases e
    exact (s.elapse_guarded us).spares

/-- The settings loaded at a reload, and what it tells (R166). -/
theorem State.applyReload_spares {g : Prop} (s : State) (slot : Fin 8) : Spares g s (s.applyReload slot) := by
  have told (m : State) (sub : Nat) (urgent : Bool) (w : Word) :
      Guarded True m ((m.reportSettings sub urgent).answer slot .done { w0 := w }).phaseRestart := .of_host rfl rfl
  have loaded : Spares g s { s with
      mem := s.mem.loadSettings s.nv.loads
      partState := if s.nv.isMatch then s.partState else PartState.defaulted
      store := .idle } := .of_host rfl
  unfold State.applyReload
  dsimp only
  generalize { s with
    mem := s.mem.loadSettings s.nv.loads
    partState := if s.nv.isMatch then s.partState else PartState.defaulted
    store := .idle } = m at loaded
  split
  · exact ((loaded.then (told m 2 false _)).then (State.hostMaskEdited_guarded _ _ _)).then (State.deliverLink_guarded _)
  · exact ((loaded.then (told m 3 true _)).then (State.hostMaskEdited_guarded _ _ _)).then (State.deliverLink_guarded _)

theorem exec_reloadApply_spares {g : Prop} {us : Nat} (e : exec (.reloadApply us) s = .next t) : Spares g s t := by
  change execReloadApply us s = _ at e
  unfold execReloadApply at e
  dsimp only at e
  split at e
  · cases e
    exact (s.elapse_guarded us).before (State.applyReload_spares _ _)
  · cases e
    exact (s.elapse_guarded us).spares

/-- The condition of a gate report that powers the host (R71). -/
def State.Gates (s : State) (i : Instr) : Prop :=
  s.sup.state = .warming ∧ ∃ rearm, i = .gateReport .opened rearm ∧ (s.sup.gateWait = false ∨ rearm = true)

theorem State.powerUp_spares {g : Prop} (s : State) (gates : g) : Spares g s s.powerUp := by
  have entered : Spares g s s.reserved :=
    ⟨fun ok => ok.of_eq rfl, fun _ _ locked => (nomatch locked), fun ok => ok.of_eq rfl rfl rfl, fun _ => .inr gates⟩
  exact (entered.then (State.supervisorStart_guarded _ _ _)).then (.setting (.refl _) (by rfl))

theorem exec_gateReport_spares {gate : GateState} {rearm : Bool} (e : exec (.gateReport gate rearm) s = .next t) :
    Spares (s.Gates (.gateReport gate rearm)) s t := by
  rw [exec_gateReport] at e
  dsimp only at e
  cases e
  split
  next counts =>
    have waited : Guarded True s ((s.taking (.gateReport gate rearm)).setSup { s.sup with gateWait := false }) :=
      (s.taking_guarded _).setting (by rfl)
    split
    next opened =>
      subst opened
      exact waited.before (State.powerUp_spares _ ⟨counts.1, rearm, rfl, counts.2⟩)
    · exact waited.spares
  · exact (s.taking_guarded _).spares

theorem exec_spares (i : Instr) (e : exec i s = .next t) : Spares (s.Gates i) s t := by
  by_cases still : keepsHost i = true
  · exact .of_host (exec_host i still e)
  · cases i with
    | powerOnReset reset pg => cases e; exact (s.elapse_guarded reset.us).before (State.powerOn1_spares _ _ _)
    | resetRelease =>
      rw [exec_resetRelease] at e
      split at e
      · cases e; exact State.powerOn1_spares _ _ _
      · cases e; exact (Guarded.refl s).spares
    | startUpLoadComplete us => exact exec_startUp_spares e
    | reloadApply us => exact exec_reloadApply_spares e
    | gateReport gate rearm => exact exec_gateReport_spares e
    | channel0Outcome start fault => exact (exec_channel0Outcome_guarded e).spares
    | actionPerformanceEnd c => exact (exec_channelTimer_guarded (.inl rfl) e).spares
    | delayEnd c => exact (exec_channelTimer_guarded (.inr (.inl rfl)) e).spares
    | waitMatchedComplete c => exact (exec_channelTimer_guarded (.inr (.inr (.inl rfl))) e).spares
    | waitTimeout c => exact (exec_channelTimer_guarded (.inr (.inr (.inr rfl))) e).spares
    | restartHost slot rung => exact (exec_hostRequest_guarded rfl e).spares
    | shutDownHost slot halt target wake => exact (exec_hostRequest_guarded rfl e).spares
    | pauseHeartbeat slot seconds => exact (exec_hostRequest_guarded rfl e).spares
    | startSequence slot head => exact (exec_hostRequest_guarded rfl e).spares
    | stopChannel slot channel => exact (exec_hostRequest_guarded rfl e).spares
    | pgChange us r level => exact (exec_reaching_guarded rfl e).spares
    | checkpoint value heartbeat => exact (exec_reaching_guarded rfl e).spares
    | heartbeatKick value => exact (exec_reaching_guarded rfl e).spares
    | hostRailMaskEdit before after => exact (exec_reaching_guarded rfl e).spares
    | keypadScan reading => exact (exec_reaching_guarded rfl e).spares
    | forcedOffTimerExpiry => exact (exec_reaching_guarded rfl e).spares
    | tickAdvance k => exact (exec_reaching_guarded rfl e).spares
    | wakeTimerExpiry => exact (exec_supTimer_guarded rfl e).spares
    | heldRetryExpiry => exact (exec_supTimer_guarded rfl e).spares
    | stageDeadlineExpiry => exact (exec_supTimer_guarded rfl e).spares
    | heartbeatTimerExpiry => exact (exec_supTimer_guarded rfl e).spares
    | graceExpiry => exact (exec_supTimer_guarded rfl e).spares
    | pauseTimerExpiry => exact (exec_supTimer_guarded rfl e).spares
    | settleExpiry => exact (exec_supTimer_guarded rfl e).spares
    | holdOffExpiry => exact (exec_supTimer_guarded rfl e).spares
    | haltDelayExpiry => exact (exec_supTimer_guarded rfl e).spares
    | _ => exact absurd rfl still

/-- What a step keeps. -/
theorem step_spares (h : step s = .next t) : Spares (∃ i, s.taken = some i ∧ s.Gates i) s t := by
  obtain ⟨i, rest, taken, run⟩ | rfl := step_next h
  · have kept := exec_spares i run
    exact ⟨kept.channels, kept.rails, kept.ladder, fun now => (kept.powering now).imp_right fun gates => ⟨i, taken, gates⟩⟩
  · exact (s.elapse_guarded _).spares

end Sys2Proof.Machine

namespace Sys2Proof.Settled

open Sys2Proof Sys2Proof.Machine Host

/-- Settles O56: a started channel's mask is disjoint from those of the busy ones, and only a busy channel acts. -/
theorem stepKeepsMasksDisjoint : Obligations.StepKeepsMasksDisjoint := fun _ _ ok h => (step_spares h).channels ok

/-- Settles O57: no action switches a host rail on in a locked state, and a locked state is entered from one or by a cut. -/
theorem stepKeepsHostRailsOff : Obligations.StepKeepsHostRailsOff := fun _ _ off h mask => (step_spares h).rails mask off

/-- Settles O58: every decision and every refresh leaves the position within the ladder copy. -/
theorem stepKeepsLadderOk : Obligations.StepKeepsLadderOk := fun _ _ ok h => (step_spares h).ladder ok

/-- Settles O59: of the commands only a gate report of OPEN enters POWERING, and in WARMING. -/
theorem poweringOnlyFromWarming : Obligations.PoweringOnlyFromWarming := by
  intro s t h now before
  obtain powering | ⟨i, taken, warming, rearm, rfl, counts⟩ := (step_spares h).powering now
  · exact absurd powering before
  · exact ⟨warming, rearm, taken, counts⟩

end Sys2Proof.Settled
end

section
/-! SUPPORT. The climate pass stage by stage (R7 to R25): what each stage leaves, the gate's moves as a function of the gate,
and the zones. Obligations O7, O8 and O14. -/

namespace Sys2Proof.Machine

open Sys2Proof Host

variable {s t u : State}

theorem Sensor.usable_iff (c : Sensor) : c.usable = true ↔ c.Live := by
  simp [Sensor.usable]

theorem Sensor.usable_false_iff (c : Sensor) : c.usable = false ↔ ¬ c.Live := by
  rw [← Sensor.usable_iff, Bool.not_eq_true]

theorem ZoneCfg.used_iff (c : ZoneCfg) : c.used = true ↔ c.rated ≠ 0 := by simp [ZoneCfg.used]

theorem ZoneCfg.holdsGate_iff (c : ZoneCfg) : c.holdsGate = true ↔ c.rated ≠ 0 ∧ c.gating = true := by
  simp [ZoneCfg.holdsGate, ZoneCfg.used]

/-! ### The gate's moves (R20 to R24) -/

/-- The gate once it has opened (R24). -/
def Gate.opens (g : Gate) : Gate := { g with state := .opened, soakRemaining := none }

/-- The gate once it has closed (R20, R22). -/
def Gate.closes (g : Gate) : Gate := { g with state := .closed, soakRemaining := none }

/-- The gate after its move on the conditions (R20, R22). -/
def Gate.moved (g : Gate) (rearm met : Bool) (soak : Nat) : Gate :=
  if rearm then if met then g.opens else g.closes
  else match g.state with
    | .closed =>
      if !met then g else if soak = 0 then g.opens else { g with state := .soaking, soakRemaining := some soak }
    | .soaking =>
      if !met then g.closes
      else if g.soakRemaining.getD 0 ≤ 1 then g.opens
      else { g with soakRemaining := some (g.soakRemaining.getD 0 - 1) }
    | .opened => g

/-- A WARM-UP report at an uptime (R22, R24). -/
def warmUpPosting (stamp : DWord) (subkind state progress : Nat) (byLimit : Bool) : Instr :=
  posting stamp .warmUp (BitVec.ofNat 8 subkind) false 0
    { w0 := natWord state, w1 := natWord progress, w2 := flagWord byLimit }

/-- What an opening by the conditions sends (R24). -/
def openEvents (stamp : DWord) (progress : Nat) : List Instr :=
  [warmUpPosting stamp 3 2 progress false, .counterIncrement .warmUpsCompleted]

/-- What the move sends (R22, R24). -/
def Gate.moveEvents (g : Gate) (rearm met : Bool) (soak : Nat) (stamp : DWord) (progress : Nat) : List Instr :=
  if rearm then if met then openEvents stamp progress else []
  else match g.state with
    | .closed =>
      if !met then [] else if soak = 0 then openEvents stamp progress else [warmUpPosting stamp 1 1 progress false]
    | .soaking =>
      if !met then [warmUpPosting stamp 2 0 progress false]
      else if g.soakRemaining.getD 0 ≤ 1 then openEvents stamp progress else []
    | .opened => []

/-- The warm-up limit expires for a gate (R23). -/
def Gate.expires (g : Gate) (m : Memory) : Bool :=
  decide (g.state ≠ .opened) && !g.limitExpired && decide (warmUpLimit m ≤ g.sinceRearm)

/-- The gate after the warm-up limit (R23, R24). -/
def Gate.limited (g : Gate) (m : Memory) : Gate :=
  if g.expires m then
    if releaseAnyway m then { g with limitExpired := true }.opens else { g with limitExpired := true }
  else g

/-- What the warm-up limit sends (R23, R24). -/
def Gate.limitEvents (g : Gate) (m : Memory) (zoneMet dewMet : Bool) (stamp : DWord) (progress : Nat) : List Instr :=
  if g.expires m then
    [.counterIncrement .warmUpLimitExpiries,
      posting stamp .warmUpLimit 0 true 0
        { w0 := natWord (gateCode g.state), w1 := natWord progress, w2 := flagWord zoneMet, w3 := flagWord dewMet }]
    ++ if releaseAnyway m then [warmUpPosting stamp 3 2 progress true] else []
  else []

theorem State.openGate_eq (s : State) (byLimit : Bool) (progress : Nat) : s.openGate byLimit progress = { s with
    gate := s.gate.opens
    transit := s.transit ++ if byLimit then [warmUpPosting s.uptime 3 2 progress true] else openEvents s.uptime progress } := by
  cases byLimit
  · have two : (s.transit ++ [warmUpPosting s.uptime 3 2 progress false]) ++ [.counterIncrement .warmUpsCompleted] =
        s.transit ++ openEvents s.uptime progress := List.append_assoc ..
    exact congrArg (fun l => ({ s with gate := s.gate.opens, transit := l } : State)) two
  · rfl

theorem State.gateMove_eq (s : State) (rearm met : Bool) (progress : Nat) : s.gateMove rearm met progress = { s with
    gate := s.gate.moved rearm met (soakTime s.mem)
    transit := s.transit ++ s.gate.moveEvents rearm met (soakTime s.mem) s.uptime progress } := by
  have still : s = { s with gate := s.gate, transit := s.transit ++ [] } := by rw [List.append_nil]
  have set (g : Gate) : s.setGate g = { s with gate := g, transit := s.transit ++ [] } := by
    rw [List.append_nil]
    rfl
  unfold State.gateMove Gate.moved Gate.moveEvents
  simp only [State.openGate_eq]
  cases rearm
  · simp only [Bool.false_eq_true, if_false]
    cases s.gate.state
    · cases met
      · exact still
      · by_cases soak : soakTime s.mem = 0
        · simp [soak]
        · simp only [soak]
          rfl
    · cases met
      · rfl
      · by_cases ends : s.gate.soakRemaining.getD 0 ≤ 1
        · simp [ends]
        · simp only [ends]
          exact set _
    · exact still
  · cases met
    · exact set _
    · rfl

/-- The limit's mark, its count and its report (R23). -/
def State.limitTold (s : State) (zoneMet dewMet : Bool) (progress : Nat) : State :=
  ((s.setGate { s.gate with limitExpired := true }).count .warmUpLimitExpiries).report .warmUpLimit 0 true 0
    { w0 := natWord (gateCode s.gate.state), w1 := natWord progress, w2 := flagWord zoneMet, w3 := flagWord dewMet }

theorem State.limitTold_eq (s : State) (zoneMet dewMet : Bool) (progress : Nat) : s.limitTold zoneMet dewMet progress = { s with
    gate := { s.gate with limitExpired := true }
    transit := s.transit ++ [.counterIncrement .warmUpLimitExpiries,
      posting s.uptime .warmUpLimit 0 true 0
        { w0 := natWord (gateCode s.gate.state), w1 := natWord progress, w2 := flagWord zoneMet, w3 := flagWord dewMet }] } :=
  congrArg (fun l => ({ s with gate := { s.gate with limitExpired := true }, transit := l } : State)) (List.append_assoc ..)

theorem State.limitMove_eq (s : State) (zoneMet dewMet : Bool) (progress : Nat) : s.limitMove zoneMet dewMet progress = { s with
    gate := s.gate.limited s.mem
    transit := s.transit ++ s.gate.limitEvents s.mem zoneMet dewMet s.uptime progress } := by
  have cases : s.limitMove zoneMet dewMet progress =
      if s.gate.state = .opened ∨ s.gate.limitExpired ∨ s.gate.sinceRearm < warmUpLimit s.mem then s
      else if releaseAnyway s.mem then (s.limitTold zoneMet dewMet progress).openGate true progress
      else s.limitTold zoneMet dewMet progress := rfl
  rw [cases]
  unfold Gate.limited Gate.limitEvents
  by_cases expires : s.gate.expires s.mem = true
  · have holds : ¬ (s.gate.state = .opened ∨ s.gate.limitExpired = true ∨ s.gate.sinceRearm < warmUpLimit s.mem) := by
      simpa [Gate.expires, and_assoc, not_or] using expires
    rw [if_neg holds, if_pos expires, if_pos expires, State.openGate_eq, State.limitTold_eq]
    by_cases release : releaseAnyway s.mem = true
    · simp only [release, if_true, List.append_assoc]
      rfl
    · simp only [release, Bool.false_eq_true, if_false, List.append_nil]
  · have holds : s.gate.state = .opened ∨ s.gate.limitExpired = true ∨ s.gate.sinceRearm < warmUpLimit s.mem := by
      by_contra none
      exact expires (by simpa [Gate.expires, and_assoc, not_or] using none)
    simp only [if_pos holds, if_neg expires, List.append_nil]

theorem State.gateWork_eq (s : State) (rearm zoneMet dewMet : Bool) (progress : Nat) :
    s.gateWork rearm zoneMet dewMet progress =
      let g := s.gate.moved rearm (zoneMet && dewMet) (soakTime s.mem)
      { s with
        gate := g.limited s.mem
        transit := s.transit ++ s.gate.moveEvents rearm (zoneMet && dewMet) (soakTime s.mem) s.uptime progress
          ++ g.limitEvents s.mem zoneMet dewMet s.uptime progress } := by
  unfold State.gateWork
  rw [State.limitMove_eq, State.gateMove_eq]
  rfl

/-! ### The pass up to its gate -/

/-- The zones once T0 has been taken where it is absent, in a gate state (R25). -/
def State.withT0 (s : State) (gate : GateState) : Vector Zone 3 :=
  if gate = .opened then s.zones
  else Vector.ofFn fun z =>
    if (zoneCfg s.mem z).holdsGate && (s.control z).usable && s.zones[z].rearmTemp.isNone then
      { s.zones[z] with rearmTemp := some (s.control z).held } else s.zones[z]

theorem takeT0_eq (s : State) : takeT0 s = { s with zones := s.withT0 s.gate.state } := by
  unfold takeT0 State.withT0
  split <;> rfl

theorem State.withT0_zone (s : State) (gate : GateState) (z : Fin 3) : (s.withT0 gate)[z] =
    if gate ≠ .opened ∧ (zoneCfg s.mem z).holdsGate = true ∧ (s.control z).usable = true ∧ s.zones[z].rearmTemp = none then
      { s.zones[z] with rearmTemp := some (s.control z).held } else s.zones[z] := by
  unfold State.withT0
  by_cases opened : gate = .opened
  · simp [opened]
  · rw [if_neg opened]
    refine (ofFn_get _ z).trans ?_
    simp [opened, and_assoc]

/-- The gate of a pass, by the state its demands leave (R20 to R24), but for the progress. -/
def State.gateOf (s : State) (rearm : Bool) : Gate :=
  (s.gate.moved rearm (zoneCondition s && (dewCheck s).isMet) (soakTime s.mem)).limited s.mem

theorem State.passProgress_eq (s : State) (rearm : Bool) :
    s.passProgress rearm (zoneCondition s) (dewCheck s).isMet = progressOf (s.setGate (s.gateOf rearm)) := by
  unfold State.passProgress
  rw [State.gateWork_eq]
  rfl

/-- The gate's work in a pass (R19 to R25). -/
theorem State.gatePass_eq (s : State) (rearm : Bool) :
    let g := { s.gateOf rearm with progress := progressOf (s.setGate (s.gateOf rearm)) }
    s.gatePass rearm = { s with
      gate := g
      transit := s.transit
        ++ s.gate.moveEvents rearm (zoneCondition s && (dewCheck s).isMet) (soakTime s.mem) s.uptime g.progress
        ++ (s.gate.moved rearm (zoneCondition s && (dewCheck s).isMet) (soakTime s.mem)).limitEvents s.mem (zoneCondition s)
          (dewCheck s).isMet s.uptime g.progress
      zones := s.withT0 g.state
      shown := { s.shown with gate :=
        { state := g.state, sinceRearm := g.sinceRearm, soakRemaining := g.soakRemaining, limitExpired := g.limitExpired
          zoneMet := zoneCondition s, dewMet := (dewCheck s).isMet, progress := g.progress
          dewPoint := (dewCheck s).dewPoint, boardMargin := (dewCheck s).board, glassMargin := (dewCheck s).glass } } } := by
  intro g
  have worked : s.gateWork rearm (zoneCondition s) (dewCheck s).isMet (progressOf (s.setGate (s.gateOf rearm))) = { s with
      gate := s.gateOf rearm
      transit := s.transit
        ++ s.gate.moveEvents rearm (zoneCondition s && (dewCheck s).isMet) (soakTime s.mem) s.uptime g.progress
        ++ (s.gate.moved rearm (zoneCondition s && (dewCheck s).isMet) (soakTime s.mem)).limitEvents s.mem (zoneCondition s)
          (dewCheck s).isMet s.uptime g.progress } := State.gateWork_eq ..
  unfold State.gatePass
  dsimp only
  rw [State.passProgress_eq, worked, takeT0_eq]
  rfl

/-! ### The pass's fan work, as the rest of the pass sees it -/

/-- What the fans' work in a pass may send (R36, R47). -/
def fanEvent : Instr → Prop
  | .counterIncrement (.spinUps _) | .counterIncrement .sweepsClogged | .deskAnswer .. => True
  | .reportPosting r => r.kind = .fan
  | _ => False

/-- What the fans' work in a pass may change. -/
def FanFrame (s t : State) : Prop :=
  (∃ sent, t.transit = s.transit ++ sent ∧ ∀ c ∈ sent, fanEvent c) ∧
  t = { s with fans := t.fans, sweep := t.sweep, transit := t.transit, shown := { s.shown with fans := t.shown.fans } }

theorem FanFrame.refl (s : State) : FanFrame s s := ⟨⟨[], (List.append_nil _).symm, nofun⟩, rfl⟩

theorem FanFrame.trans (h : FanFrame s t) (h' : FanFrame t u) : FanFrame s u := by
  obtain ⟨⟨before, events, only⟩, frame⟩ := h
  obtain ⟨⟨after, events', only'⟩, frame'⟩ := h'
  refine ⟨⟨before ++ after, by rw [events', events, List.append_assoc], ?_⟩, ?_⟩
  · intro c mem
    exact (List.mem_append.1 mem).elim (only c) (only' c)
  · rw [frame', frame]

theorem State.setFan_fanFrame (s : State) (f : Fin 2) (x : Fan) : FanFrame s (s.setFan f x) :=
  ⟨⟨[], (List.append_nil _).symm, nofun⟩, rfl⟩

theorem State.publishFan_fanFrame (s : State) (f : Fin 2) : FanFrame s (s.publishFan f) :=
  ⟨⟨[], (List.append_nil _).symm, nofun⟩, rfl⟩

theorem State.wakeFan_fanFrame (s : State) (f : Fin 2) : FanFrame s (s.wakeFan f) :=
  ⟨⟨[.counterIncrement (.spinUps f)], rfl, by simp [fanEvent]⟩, rfl⟩

theorem State.fanStateWork_fanFrame (s : State) (f : Fin 2) : FanFrame s (s.fanStateWork f) := by
  unfold State.fanStateWork
  dsimp only
  split
  · split
    · exact s.wakeFan_fanFrame f
    · exact .refl s
  · split
    · exact s.setFan_fanFrame f _
    · split
      · exact (s.setFan_fanFrame f _).trans (State.publishFan_fanFrame _ f)
      · exact s.setFan_fanFrame f _
  · exact .refl s

theorem sweepEndEvents_fanEvent (stamp : DWord) (w : Sweep) (r : SweepRecord) : ∀ c ∈ sweepEndEvents stamp w r, fanEvent c := by
  unfold sweepEndEvents sweepAnswers
  split <;> cases w.slot <;> simp [fanEvent, posting]

theorem State.endSweep_fanFrame (s : State) (w : Sweep) (result : SweepResult) (worst : Nat) (dev : Int) (spunOut : Bool) :
    FanFrame s (s.endSweep w result worst dev spunOut) := by
  rw [State.endSweep_eq]
  exact ⟨⟨_, rfl, sweepEndEvents_fanEvent _ _ _⟩, rfl⟩

theorem State.sweepAbortWork_fanFrame (s : State) : FanFrame s s.sweepAbortWork := by
  unfold State.sweepAbortWork
  split
  · split
    · exact s.endSweep_fanFrame ..
    · exact .refl s
  · exact .refl s

theorem State.fanPass_fanFrame (s : State) : FanFrame s s.fanPass := by
  unfold State.fanPass
  exact ((s.setFan_fanFrame 0 _).trans (State.setFan_fanFrame _ 1 _)).trans
    (((State.fanStateWork_fanFrame _ 0).trans (State.fanStateWork_fanFrame _ 1)).trans (State.sweepAbortWork_fanFrame _))

/-! ### The stages of a pass -/

/-- The state after the zones' demands (R8 to R16). -/
def State.demanded (s : State) : State := (s.setGate s.gate.passBegins).demandPass s.gate.rearmPending

/-- The state after the gate's work (R19 to R25). -/
def State.gated (s : State) : State := s.demanded.gatePass s.gate.rearmPending

theorem State.beforeGrants_eq (s : State) : s.beforeGrants = s.gated.fanPass.interlockPass := rfl

theorem State.demanded_zone (s : State) (z : Fin 3) :
    s.demanded.zones[z] = (zonePass (zoneCfg s.mem z) (s.control z) s.gate.rearmPending s.zones[z]).1 := ofFn_get _ z

theorem State.gated_zone (s : State) (z : Fin 3) : s.gated.zones[z] =
    let x := s.demanded.zones[z]
    if s.gated.gate.state ≠ .opened ∧ (zoneCfg s.mem z).holdsGate = true ∧ (s.control z).usable = true ∧ x.rearmTemp = none then
      { x with rearmTemp := some (s.control z).held } else x := by
  have gate : s.gated.zones = s.demanded.withT0 s.gated.gate.state := by
    unfold State.gated
    rw [State.gatePass_eq]
  simp only [gate]
  exact State.withT0_zone ..

/-- The zones as the pass leaves them, but for the grant (R16). -/
theorem State.beforeGrants_zones (s : State) : s.beforeGrants.zones = s.gated.zones := by
  rw [State.beforeGrants_eq]
  have frame := s.gated.fanPass_fanFrame.2
  generalize s.gated.fanPass = t at frame
  rw [frame]
  rfl

theorem State.climatePass_zone_gated (s : State) (low : Bool) (z : Fin 3) :
    (s.climatePass low).zones[z] = { s.gated.zones[z] with lastGrant := (s.passGrants low).duties[z] } := by
  rw [State.climatePass_zone]
  simp only [State.beforeGrants_zones]

theorem State.closePass_gate (s : State) (rearm : Bool) : (s.closePass rearm).gate = s.gate := rfl

theorem State.applyGrants_gate (s : State) (g : Grants) (low : Bool) : (s.applyGrants g low).gate = s.gate := rfl

theorem State.episodePass_gate (s : State) (g : Grants) : (s.episodePass g).gate = s.gate := by rw [State.episodePass_eq]

theorem State.beforeGrants_gate (s : State) : s.beforeGrants.gate = s.gated.gate := by
  rw [State.beforeGrants_eq]
  have frame := s.gated.fanPass_fanFrame.2
  generalize s.gated.fanPass = t at frame
  rw [frame]
  rfl

theorem State.climatePass_gate (s : State) (low : Bool) : (s.climatePass low).gate = s.gated.gate := by
  rw [State.climatePass_eq, State.closePass_gate, State.applyGrants_gate, State.episodePass_gate, State.beforeGrants_gate]

theorem State.closePass_shown_gate (s : State) (rearm : Bool) : (s.closePass rearm).shown.gate = s.shown.gate := rfl

theorem State.applyGrants_shown_gate (s : State) (g : Grants) (low : Bool) : (s.applyGrants g low).shown.gate = s.shown.gate := rfl

theorem State.climatePass_shown_gate (s : State) (low : Bool) : (s.climatePass low).shown.gate = s.gated.shown.gate := by
  have episode : (s.beforeGrants.episodePass (s.passGrants low)).shown = s.beforeGrants.shown := by rw [State.episodePass_eq]
  rw [State.climatePass_eq, State.closePass_shown_gate, State.applyGrants_shown_gate, episode, State.beforeGrants_eq]
  have frame := s.gated.fanPass_fanFrame.2
  generalize s.gated.fanPass = t at frame
  rw [frame]
  rfl

/-! ### What a pass shows of its gate -/

section
variable (g : Gate) (m : Memory) (rearm met : Bool) (soak : Nat)

theorem Gate.moved_keeps : (g.moved rearm met soak).sinceRearm = g.sinceRearm ∧
    (g.moved rearm met soak).limitExpired = g.limitExpired ∧ (g.moved rearm met soak).rearmPending = g.rearmPending := by
  unfold Gate.moved Gate.opens Gate.closes
  cases rearm <;> cases met <;> cases g.state <;> simp <;> split <;> exact ⟨rfl, rfl, rfl⟩

theorem Gate.limited_keeps : (g.limited m).sinceRearm = g.sinceRearm ∧ (g.limited m).rearmPending = g.rearmPending := by
  unfold Gate.limited Gate.opens
  split
  · split <;> exact ⟨rfl, rfl⟩
  · exact ⟨rfl, rfl⟩

end

/-- The gate of a pass, but for its progress. -/
def State.passGate (s : State) : Gate := s.demanded.gateOf s.gate.rearmPending

/-- The progress of a pass (R25). -/
def State.progressNow (s : State) : Nat := progressOf (s.demanded.setGate s.passGate)

theorem State.gated_gate (s : State) : s.gated.gate = { s.passGate with progress := s.progressNow } := by
  unfold State.gated
  rw [State.gatePass_eq]
  rfl

theorem State.passGate_sinceRearm (s : State) : s.passGate.sinceRearm = s.gate.passBegins.sinceRearm :=
  (Gate.limited_keeps _ _).1.trans (Gate.moved_keeps ..).1

theorem State.gated_sinceRearm (s : State) : s.gated.gate.sinceRearm = s.demanded.gate.sinceRearm := by
  rw [State.gated_gate]
  exact s.passGate_sinceRearm

/-- The gate status block as a pass leaves it. -/
theorem State.gated_shown_gate (s : State) : s.gated.shown.gate =
    { state := s.passGate.state, sinceRearm := s.passGate.sinceRearm, soakRemaining := s.passGate.soakRemaining
      limitExpired := s.passGate.limitExpired, zoneMet := zoneCondition s.demanded, dewMet := (dewCheck s.demanded).isMet
      progress := s.progressNow, dewPoint := (dewCheck s.demanded).dewPoint, boardMargin := (dewCheck s.demanded).board
      glassMargin := (dewCheck s.demanded).glass } := by
  unfold State.gated
  rw [State.gatePass_eq]
  rfl

/-! ### The dew check (R17, R18) -/

theorem dewPoint_live (air : Sensor) {humidity : Sensor} (live : humidity.Live) :
    dewPoint air humidity = air.held - ((100 - humidity.held) * 16).tdiv 5 := if_pos (humidity.usable_iff.2 live)

theorem dewPoint_dead (air : Sensor) {humidity : Sensor} (dead : ¬ humidity.Live) : dewPoint air humidity = air.held :=
  if_neg (dead ∘ humidity.usable_iff.1)

theorem surfaceMargin_live {c : Sensor} (live : c.Live) (td : Int) : surfaceMargin c td = some (c.held - td) :=
  if_pos (c.usable_iff.2 live)

theorem surfaceMargin_dead {c : Sensor} (dead : ¬ c.Live) (td : Int) : surfaceMargin c td = none :=
  if_neg (dead ∘ c.usable_iff.1)

theorem surfacePasses_iff (c : Sensor) (td minimum : Int) (back : Prop) [Decidable back] :
    surfacePasses (surfaceMargin c td) minimum (decide back) = true ↔ if c.Live then minimum ≤ c.held - td else back := by
  by_cases live : c.Live
  · rw [surfaceMargin_live live, if_pos live]
    exact decide_eq_true_iff
  · rw [surfaceMargin_dead live, if_neg live]
    exact decide_eq_true_iff

theorem dewCheck_isMet_iff (s : State) :
    let air := s.sensors[(0 : Fin 9)]
    let hum := s.sensors[(8 : Fin 9)]
    let td := (dewCheck s).dewPoint
    let back := dewFallback s.mem ≤ s.gate.sinceRearm
    let passes (c : Sensor) : Prop := if c.Live then dewMargin s.mem ≤ c.held - td else back
    (dewCheck s).isMet = true ↔ if ¬ air.Live then back
    else if hum.Live ∧ hum.held < 50 then True
    else passes s.sensors[(1 : Fin 9)] ∧ passes s.sensors[(2 : Fin 9)] := by
  intro air hum td back passes
  have met : (dewCheck s).isMet = if !air.usable then decide back else if hum.usable ∧ hum.held < 50 then true
      else surfacePasses (surfaceMargin s.sensors[(1 : Fin 9)] td) (dewMargin s.mem) (decide back) &&
        surfacePasses (surfaceMargin s.sensors[(2 : Fin 9)] td) (dewMargin s.mem) (decide back) := rfl
  rw [met]
  by_cases live : air.Live
  · rw [if_neg (by simp [air.usable_iff.2 live]), if_neg (not_not_intro live)]
    by_cases dry : hum.Live ∧ hum.held < 50
    · rw [if_pos dry, if_pos ⟨hum.usable_iff.2 dry.1, dry.2⟩]
      simp
    · rw [if_neg dry, if_neg (by rwa [hum.usable_iff]), Bool.and_eq_true, surfacePasses_iff, surfacePasses_iff]
  · rw [if_pos (by simp [air.usable_false_iff.2 live]), if_pos live]
    exact decide_eq_true_iff

/-! ### A zone's demand (R5 to R16) -/

section
variable (cfg : ZoneCfg) (c : Sensor) (rearm : Bool) (x : Zone)

theorem zonePass_counts : (zonePass cfg c rearm x).1.boost = x.boost - 1 ∧
    (zonePass cfg c rearm x).1.override = overrideAfter x.override := by
  unfold zonePass
  dsimp only
  split <;> exact ⟨rfl, rfl⟩

theorem zonePass_rearmTemp : (zonePass cfg c rearm x).1.rearmTemp = rearmTempAfter cfg c rearm x.rearmTemp := by
  unfold zonePass
  dsimp only
  split <;> rfl

variable {cfg}

theorem zonePass_unused (unused : cfg.rated = 0) : (zonePass cfg c rearm x).1.setpoint = some cfg.target ∧
    (zonePass cfg c rearm x).1.integrator = 0 ∧ (zonePass cfg c rearm x).1.lastDemand = 0 := by
  have free : cfg.used = false := by simp [ZoneCfg.used, unused]
  unfold zonePass setpointAfter
  simp [free]

/-- A used zone's figures of a pass (R8 to R12). -/
theorem zonePass_used (used : cfg.rated ≠ 0) :
    let e := setpointAfter cfg c rearm x.setpoint
    let i := integratorAfter cfg c x (zoneError c e)
    (zonePass cfg c rearm x).1.setpoint = some e ∧ (zonePass cfg c rearm x).1.integrator = i ∧
    (zonePass cfg c rearm x).1.lastDemand = (decideDemand cfg c x
      (lawDemand (if c.usable then proportionalTerm cfg (zoneError c e) else 0) i)).1 := by
  have free : cfg.used = true := cfg.used_iff.2 used
  unfold zonePass
  simp [free]

theorem setpointAfter_initial (used : cfg.rated ≠ 0) {old : Option Int} (initial : rearm = true ∨ old = none) :
    setpointAfter cfg c rearm old = initialSetpoint cfg c := by
  have free : cfg.used = true := cfg.used_iff.2 used
  unfold setpointAfter
  rcases initial with rfl | rfl
  · cases old <;> simp [free]
  · simp [free]

theorem setpointAfter_ramp (used : cfg.rated ≠ 0) (e : Int) :
    setpointAfter cfg c false (some e) = if cfg.ramp = 0 then cfg.target else min cfg.target (e + cfg.ramp) := by
  have free : cfg.used = true := cfg.used_iff.2 used
  simp [setpointAfter, free]

end

section
variable {cfg : ZoneCfg} {c : Sensor} {x : Zone}

theorem zoneError_live (live : c.Live) (e : Int) : zoneError c e = max (-640) (min 640 (e - c.held)) := by
  unfold zoneError clampInt
  rw [if_pos (c.usable_iff.2 live), min_comm]

theorem integratorAfter_live (live : c.Live) (err : Int) : integratorAfter cfg c x err =
    if ((x.lastDemand = 1000 ∨ x.lastGrant < x.lastDemand) ∧ 0 < err) ∨ (x.lastDemand = 0 ∧ err < 0) then x.integrator
    else max 0 (min 16000 (x.integrator + (cfg.ki * err).tdiv 16)) := by
  have usable := c.usable_iff.2 live
  unfold integratorAfter Zone.heldHigh clampInt truncDiv
  by_cases high : (x.lastDemand = 1000 ∨ x.lastGrant < x.lastDemand) ∧ 0 < err
  · simp [high]
  · by_cases low : x.lastDemand = 0 ∧ err < 0
    · simp [usable, low]
    · simp [usable, high, low, min_comm]

theorem integratorAfter_dead (dead : ¬ c.Live) (err : Int) : integratorAfter cfg c x err = x.integrator := by
  unfold integratorAfter
  simp [c.usable_false_iff.2 dead]

theorem lawDemand_eq (p i : Int) : (lawDemand p i : Int) = max 0 (min 1000 (p + i / 16)) := by
  unfold lawDemand clampInt
  rw [min_comm]
  exact Int.toNat_of_nonneg (le_max_left _ _)

end

theorem overrideAfter_eq (x : Option Override) : overrideAfter x = match x with
    | some o => if 1 < o.remaining then some { o with remaining := o.remaining - 1 } else none
    | none => none := by
  cases x with
  | none => rfl
  | some o =>
    unfold overrideAfter
    by_cases more : 1 < o.remaining
    · simp [more]
    · simp [more]

/-- A zone's figures after a pass are those its own demand work forms; the gate's T0 and the grants touch none of them. -/
theorem State.climatePass_demand (s : State) (low : Bool) (z : Fin 3) :
    let y := (s.climatePass low).zones[z]
    let d := (zonePass (zoneCfg s.mem z) (s.control z) s.gate.rearmPending s.zones[z]).1
    y.boost = d.boost ∧ y.override = d.override ∧ y.setpoint = d.setpoint ∧ y.integrator = d.integrator ∧
    y.lastDemand = d.lastDemand := by
  intro y d
  have pass : y = { s.gated.zones[z] with lastGrant := (s.passGrants low).duties[z] } := s.climatePass_zone_gated low z
  have gated := s.gated_zone z
  rw [pass, gated, State.demanded_zone]
  dsimp only
  split <;> exact ⟨rfl, rfl, rfl, rfl, rfl⟩

/-! ### Requests to the climate controller and to the keypad (R13, R15, R20, R32, R104) -/

theorem State.takeBoost_requested (s : State) (target : BoostTarget) (seconds : Nat) :
    BoostRequested s (s.takeBoost target seconds).1 target seconds (s.takeBoost target seconds).2 := by
  cases target with
  | all => exact ⟨fun z => (ofFn_get _ z).trans (if_pos (.inl rfl)).symm, rfl, rfl⟩
  | zone n =>
    unfold State.takeBoost
    dsimp only
    by_cases named : n < 3
    · rw [dif_pos named]
      refine ⟨fun z => ?_, (if_pos named).symm, rfl⟩
      by_cases here : z.val = n
      · subst here
        rw [if_pos (.inr rfl)]
        exact upd_same _ _ _
      · rw [if_neg (by simp [Ne.symm here])]
        exact upd_other _ (fun same => here (congrArg Fin.val same).symm) _
    · rw [dif_neg named]
      exact ⟨fun z => (if_neg (by simp; omega)).symm, (if_neg named).symm, rfl⟩

theorem exec_boostRequest (target : BoostTarget) (seconds : Word) (s : State) :
    let m := (s.taking (.boostRequest target seconds)).takeBoost target seconds.toNat
    exec (.boostRequest target seconds) s = .next { m.1 with lastRefusal := m.2 } := rfl

theorem exec_heaterOutputOff {z : Fin 3} {due : Nat} (set : s.heaters[z].offAt = some due) : exec (.heaterOutputOff z) s =
    .next { s with clock := max s.clock due, heaters := put s.heaters z { on := false, offAt := none } } := by
  have unfolded : exec (.heaterOutputOff z) s = execHeaterOutputOff z s := rfl
  rw [unfolded]
  unfold execHeaterOutputOff
  rw [set]
  rfl

theorem exec_climateOverride {zone duty : Word} (slot : Fin 8) (seconds : Word) (named : zone.toNat < 3) (within : duty.toNat ≤ 1000) :
    exec (.climateOverride slot zone duty seconds) s = .next { s with
      transit := s.transit.erase (.climateOverride slot zone duty seconds) ++ [.deskAnswer slot .done {}]
      zones := upd s.zones ⟨zone.toNat, named⟩ fun z => { z with
        override := if seconds = 0#16 then none else some { duty := duty.toNat, remaining := seconds.toNat } } } :=
  dif_pos ⟨named, within⟩

theorem exec_keypadLock {lock : Word} (slot : Fin 8) (flag : lock.toNat ≤ 1) : exec (.keypadLock slot lock) s = .next { s with
    transit := s.transit.erase (.keypadLock slot lock) ++ [.deskAnswer slot .done { w0 := if lock = 1#16 then 1 else 0 }]
    keypad := { s.keypad with deskLock := decide (lock = 1#16) } } :=
  if_neg (not_lt.2 flag)

end Sys2Proof.Machine

namespace Sys2Proof.Settled

open Sys2Proof Sys2Proof.Machine Host

/-- Settles O7: the zone's demand work alone forms these figures. -/
theorem zoneDemand : Obligations.ZoneDemand := by
  intro low s due z h
  refine ⟨_, exec_climatePass low h, ?_⟩
  intro cfg c x y
  have demand : let d := (zonePass cfg c s.gate.rearmPending x).1
      y.boost = d.boost ∧ y.override = d.override ∧ y.setpoint = d.setpoint ∧ y.integrator = d.integrator ∧
      y.lastDemand = d.lastDemand :=
    State.climatePass_demand { s.reachTime due with nextPass := some (due + Config.passPeriod) } low z
  clear_value y c x cfg
  obtain ⟨boost, override, setpoint, integrator, lastDemand⟩ := demand
  obtain ⟨boosts, overrides⟩ := zonePass_counts cfg c s.gate.rearmPending x
  refine ⟨boost.trans boosts, override.trans (overrides.trans (overrideAfter_eq _)), fun unused => ?_, fun used => ?_⟩
  · obtain ⟨free, zero, idle⟩ := zonePass_unused c s.gate.rearmPending x unused
    exact ⟨setpoint.trans free, integrator.trans zero, lastDemand.trans idle⟩
  · obtain ⟨formed, gathered, decided⟩ := zonePass_used c s.gate.rearmPending x used
    rw [formed] at setpoint
    rw [gathered] at integrator
    rw [decided, ← integrator] at lastDemand
    generalize he : setpointAfter cfg c s.gate.rearmPending x.setpoint = e at setpoint integrator lastDemand
    refine ⟨e, setpoint, fun initial => ?_, fun e₀ waits old => ?_, fun dead => ?_, fun live => ?_, fun o set => ?_,
      fun clear on => ?_, fun clear off dead => ?_, fun clear off live cool => ?_, fun clear off live warm => ?_⟩
    · rw [← he, setpointAfter_initial c _ used initial]
      exact ⟨fun live => if_pos (c.usable_iff.2 live), fun dead => if_neg (dead ∘ c.usable_iff.1)⟩
    · rw [← he, waits, old, setpointAfter_ramp c used]
    · rw [integrator, integratorAfter_dead dead]
    · rw [integrator, integratorAfter_live live, zoneError_live live]
    · rw [lastDemand, decideDemand, set]
    · rw [lastDemand, decideDemand, clear, if_pos on]
    · rw [lastDemand, decideDemand, clear]
      simp [off, c.usable_false_iff.2 dead]
    · rw [lastDemand, decideDemand, clear]
      simp [off, c.usable_iff.2 live, cool]
    · have law : y.lastDemand = lawDemand (proportionalTerm cfg (zoneError c e)) y.integrator := by
        rw [lastDemand, decideDemand, clear]
        simp [off, c.usable_iff.2 live, not_lt.2 warm]
      rw [law, lawDemand_eq, zoneError_live live]
      rfl

/-- Settles O8: the gate status block shows the pass's dew check, whose seconds since re-arm the gate keeps. -/
theorem dewCheck : Obligations.DewCheck := by
  intro low s due h
  refine ⟨_, exec_climatePass low h, ?_⟩
  generalize atPass : ({ s.reachTime due with nextPass := some (due + Config.passPeriod) } : State) = u
  have mem : s.mem = u.demanded.mem := by rw [← atPass]; rfl
  have sensors : s.sensors = u.demanded.sensors := by rw [← atPass]; rfl
  simp only [mem, sensors, State.climatePass_shown_gate, State.climatePass_gate, State.gated_shown_gate,
    State.gated_sinceRearm]
  exact ⟨dewPoint_live _, dewPoint_dead _, fun live => surfaceMargin_live live _, fun dead => surfaceMargin_dead dead _,
    fun live => surfaceMargin_live live _, fun dead => surfaceMargin_dead dead _, dewCheck_isMet_iff _⟩

/-- Settles O14: each request is a record written and, from the desk, answered. -/
theorem climateRequests : Obligations.ClimateRequests := by
  refine ⟨fun s => ⟨fun z due set => ?_, ?_⟩, fun target seconds s => ?_, fun slot s => ⟨fun zone duty seconds named within => ?_,
    fun lock flag => ?_⟩⟩
  · exact ⟨_, exec_heaterOutputOff set, put_same _ _ _, fun y other => put_other _ other.symm _, rfl⟩
  · exact ⟨_, rfl, rfl, rfl⟩
  · refine ⟨_, exec_boostRequest target seconds s, ?_⟩
    obtain ⟨zones, refusal, frame⟩ := State.takeBoost_requested (s.taking (.boostRequest target seconds)) target seconds.toNat
    exact ⟨zones, refusal, congrArg (fun m : State => ({ m with lastRefusal := _ } : State)) frame⟩
  · refine ⟨_, exec_climateOverride slot seconds named within, upd_same _ _ _, fun z other => upd_other _ ?_ _, rfl, rfl⟩
    exact fun same => other (congrArg Fin.val same).symm
  · refine ⟨_, exec_keypadLock slot flag, decide_eq_true_iff, ?_, rfl⟩
    have word : (if lock = 1#16 then 1 else 0 : Word) = lock := by
      by_cases one : lock = 1#16
      · rw [if_pos one, one]
        rfl
      · rw [if_neg one]
        bv_omega
    exact congrArg (fun w : Word => s.transit.erase (.keypadLock slot lock) ++ [.deskAnswer slot .done { w0 := w }]) word

end Sys2Proof.Settled
end

section
/-! SUPPORT. The gate's moves in a pass (R20 to R25), and the events of a pass in their order. Obligations O9, O11 and O13. -/

namespace Sys2Proof.Machine

open Sys2Proof Host

variable {s t u : State}

/-! ### The gate's moves, case by case -/

section
variable {g : Gate} {soak : Nat} {stamp : DWord} {progress : Nat}

theorem Gate.moved_opened (met : Bool) (soak : Nat) (state : g.state = .opened) : g.moved false met soak = g := by
  simp [Gate.moved, state]

theorem Gate.moved_closed_unmet (soak : Nat) (state : g.state = .closed) : g.moved false false soak = g := by
  simp [Gate.moved, state]

theorem Gate.moved_closed_met (soak : Nat) (state : g.state = .closed) : g.moved false true soak =
    if soak = 0 then g.opens else { g with state := .soaking, soakRemaining := some soak } := by
  simp [Gate.moved, state]

theorem Gate.moved_soaking_unmet (soak : Nat) (state : g.state = .soaking) : g.moved false false soak = g.closes := by
  simp [Gate.moved, state]

theorem Gate.moved_soaking_met {n : Nat} (soak : Nat) (state : g.state = .soaking) (left : g.soakRemaining = some n) :
    g.moved false true soak = if n ≤ 1 then g.opens else { g with soakRemaining := some (n - 1) } := by
  simp [Gate.moved, state, left]

theorem Gate.moveEvents_opened (met : Bool) (state : g.state = .opened) : g.moveEvents false met soak stamp progress = [] := by
  simp [Gate.moveEvents, state]

theorem Gate.moveEvents_closed (met : Bool) (state : g.state = .closed) : g.moveEvents false met soak stamp progress =
    if ¬ met = true then [] else if soak = 0 then openEvents stamp progress else [warmUpPosting stamp 1 1 progress false] := by
  cases met <;> simp [Gate.moveEvents, state]

theorem Gate.moveEvents_soaking {n : Nat} (met : Bool) (state : g.state = .soaking) (left : g.soakRemaining = some n) :
    g.moveEvents false met soak stamp progress =
    if ¬ met = true then [warmUpPosting stamp 2 0 progress false] else if n ≤ 1 then openEvents stamp progress else [] := by
  cases met <;> simp [Gate.moveEvents, state, left]

/-! ### The warm-up limit -/

theorem Gate.expires_iff (g : Gate) (m : Memory) :
    g.expires m = true ↔ g.state ≠ .opened ∧ g.limitExpired = false ∧ warmUpLimit m ≤ g.sinceRearm := by
  simp [Gate.expires, and_assoc]

theorem Gate.limited_state (g : Gate) (m : Memory) :
    (g.limited m).state = if g.expires m = true ∧ releaseAnyway m = true then .opened else g.state := by
  unfold Gate.limited Gate.opens
  cases g.expires m <;> cases releaseAnyway m <;> rfl

theorem Gate.limited_limitExpired (g : Gate) (m : Memory) :
    (g.limited m).limitExpired = true ↔ g.limitExpired = true ∨ g.expires m = true := by
  unfold Gate.limited Gate.opens
  cases g.expires m <;> cases releaseAnyway m <;> simp

theorem Gate.limited_soakRemaining (g : Gate) (m : Memory) :
    (g.limited m).soakRemaining = if g.expires m = true ∧ releaseAnyway m = true then none else g.soakRemaining := by
  unfold Gate.limited Gate.opens
  cases g.expires m <;> cases releaseAnyway m <;> rfl

/-- The limit is at least a minute (R19). -/
theorem warmUpLimit_pos (m : Memory) : 0 < warmUpLimit m := by
  unfold warmUpLimit clampNat
  omega

theorem Gate.limited_opened (m : Memory) (state : g.state = .opened) : g.limited m = g := by
  have early : ¬ g.expires m = true := fun expires => (g.expires_iff m).1 expires |>.1 state
  exact if_neg early

theorem Gate.limited_fresh (m : Memory) (fresh : g.sinceRearm = 0) : g.limited m = g := by
  have early : ¬ g.expires m = true := fun expires => by
    have least := ((g.expires_iff m).1 expires).2.2
    rw [fresh] at least
    exact absurd (warmUpLimit_pos m) (by omega)
  exact if_neg early

/-- An opening leaves no soak remaining (R24). -/
theorem Gate.moved_soak_none {met : Bool} (rearm : Bool) (closed : g.state ≠ .opened)
    (opened : (g.moved rearm met soak).state = .opened) : (g.moved rearm met soak).soakRemaining = none := by
  unfold Gate.moved Gate.opens Gate.closes at *
  cases rearm
  · cases state : g.state
    · cases met
      · simp [state] at opened
      · by_cases none : soak = 0 <;> simp [state, none] at opened ⊢
    · cases met
      · simp [state] at opened
      · by_cases ends : g.soakRemaining.getD 0 ≤ 1
        · simp [ends]
        · simp [state, ends] at opened
    · exact absurd state closed
  · cases met <;> rfl

theorem Gate.limited_soak_none (m : Memory) (opened : (g.limited m).state = .opened)
    (before : g.state = .opened → g.soakRemaining = none) : (g.limited m).soakRemaining = none := by
  rw [Gate.limited_state] at opened
  rw [Gate.limited_soakRemaining]
  split at opened
  next expired => rw [if_pos expired]
  next waits => rw [if_neg waits, before opened]

end

/-! ### The zones at the gate (R21, R25) -/

theorem zoneCondition_iff (s : State) : zoneCondition s = true ↔
    ∀ z : Fin 3, (zoneCfg s.mem z).rated ≠ 0 → (zoneCfg s.mem z).gating = true →
      if (s.control z).Live then (zoneCfg s.mem z).release ≤ (s.control z).held
      else (zoneCfg s.mem z).fallback * 60 ≤ s.gate.sinceRearm := by
  have zone (z : Fin 3) : (!(zoneCfg s.mem z).holdsGate || zoneStands (zoneCfg s.mem z) (s.control z) s.gate.sinceRearm) = true ↔
      ((zoneCfg s.mem z).rated ≠ 0 → (zoneCfg s.mem z).gating = true →
        if (s.control z).Live then (zoneCfg s.mem z).release ≤ (s.control z).held
        else (zoneCfg s.mem z).fallback * 60 ≤ s.gate.sinceRearm) := by
    have stands : zoneStands (zoneCfg s.mem z) (s.control z) s.gate.sinceRearm = true ↔
        if (s.control z).Live then (zoneCfg s.mem z).release ≤ (s.control z).held
        else (zoneCfg s.mem z).fallback * 60 ≤ s.gate.sinceRearm := by
      unfold zoneStands
      by_cases live : (s.control z).Live
      · rw [if_pos ((s.control z).usable_iff.2 live), if_pos live, decide_eq_true_iff]
      · rw [if_neg (live ∘ (s.control z).usable_iff.1), if_neg live, decide_eq_true_iff]
    rw [Bool.or_eq_true, stands, ← and_imp, ← ZoneCfg.holdsGate_iff]
    cases (zoneCfg s.mem z).holdsGate <;> simp
  unfold zoneCondition
  rw [List.all_eq_true]
  exact ⟨fun all z => (zone z).1 (all z (mem_indices z)), fun all z _ => (zone z).2 (all z)⟩

/-- A progress figure of a zone (R25), its T0 as the zone then holds it. -/
def Figure (cfg : ZoneCfg) (c : Sensor) (since : Nat) (t0 : Option Int) (n : Nat) : Prop :=
  (¬ c.Live → n = if cfg.fallback * 60 ≤ since then 1000 else since * 1000 / (cfg.fallback * 60)) ∧
  (c.Live → ∃ b, t0 = some b ∧
    (n : Int) = if cfg.release ≤ c.held ∨ cfg.release ≤ b then 1000
      else max 0 (min 1000 (((c.held - b) * 1000).tdiv (cfg.release - b))))

section
variable {c : Sensor}

theorem zoneFigure_dead (cfg : ZoneCfg) (dead : ¬ c.Live) (since : Nat) (t0 : Option Int) : zoneFigure cfg c since t0 =
    if cfg.fallback * 60 ≤ since then 1000 else since * 1000 / (cfg.fallback * 60) :=
  if_pos (by simp [c.usable_false_iff.2 dead])

theorem zoneFigure_live (cfg : ZoneCfg) (live : c.Live) (since : Nat) (t0 : Option Int) : (zoneFigure cfg c since t0 : Int) =
    if cfg.release ≤ c.held ∨ cfg.release ≤ t0.getD c.held then 1000
    else max 0 (min 1000 (((c.held - t0.getD c.held) * 1000).tdiv (cfg.release - t0.getD c.held))) := by
  have formed : zoneFigure cfg c since t0 = if cfg.release ≤ c.held ∨ cfg.release ≤ t0.getD c.held then 1000
      else (clampInt (truncDiv ((c.held - t0.getD c.held) * 1000) (cfg.release - t0.getD c.held)) 0 1000).toNat :=
    if_neg (by simp [c.usable_iff.2 live])
  rw [formed]
  split
  · rfl
  · unfold clampInt
    rw [min_comm]
    exact Int.toNat_of_nonneg (le_max_left _ _)

end

theorem figure_iff (cfg : ZoneCfg) (c : Sensor) (since : Nat) (t0 : Option Int) (n : Nat) :
    Figure cfg c since (if c.Live then some (t0.getD c.held) else t0) n ↔ n = zoneFigure cfg c since t0 := by
  unfold Figure
  by_cases live : c.Live
  · rw [if_pos live, ← Int.natCast_inj (n := zoneFigure cfg c since t0), zoneFigure_live cfg live]
    refine ⟨fun ⟨_, formed⟩ => ?_, fun formed => ⟨fun dead => absurd live dead, fun _ => ⟨_, rfl, formed⟩⟩⟩
    obtain ⟨b, base, formed⟩ := formed live
    cases base
    exact formed
  · rw [zoneFigure_dead cfg live]
    exact ⟨fun ⟨formed, _⟩ => formed live, fun formed => ⟨fun _ => formed, fun now => absurd now live⟩⟩

theorem foldl_min_spec {α : Type} (p : α → Bool) (f : α → Nat) (l : List α) : ∀ a : Nat,
    let r := l.foldl (fun acc x => if p x then min acc (f x) else acc) a
    r ≤ a ∧ (∀ x ∈ l, p x = true → r ≤ f x) ∧ (r = a ∨ ∃ x ∈ l, p x = true ∧ r = f x) := by
  induction l with
  | nil => exact fun a => ⟨le_refl a, nofun, .inl rfl⟩
  | cons x l ih =>
    intro a
    obtain ⟨most, each, reached⟩ := ih (if p x then min a (f x) else a)
    simp only [List.foldl_cons]
    generalize l.foldl (fun acc x => if p x then min acc (f x) else acc) (if p x then min a (f x) else a) = r at most each reached
    by_cases counts : p x = true
    · rw [if_pos counts] at most reached
      refine ⟨most.trans (min_le_left _ _), fun y mem holds => ?_, ?_⟩
      · rcases List.mem_cons.1 mem with rfl | later
        · exact most.trans (min_le_right _ _)
        · exact each y later holds
      · rcases reached with first | ⟨y, later, holds, equal⟩
        · rcases min_choice a (f x) with all | here
          · exact .inl (first.trans all)
          · exact .inr ⟨x, List.mem_cons_self, counts, first.trans here⟩
        · exact .inr ⟨y, List.mem_cons_of_mem _ later, holds, equal⟩
    · rw [if_neg counts] at most reached
      refine ⟨most, fun y mem holds => ?_, reached.imp_right ?_⟩
      · rcases List.mem_cons.1 mem with rfl | later
        · exact absurd holds counts
        · exact each y later holds
      · exact fun ⟨y, later, holds, equal⟩ => ⟨y, List.mem_cons_of_mem _ later, holds, equal⟩

section
variable (s : State) (z : Fin 3)

/-- A zone's T0 after a pass (R20, R25). -/
theorem State.gated_rearmTemp : s.gated.zones[z].rearmTemp =
    if (s.gate.rearmPending = true ∨ (s.gated.gate.state ≠ .opened ∧ s.zones[z].rearmTemp = none)) ∧
        (zoneCfg s.mem z).rated ≠ 0 ∧ (zoneCfg s.mem z).gating = true ∧ (s.control z).Live then some (s.control z).held
    else if s.gate.rearmPending = true then none else s.zones[z].rearmTemp := by
  have held : (zoneCfg s.mem z).holdsGate = true ∧ (s.control z).usable = true ↔
      (zoneCfg s.mem z).rated ≠ 0 ∧ (zoneCfg s.mem z).gating = true ∧ (s.control z).Live := by
    rw [ZoneCfg.holdsGate_iff, Sensor.usable_iff, and_assoc]
  have worked : s.demanded.zones[z].rearmTemp =
      if s.gate.rearmPending = true then
        if (zoneCfg s.mem z).holdsGate = true ∧ (s.control z).usable = true then some (s.control z).held else none
      else s.zones[z].rearmTemp := by
    rw [State.demanded_zone, zonePass_rearmTemp]
    unfold rearmTempAfter ZoneCfg.holdsGate
    cases s.gate.rearmPending <;> simp
  have gated := s.gated_zone z
  simp only [← held]
  generalize s.demanded.zones[z] = x at worked gated
  rw [gated]
  dsimp only
  split
  next taken =>
    obtain ⟨closed, holds, usable, absent⟩ := taken
    refine (if_pos ⟨?_, holds, usable⟩).symm
    rw [worked] at absent
    by_cases rearm : s.gate.rearmPending = true
    · exact .inl rearm
    · rw [if_neg rearm] at absent
      exact .inr ⟨closed, absent⟩
  next kept =>
    by_cases rearm : s.gate.rearmPending = true
    · by_cases holds : (zoneCfg s.mem z).holdsGate = true ∧ (s.control z).usable = true
      · rw [worked, if_pos rearm, if_pos holds, if_pos ⟨.inl rearm, holds⟩]
      · rw [worked, if_pos rearm, if_neg holds, if_neg (fun both => holds both.2), if_pos rearm]
    · rw [worked, if_neg rearm] at kept
      rw [worked, if_neg rearm, if_neg ?_, if_neg rearm]
      rintro ⟨pending | ⟨closed, absent⟩, holds, usable⟩
      · exact rearm pending
      · exact kept ⟨closed, holds, usable, absent⟩

theorem State.progressNow_opened (opened : s.passGate.state = .opened) : s.progressNow = 1000 := if_pos opened

/-- The figure of a zone as the pass leaves its T0 (R25). -/
theorem State.gated_figure (closed : s.passGate.state ≠ .opened) (rated : (zoneCfg s.mem z).rated ≠ 0)
    (gating : (zoneCfg s.mem z).gating = true) (n : Nat) :
    Figure (zoneCfg s.mem z) (s.control z) s.passGate.sinceRearm s.gated.zones[z].rearmTemp n ↔
      n = zoneFigure (zoneCfg s.mem z) (s.control z) s.passGate.sinceRearm s.demanded.zones[z].rearmTemp := by
  have holds := (ZoneCfg.holdsGate_iff _).2 ⟨rated, gating⟩
  have state : s.gated.gate.state ≠ .opened := by rw [State.gated_gate]; exact closed
  have temp : s.gated.zones[z].rearmTemp =
      if (s.control z).Live then some (s.demanded.zones[z].rearmTemp.getD (s.control z).held)
      else s.demanded.zones[z].rearmTemp := by
    have gated := s.gated_zone z
    generalize s.demanded.zones[z] = x at gated
    rw [gated]
    by_cases live : (s.control z).Live
    · have usable := (s.control z).usable_iff.2 live
      cases before : x.rearmTemp <;> simp [state, holds, usable, before, live]
    · simp [live, (s.control z).usable_false_iff.2 live]
  rw [temp]
  exact figure_iff ..

/-- The progress of a pass that does not end with the gate OPEN (R25). -/
theorem State.progressNow_closed (closed : s.passGate.state ≠ .opened) :
    let figure (z : Fin 3) (n : Nat) : Prop :=
      Figure (zoneCfg s.mem z) (s.control z) s.passGate.sinceRearm s.gated.zones[z].rearmTemp n
    s.progressNow ≤ 1000 ∧
    (∀ z n, (zoneCfg s.mem z).rated ≠ 0 → (zoneCfg s.mem z).gating = true → figure z n → s.progressNow ≤ n) ∧
    (s.progressNow = 1000 ∨ ∃ z, (zoneCfg s.mem z).rated ≠ 0 ∧ (zoneCfg s.mem z).gating = true ∧ figure z s.progressNow) := by
  intro figure
  have least : s.progressNow = closedProgress (s.demanded.setGate s.passGate) := if_neg closed
  obtain ⟨most, each, reached⟩ := foldl_min_spec (fun z => (zoneCfg s.mem z).holdsGate)
    (fun z => zoneFigure (zoneCfg s.mem z) (s.control z) s.passGate.sinceRearm s.demanded.zones[z].rearmTemp) (indices 3) 1000
  have folded : s.progressNow = (indices 3).foldl (fun acc z => if (zoneCfg s.mem z).holdsGate then
      min acc (zoneFigure (zoneCfg s.mem z) (s.control z) s.passGate.sinceRearm s.demanded.zones[z].rearmTemp) else acc) 1000 :=
    least
  rw [← folded] at most each reached
  refine ⟨most, fun z n rated gating is => ?_, reached.imp_right ?_⟩
  · rw [(s.gated_figure z closed rated gating n).1 is]
    exact each z (mem_indices z) ((ZoneCfg.holdsGate_iff _).2 ⟨rated, gating⟩)
  · rintro ⟨z, -, holds, equal⟩
    obtain ⟨rated, gating⟩ := (ZoneCfg.holdsGate_iff _).1 holds
    exact ⟨z, rated, gating, (s.gated_figure z closed rated gating _).2 equal⟩

end

/-! ### The frame and the events of a pass -/

/-- What a pass may change. -/
def PassFrame (s t : State) : Prop := t = { s with
  transit := t.transit, zones := t.zones, gate := t.gate, budget := t.budget, heaters := t.heaters, fans := t.fans
  sweep := t.sweep, chords := t.chords, shown := t.shown }

theorem PassFrame.trans (h : PassFrame s t) (h' : PassFrame t u) : PassFrame s u := by
  unfold PassFrame at *
  rw [h', h]

theorem FanFrame.pass (h : FanFrame s t) : PassFrame s t := by
  obtain ⟨-, frame⟩ := h
  unfold PassFrame
  rw [frame]

theorem State.gated_frame (s : State) : PassFrame s s.gated := by
  unfold State.gated
  rw [State.gatePass_eq]
  rfl

theorem State.beforeGrants_frame (s : State) : PassFrame s s.beforeGrants := by
  rw [State.beforeGrants_eq]
  have fans := s.gated_frame.trans s.gated.fanPass_fanFrame.pass
  generalize s.gated.fanPass = m at fans
  exact fans.trans rfl

theorem State.climatePass_frame (s : State) (low : Bool) : PassFrame s (s.climatePass low) := by
  have episode : PassFrame s (s.beforeGrants.episodePass (s.passGrants low)) := s.beforeGrants_frame.trans (by
    unfold PassFrame
    rw [State.episodePass_eq])
  rw [State.climatePass_eq]
  generalize s.beforeGrants.episodePass (s.passGrants low) = m at episode
  exact episode.trans rfl

theorem State.climatePass_chords (s : State) (low : Bool) :
    (s.climatePass low).chords = s.chords.takeProgress s.gate.rearmPending (s.climatePass low).gate.progress := by
  have before : s.beforeGrants.chords = s.chords := by
    have gated : s.gated.chords = s.chords := by
      unfold State.gated
      rw [State.gatePass_eq]
      rfl
    rw [State.beforeGrants_eq, ← gated]
    have frame := s.gated.fanPass_fanFrame.2
    generalize s.gated.fanPass = t at frame
    rw [frame]
    rfl
  have episode : (s.beforeGrants.episodePass (s.passGrants low)).chords = s.chords := by
    rw [State.episodePass_eq]
    exact before
  rw [State.climatePass_eq]
  generalize s.beforeGrants.episodePass (s.passGrants low) = m at episode
  rw [← episode]
  rfl

/-- What the gate's work of a pass sends (R22 to R24). -/
theorem State.gated_transit (s : State) :
    let met := zoneCondition s.demanded && (dewCheck s.demanded).isMet
    s.gated.transit = s.transit
      ++ s.gate.passBegins.moveEvents s.gate.rearmPending met (soakTime s.mem) s.uptime s.progressNow
      ++ (s.gate.passBegins.moved s.gate.rearmPending met (soakTime s.mem)).limitEvents s.mem (zoneCondition s.demanded)
        (dewCheck s.demanded).isMet s.uptime s.progressNow := by
  intro met
  unfold State.gated
  rw [State.gatePass_eq]
  rfl

/-- The zones whose interlock enters TRIPPED in a pass (R31). -/
def State.tripCount (s : State) : Nat := (indices 3).countP fun z => s.beforeGrants.budget.tripped[z] && !s.budget.tripped[z]

/-- What an episode's beginning sends (R33). -/
def State.episodeEvents (s : State) (g : Grants) : List Instr :=
  if (s.budget.afterPass ((indices 3).any g.isCut)).2 then
    [.counterIncrement .budgetShortEpisodes,
      posting s.uptime .budgetShort 0 false 0
        { w0 := natWord g.available, w1 := natWord g.requests.toList.sum, w2 := natWord g.grants.toList.sum
          w3 := natWord g.cutBits }]
  else []

theorem State.episodePass_transit (s : State) (g : Grants) :
    (s.episodePass g).transit = s.transit ++ s.episodeEvents g := by
  unfold State.episodePass State.episodeEvents
  dsimp only
  split
  · exact List.append_assoc ..
  · exact (List.append_nil _).symm

theorem State.gated_budget (s : State) : s.gated.budget = s.budget := by
  unfold State.gated
  rw [State.gatePass_eq]
  rfl

/-- The interlocks after a pass (R31). -/
theorem State.beforeGrants_budget (s : State) : s.beforeGrants.budget = { s.budget with
    tripped := Vector.ofFn fun z => interlockAfter (zoneCfg s.mem z) (s.plateOf z) s.budget.tripped[z] } := by
  have frame := s.gated_frame.trans s.gated.fanPass_fanFrame.pass
  have budget : s.gated.fanPass.budget = s.budget := by
    have fans := s.gated.fanPass_fanFrame.2
    rw [← s.gated_budget]
    generalize s.gated.fanPass = t at fans
    rw [fans]
  rw [State.beforeGrants_eq]
  generalize s.gated.fanPass = t at frame budget
  have tripped : t.interlockPass.budget = { t.budget with
      tripped := Vector.ofFn fun z => interlockAfter (zoneCfg t.mem z) (t.plateOf z) t.budget.tripped[z] } := rfl
  have mem : t.mem = s.mem := by rw [frame]
  have plate : t.plateOf = s.plateOf := by
    rw [frame]
    rfl
  rw [tripped, budget, mem, plate]

theorem State.beforeGrants_transit (s : State) : ∃ fans, (∀ c ∈ fans, fanEvent c) ∧
    s.beforeGrants.transit = s.gated.transit ++ fans ++ List.replicate s.tripCount (.counterIncrement .plateTrips) := by
  obtain ⟨⟨fans, sent, only⟩, frame⟩ := s.gated.fanPass_fanFrame
  have budget : s.gated.fanPass.budget = s.budget := by
    rw [← s.gated_budget]
    generalize s.gated.fanPass = t at frame
    rw [frame]
  refine ⟨fans, only, ?_⟩
  unfold State.tripCount
  rw [← sent, ← budget, State.beforeGrants_eq]
  generalize s.gated.fanPass = t
  have told : t.interlockPass.transit = t.transit ++
      ((indices 3).filter fun z => t.interlockPass.budget.tripped[z] && !t.budget.tripped[z]).map
        fun _ => Instr.counterIncrement .plateTrips := rfl
  rw [told, List.map_const', List.countP_eq_length_filter]

/-- The events of a pass in their order (R7). -/
theorem State.climatePass_transit (s : State) (low : Bool) : ∃ fans, (∀ c ∈ fans, fanEvent c) ∧
    (s.climatePass low).transit = s.gated.transit ++ (fans ++ List.replicate s.tripCount (.counterIncrement .plateTrips)
      ++ s.beforeGrants.episodeEvents (s.passGrants low)
      ++ [.counterIncrement .passes, .gateReport s.gated.gate.state s.gate.rearmPending]) := by
  obtain ⟨fans, only, before⟩ := s.beforeGrants_transit
  refine ⟨fans, only, ?_⟩
  have closed (m : State) (g : Grants) (r : Bool) : ((m.applyGrants g low).closePass r).transit =
      (m.transit ++ [.counterIncrement .passes]) ++ [.gateReport m.gate.state r] := rfl
  rw [State.climatePass_eq, closed, State.episodePass_gate, State.beforeGrants_gate, State.episodePass_transit, before]
  simp only [List.append_assoc]
  rfl

/-! ### The gate of a pass, case by case (R20 to R24) -/

section
variable (u : State)

/-- The conditions of a pass (R20 to R22). -/
def State.conditionsMet (u : State) : Bool := zoneCondition u.demanded && (dewCheck u.demanded).isMet

/-- The gate of a pass between its move and the limit. -/
def State.movedGate (u : State) : Gate := u.gate.passBegins.moved u.gate.rearmPending u.conditionsMet (soakTime u.mem)

theorem State.passGate_eq : u.passGate = u.movedGate.limited u.mem := rfl

theorem State.passBegins_rearm (rearm : u.gate.rearmPending = true) : u.gate.passBegins =
    { u.gate with rearmPending := false, sinceRearm := 0, soakRemaining := none, limitExpired := false } := if_pos rearm

theorem State.passBegins_second (quiet : u.gate.rearmPending = false) : u.gate.passBegins =
    { u.gate with sinceRearm := min (u.gate.sinceRearm + 1) 65535 } := if_neg (by simp [quiet])

theorem State.passGate_rearmPending : u.passGate.rearmPending = false := by
  have kept : u.passGate.rearmPending = u.gate.passBegins.rearmPending :=
    (Gate.limited_keeps _ _).2.trans (Gate.moved_keeps ..).2.2
  rw [kept]
  unfold Gate.passBegins
  cases pending : u.gate.rearmPending <;> simp

/-- A pass's limit, from the gate state it finds (R23). -/
theorem State.passGate_limit {found : GateState} (state : u.movedGate.state = found)
    (mark : u.movedGate.limitExpired = u.gate.limitExpired) :
    let expires : Prop := found ≠ .opened ∧ u.gate.limitExpired = false ∧ warmUpLimit u.mem ≤ u.passGate.sinceRearm
    u.passGate.state = (if expires ∧ releaseAnyway u.mem = true then .opened else found) ∧
    u.passGate.soakRemaining = (if expires ∧ releaseAnyway u.mem = true then none else u.movedGate.soakRemaining) ∧
    (u.passGate.limitExpired = true ↔ u.gate.limitExpired = true ∨ expires) := by
  intro expires
  have since : u.passGate.sinceRearm = u.movedGate.sinceRearm := (Gate.limited_keeps _ _).1
  have same : u.movedGate.expires u.mem = true ↔ expires := by
    rw [Gate.expires_iff, state, mark, ← since]
  refine ⟨?_, ?_, ?_⟩
  · exact (Gate.limited_state u.movedGate u.mem).trans (by simp only [same, state])
  · exact (Gate.limited_soakRemaining u.movedGate u.mem).trans (by simp only [same])
  · rw [State.passGate_eq, Gate.limited_limitExpired, same, mark]

theorem State.passGate_soak_none (closed : u.gate.state ≠ .opened) (opened : u.passGate.state = .opened) :
    u.passGate.soakRemaining = none := by
  have begins : u.gate.passBegins.state ≠ .opened := by
    unfold Gate.passBegins
    split <;> exact closed
  exact Gate.limited_soak_none _ opened (Gate.moved_soak_none _ begins)

theorem State.passGate_rearm (rearm : u.gate.rearmPending = true) : u.passGate.sinceRearm = 0 ∧
    u.passGate.limitExpired = false ∧ u.passGate.soakRemaining = none ∧
    u.passGate.state = if u.conditionsMet = true then .opened else .closed := by
  have begun := u.passBegins_rearm rearm
  have moved : u.movedGate = if u.conditionsMet = true then u.gate.passBegins.opens else u.gate.passBegins.closes := by
    unfold State.movedGate
    rw [rearm]
    rfl
  have fresh : u.movedGate.sinceRearm = 0 := by rw [moved, begun]; split <;> rfl
  rw [State.passGate_eq, Gate.limited_fresh _ fresh]
  refine ⟨fresh, ?_, ?_, ?_⟩
  all_goals
    rw [moved, begun]
    split <;> rfl

section
variable {u} (quiet : u.gate.rearmPending = false)
include quiet

theorem State.movedGate_quiet : u.movedGate = u.gate.passBegins.moved false u.conditionsMet (soakTime u.mem) := by
  unfold State.movedGate
  rw [quiet]

theorem State.movedGate_mark : u.movedGate.limitExpired = u.gate.limitExpired := by
  rw [State.movedGate_quiet quiet, (Gate.moved_keeps ..).2.1, u.passBegins_second quiet]

theorem State.passGate_second : u.passGate.sinceRearm = min (u.gate.sinceRearm + 1) 65535 := by
  rw [State.passGate_sinceRearm, u.passBegins_second quiet]

theorem State.passBegins_state : u.gate.passBegins.state = u.gate.state ∧
    u.gate.passBegins.soakRemaining = u.gate.soakRemaining := by
  rw [u.passBegins_second quiet]
  exact ⟨rfl, rfl⟩

theorem State.passGate_opened (opened : u.movedGate.state = .opened) :
    u.passGate.state = .opened ∧ u.passGate.limitExpired = u.gate.limitExpired := by
  rw [State.passGate_eq, Gate.limited_opened _ opened]
  exact ⟨opened, State.movedGate_mark quiet⟩

theorem State.movedGate_opened (state : u.gate.state = .opened) : u.movedGate.state = .opened := by
  have begins := (State.passBegins_state quiet).1.trans state
  rw [State.movedGate_quiet quiet, Gate.moved_opened _ _ begins, begins]

theorem State.movedGate_closed_unmet (state : u.gate.state = .closed) (unmet : u.conditionsMet = false) :
    u.movedGate.state = .closed := by
  have begins := (State.passBegins_state quiet).1.trans state
  rw [State.movedGate_quiet quiet, unmet, Gate.moved_closed_unmet _ begins, begins]

theorem State.movedGate_closed_met (state : u.gate.state = .closed) (met : u.conditionsMet = true) :
    (soakTime u.mem = 0 → u.movedGate.state = .opened) ∧
    (soakTime u.mem ≠ 0 → u.movedGate.state = .soaking ∧ u.movedGate.soakRemaining = some (soakTime u.mem)) := by
  have begins := (State.passBegins_state quiet).1.trans state
  rw [State.movedGate_quiet quiet, met, Gate.moved_closed_met _ begins]
  exact ⟨fun none => by rw [if_pos none]; rfl, fun some => by rw [if_neg some]; exact ⟨rfl, rfl⟩⟩

theorem State.movedGate_soaking_unmet (state : u.gate.state = .soaking) (unmet : u.conditionsMet = false) :
    u.movedGate.state = .closed ∧ u.movedGate.soakRemaining = none := by
  have begins := (State.passBegins_state quiet).1.trans state
  rw [State.movedGate_quiet quiet, unmet, Gate.moved_soaking_unmet _ begins]
  exact ⟨rfl, rfl⟩

theorem State.movedGate_soaking_met {n : Nat} (state : u.gate.state = .soaking) (left : u.gate.soakRemaining = some n)
    (met : u.conditionsMet = true) :
    (n ≤ 1 → u.movedGate.state = .opened) ∧
    (1 < n → u.movedGate.state = .soaking ∧ u.movedGate.soakRemaining = some (n - 1)) := by
  obtain ⟨same, soak⟩ := State.passBegins_state quiet
  have begins := same.trans state
  rw [State.movedGate_quiet quiet, met, Gate.moved_soaking_met _ begins (soak.trans left)]
  exact ⟨fun ends => by rw [if_pos ends]; rfl, fun on => by rw [if_neg (not_le.2 on)]; exact ⟨begins, rfl⟩⟩

end

end

/-! ### What the gate of a pass sends (R22 to R24) -/

section
variable (u : State)

/-- The events of the gate's move. -/
def State.gateEvents (u : State) : List Instr :=
  u.gate.passBegins.moveEvents u.gate.rearmPending u.conditionsMet (soakTime u.mem) u.uptime u.progressNow

/-- The events of the warm-up limit. -/
def State.limitsSent (u : State) : List Instr :=
  u.movedGate.limitEvents u.mem (zoneCondition u.demanded) (dewCheck u.demanded).isMet u.uptime u.progressNow

theorem State.gated_events : u.gated.transit = u.transit ++ u.gateEvents ++ u.limitsSent := u.gated_transit

theorem State.gateEvents_rearm (rearm : u.gate.rearmPending = true) :
    u.gateEvents = if u.conditionsMet = true then openEvents u.uptime u.progressNow else [] := by
  unfold State.gateEvents
  rw [rearm]
  rfl

theorem State.limitsSent_unexpired (unexpired : ¬ u.movedGate.expires u.mem = true) : u.limitsSent = [] := if_neg unexpired

/-- The mark of a pass whose limit does not expire in it stays as it was. -/
theorem State.limitsSent_kept (kept : u.passGate.limitExpired = u.gate.limitExpired) : u.limitsSent = [] := by
  refine u.limitsSent_unexpired fun expires => ?_
  obtain ⟨-, unmarked, late⟩ := (Gate.expires_iff _ _).1 expires
  have marked : u.passGate.limitExpired = true := (Gate.limited_limitExpired _ _).2 (.inr expires)
  cases pending : u.gate.rearmPending with
  | true =>
    rw [(u.passGate_rearm pending).2.1] at marked
    exact Bool.false_ne_true marked
  | false =>
    rw [State.movedGate_mark pending, ← kept, marked] at unmarked
    exact Bool.false_ne_true unmarked.symm

theorem State.limitsSent_rearm (rearm : u.gate.rearmPending = true) : u.limitsSent = [] := by
  refine u.limitsSent_unexpired fun expires => ?_
  have marked : u.passGate.limitExpired = true := (Gate.limited_limitExpired _ _).2 (.inr expires)
  rw [(u.passGate_rearm rearm).2.1] at marked
  exact Bool.false_ne_true marked

variable {u} (quiet : u.gate.rearmPending = false)
include quiet

theorem State.gateEvents_quiet : u.gateEvents =
    u.gate.passBegins.moveEvents false u.conditionsMet (soakTime u.mem) u.uptime u.progressNow := by
  unfold State.gateEvents
  rw [quiet]

/-- The gate state a limit finds is the one the conditions leave (R22, R23). -/
theorem State.movedGate_found (closed : u.movedGate.state ≠ .opened) :
    gateCode u.movedGate.state = if u.conditionsMet = true then 1 else 0 := by
  obtain ⟨same, soak⟩ := State.passBegins_state quiet
  cases met : u.conditionsMet with
  | false =>
    rw [if_neg Bool.false_ne_true]
    cases state : u.gate.state with
    | closed => rw [State.movedGate_closed_unmet quiet state met]; rfl
    | soaking => rw [(State.movedGate_soaking_unmet quiet state met).1]; rfl
    | opened => exact absurd (State.movedGate_opened quiet state) closed
  | true =>
    rw [if_pos rfl]
    cases state : u.gate.state with
    | closed =>
      obtain ⟨opens, soaks⟩ := State.movedGate_closed_met quiet state met
      rw [(soaks (fun none => closed (opens none))).1]
      rfl
    | soaking =>
      rw [State.movedGate_quiet quiet] at closed ⊢
      have begins := same.trans state
      unfold Gate.moved at closed ⊢
      rw [met] at closed ⊢
      by_cases ends : u.gate.passBegins.soakRemaining.getD 0 ≤ 1
      · simp [begins, ends, Gate.opens] at closed
      · simp [begins, ends, gateCode]
    | opened => exact absurd (State.movedGate_opened quiet state) closed

theorem State.limitsSent_expired (now : u.passGate.limitExpired = true) (before : u.gate.limitExpired = false) :
    u.limitsSent = [.counterIncrement .warmUpLimitExpiries,
      posting u.uptime .warmUpLimit 0 true 0
        { w0 := natWord (if u.conditionsMet = true then 1 else 0), w1 := natWord u.progressNow
          w2 := flagWord (zoneCondition u.demanded), w3 := flagWord (dewCheck u.demanded).isMet }]
      ++ if releaseAnyway u.mem then [warmUpPosting u.uptime 3 2 u.progressNow true] else [] := by
  have marked := (Gate.limited_limitExpired u.movedGate u.mem).1 now
  rw [State.movedGate_mark quiet, before] at marked
  have expires := marked.resolve_left Bool.false_ne_true
  have closed := ((Gate.expires_iff _ _).1 expires).1
  unfold State.limitsSent Gate.limitEvents
  rw [if_pos expires, State.movedGate_found quiet closed]

end

/-- What a pass sends after its gate is none of the gate's (R22 to R24). -/
theorem State.climatePass_rest (u : State) (low : Bool) : ∃ rest, (u.climatePass low).transit = u.gated.transit ++ rest ∧
    ∀ c ∈ rest, c ≠ .counterIncrement .warmUpsCompleted ∧ c ≠ .counterIncrement .warmUpLimitExpiries ∧
      ∀ r, c = .reportPosting r → r.kind ≠ .warmUp ∧ r.kind ≠ .warmUpLimit := by
  obtain ⟨fans, only, events⟩ := u.climatePass_transit low
  refine ⟨_, events, fun c mem => ?_⟩
  simp only [List.mem_append, List.mem_replicate] at mem
  rcases mem with ((fan | ⟨-, rfl⟩) | episode) | last
  · have event := only c fan
    refine ⟨?_, ?_, ?_⟩
    · rintro rfl
      exact event
    · rintro rfl
      exact event
    · rintro r rfl
      rw [show r.kind = .fan from event]
      exact ⟨nofun, nofun⟩
  · exact ⟨nofun, nofun, nofun⟩
  · unfold State.episodeEvents at episode
    split at episode
    · rcases List.mem_pair.1 episode with rfl | rfl
      · exact ⟨nofun, nofun, nofun⟩
      · exact ⟨nofun, nofun, fun r is => by cases is; exact ⟨nofun, nofun⟩⟩
    · cases episode
  · rcases List.mem_pair.1 last with rfl | rfl <;> exact ⟨nofun, nofun, nofun⟩

end Sys2Proof.Machine

namespace Sys2Proof.Settled

open Sys2Proof Sys2Proof.Machine Host

/-- Settles O13: every stage of the pass keeps the frame, and the last two events are its own. -/
theorem passEnd : Obligations.PassEnd := by
  intro low s due h
  refine ⟨_, exec_climatePass low h, ?_⟩
  generalize atPass : ({ s.reachTime due with nextPass := some (due + Config.passPeriod) } : State) = u
  have frame := u.climatePass_frame low
  have gate := u.climatePass_gate low
  have chords := u.climatePass_chords low
  obtain ⟨fans, -, events⟩ := u.climatePass_transit low
  have transit : u.transit = s.transit := by rw [← atPass]; rfl
  obtain ⟨moves, gated⟩ : ∃ moves, u.gated.transit = s.transit ++ moves :=
    ⟨_, by rw [u.gated_transit, List.append_assoc, transit]⟩
  obtain ⟨rest, whole⟩ : ∃ rest, (u.climatePass low).transit =
      s.transit ++ rest ++ [.counterIncrement .passes, .gateReport u.gated.gate.state u.gate.rearmPending] :=
    ⟨_, by rw [events, gated, ← List.append_assoc, List.append_assoc s.transit moves]⟩
  have shown : (u.climatePass low).gate = { u.passGate with progress := u.progressNow } := gate.trans u.gated_gate
  have open_ : (u.climatePass low).gate.state = .opened → (u.climatePass low).gate.progress = 1000 := fun opened => by
    rw [shown] at opened ⊢
    exact u.progressNow_opened opened
  rw [← gate] at whole
  generalize u.climatePass low = t at frame chords whole open_
  have before : u.chords = s.chords := by rw [← atPass]; rfl
  have pending : u.gate = s.gate := by rw [← atPass]; rfl
  rw [pending] at whole
  rw [before, pending] at chords
  subst atPass
  refine ⟨by rw [frame]; rfl, by rw [frame]; rfl, ⟨rest, whole⟩, fun awaited quiet => ?_,
    fun counts => ?_, open_, ?_⟩
  · rw [chords, ChordUnit.takeProgress, if_pos (by simp [awaited, quiet])]
  · rw [chords, ChordUnit.takeProgress, if_neg]
    rcases counts with taken | rearm
    · simp [taken]
    · simp [rearm]
  · unfold PassFrame at frame
    rw [frame]
    rfl

/-- Settles O9: the gate's record is its move on the conditions and then the limit, and the events are theirs in that order. -/
theorem gateMoves : Obligations.GateMoves := by
  intro low s due h
  refine ⟨_, exec_climatePass low h, ?_⟩
  obtain ⟨u, hu⟩ : ∃ u : State, u = { s.reachTime due with nextPass := some (due + Config.passPeriod) } := ⟨_, rfl⟩
  rw [← hu]
  obtain ⟨clock, next, rfl⟩ : ∃ clock next, s = { u with clock := clock, nextPass := next } :=
    ⟨s.clock, s.nextPass, by rw [hu]; rfl⟩
  clear hu h
  dsimp only
  have stamp : (u.climatePass low).uptime = u.uptime := by rw [u.climatePass_frame low]; rfl
  have gate : (u.climatePass low).gate = { u.passGate with progress := u.progressNow } :=
    (u.climatePass_gate low).trans u.gated_gate
  have shown := (u.climatePass_shown_gate low).trans u.gated_shown_gate
  have zoneMet : (u.climatePass low).shown.gate.zoneMet = zoneCondition u.demanded := congrArg GateShown.zoneMet shown
  have dewMet : (u.climatePass low).shown.gate.dewMet = (Machine.dewCheck u.demanded).isMet := congrArg GateShown.dewMet shown
  have temps (z : Fin 3) : (u.climatePass low).zones[z].rearmTemp = u.gated.zones[z].rearmTemp := by
    rw [u.climatePass_zone_gated low z]
  obtain ⟨rest, events, others⟩ := u.climatePass_rest low
  rw [u.gated_events] at events
  generalize u.climatePass low = t at stamp gate zoneMet dewMet temps events ⊢
  have conditions : t.shown.gate.zoneMet = true ∧ t.shown.gate.dewMet = true ↔ u.conditionsMet = true := by
    unfold State.conditionsMet
    rw [Bool.and_eq_true, zoneMet, dewMet]
  have unmet : ¬ u.conditionsMet = true → u.conditionsMet = false := Bool.not_eq_true _ ▸ id
  have second : u.gated.gate.state = u.passGate.state := by rw [u.gated_gate]
  simp only [conditions, gate, stamp]
  refine ⟨?_, u.passGate_rearmPending, u.passGate_soak_none, u.passGate_rearm, fun quiet => ⟨State.passGate_second quiet,
    fun state => State.passGate_opened quiet (State.movedGate_opened quiet state), fun state fails => ?_, fun state met none =>
      State.passGate_opened quiet ((State.movedGate_closed_met quiet state met).1 none), fun state met some => ?_,
    fun n state left => ⟨fun met ends => State.passGate_opened quiet ((State.movedGate_soaking_met quiet state left met).1 ends),
      fun met on => ?_, fun fails => ?_⟩⟩, fun z => ?_, u.progressNow_opened, fun closed => ?_, u.gateEvents, u.limitsSent, rest,
    events, u.gateEvents_rearm, fun quiet => ⟨?_, ?_, ?_⟩, u.limitsSent_rearm, u.limitsSent_kept, fun quiet now before => ?_, others⟩
  · rw [zoneMet, zoneCondition_iff, u.passGate_sinceRearm]
    rfl
  · obtain ⟨limited, -, marked⟩ := u.passGate_limit (State.movedGate_closed_unmet quiet state (unmet fails))
      (State.movedGate_mark quiet)
    exact ⟨limited, marked⟩
  · obtain ⟨soaks, left⟩ := (State.movedGate_closed_met quiet state met).2 some
    obtain ⟨limited, soak, marked⟩ := u.passGate_limit soaks (State.movedGate_mark quiet)
    exact ⟨limited, left ▸ soak, marked⟩
  · obtain ⟨soaks, less⟩ := (State.movedGate_soaking_met quiet state left met).2 on
    obtain ⟨limited, soak, marked⟩ := u.passGate_limit soaks (State.movedGate_mark quiet)
    exact ⟨limited, less ▸ soak, marked⟩
  · obtain ⟨closes, none⟩ := State.movedGate_soaking_unmet quiet state (unmet fails)
    obtain ⟨limited, soak, marked⟩ := u.passGate_limit closes (State.movedGate_mark quiet)
    rw [none, ite_self] at soak
    exact ⟨soak, limited, marked⟩
  · rw [temps, u.gated_rearmTemp, second]
    rfl
  · simp only [temps]
    exact u.progressNow_closed closed
  · intro state
    rw [State.gateEvents_quiet quiet]
    exact Gate.moveEvents_opened _ ((State.passBegins_state quiet).1.trans state)
  · intro state
    rw [State.gateEvents_quiet quiet]
    exact Gate.moveEvents_closed _ ((State.passBegins_state quiet).1.trans state)
  · intro n state left
    obtain ⟨same, soak⟩ := State.passBegins_state quiet
    rw [State.gateEvents_quiet quiet]
    exact Gate.moveEvents_soaking _ (same.trans state) (soak.trans left)
  · refine ⟨_, rfl, ?_⟩
    rw [zoneMet, dewMet]
    exact State.limitsSent_expired quiet now before

end Sys2Proof.Settled
end

section
/-! SUPPORT. The plate interlocks, the heater windows and the budget-short episodes of a pass (R31 to R33). Obligation O11. -/

namespace Sys2Proof.Machine

open Sys2Proof Host

/-! ### Interlocks and windows -/

theorem State.climatePass_interlock (s : State) (low : Bool) (z : Fin 3) : (s.climatePass low).budget.tripped[z] =
    interlockAfter (zoneCfg s.mem z) (s.plateOf z) s.budget.tripped[z] := by
  simp only [State.climatePass_tripped, State.beforeGrants_budget]
  exact ofFn_get _ z

theorem interlockAfter_none (cfg : ZoneCfg) (tripped : Bool) : interlockAfter cfg none tripped = false := rfl

section
variable (cfg : ZoneCfg) {c : Sensor} (tripped : Bool)

theorem interlockAfter_dead (dead : ¬ c.Live) : interlockAfter cfg (some c) tripped = true :=
  if_pos (by simp [c.usable_false_iff.2 dead])

theorem interlockAfter_live (live : c.Live) : interlockAfter cfg (some c) tripped =
    if cfg.plateLimit ≤ c.held then true else if c.held ≤ cfg.plateLimit - 80 then false else tripped :=
  if_neg (by simp [c.usable_iff.2 live])

end

theorem State.climatePass_heater (s : State) (low : Bool) (z : Fin 3) : (s.climatePass low).heaters[z] =
    windowOf (s.climatePass low).clock (s.climatePass low).zones[z].lastGrant := by
  have windows (m : State) (g : Grants) (r : Bool) : ((m.applyGrants g low).closePass r).heaters[z] =
      windowOf ((m.applyGrants g low).closePass r).clock ((m.applyGrants g low).closePass r).zones[z].lastGrant := by
    simp only [State.closePass_zones, State.applyGrants_zone]
    exact ofFn_get _ z
  rw [State.climatePass_eq]
  exact windows _ _ _

/-! ### Episodes (R33) -/

theorem State.climatePass_budget (s : State) (low : Bool) : (s.climatePass low).budget =
    (s.beforeGrants.budget.afterPass ((indices 3).any (s.passGrants low).isCut)).1 := by
  rw [State.climatePass_eq, State.closePass_budget, State.applyGrants_budget]
  unfold State.episodePass
  dsimp only
  split <;> rfl

theorem Grants.isCut_iff (g : Grants) (z : Fin 3) : g.isCut z = true ↔ g.grants[z] < g.requests[z] := decide_eq_true_iff

theorem State.passGrants_short (s : State) (low : Bool) : (indices 3).any (s.passGrants low).isCut = true ↔
    ∃ z : Fin 3, (s.climatePass low).shown.zones[z].grant < (s.climatePass low).shown.zones[z].request := by
  rw [any_indices]
  simp only [Grants.isCut_iff, State.climatePass_grant, State.climatePass_request]

theorem Grants.cutBits_eq (g : Grants) : g.cutBits = (if g.grants[(0 : Fin 3)] < g.requests[(0 : Fin 3)] then 1 else 0)
    + (if g.grants[(1 : Fin 3)] < g.requests[(1 : Fin 3)] then 1 else 0) * 2
    + (if g.grants[(2 : Fin 3)] < g.requests[(2 : Fin 3)] then 1 else 0) * 4 := by
  unfold Grants.cutBits
  simp only [Grants.isCut_iff, ite_mul, one_mul, zero_mul]

theorem sum_three (v : Vector Nat 3) : v.toList.sum = v[(0 : Fin 3)] + v[(1 : Fin 3)] + v[(2 : Fin 3)] := by
  have listed : v.toList = [v[(0 : Fin 3)], v[(1 : Fin 3)], v[(2 : Fin 3)]] := by
    obtain ⟨⟨l⟩, size⟩ := v
    match l, size with
    | [a, b, c], _ => rfl
  rw [listed]
  simp [Nat.add_assoc]

section
variable {b : Budget}

theorem Budget.afterPass_calm (quiet : b.inEpisode = false) : (b.afterPass false).1 = { b with shortRun := 0 } := by
  simp [Budget.afterPass, quiet]

theorem Budget.afterPass_short (quiet : b.inEpisode = false) : b.afterPass true =
    if 30 ≤ b.shortRun + 1 then ({ b with inEpisode := true, shortRun := b.shortRun + 1, clearRun := 0 }, true)
    else ({ b with shortRun := b.shortRun + 1 }, false) := by
  simp [Budget.afterPass, quiet]

theorem Budget.afterPass_again (running : b.inEpisode = true) : (b.afterPass true).1 = { b with clearRun := 0 } := by
  simp [Budget.afterPass, running]

theorem Budget.afterPass_clear (running : b.inEpisode = true) : (b.afterPass false).1 =
    if 30 ≤ b.clearRun + 1 then { b with inEpisode := false, clearRun := b.clearRun + 1, shortRun := 0 }
    else { b with clearRun := b.clearRun + 1 } := by
  simp only [Budget.afterPass, running, if_true, Bool.false_eq_true, if_false]
  exact apply_ite Prod.fst _ _ _

end

/-! ### The trips counted -/

/-- No event of the gate counts a trip. -/
theorem State.gated_noTrips (s : State) : (Instr.counterIncrement .plateTrips) ∉ s.gateEvents ++ s.limitsSent := by
  have opens (stamp n) : Instr.counterIncrement .plateTrips ∉ openEvents stamp n := by
    simp [openEvents, warmUpPosting, posting]
  have moves : Instr.counterIncrement .plateTrips ∉ s.gateEvents := by
    unfold State.gateEvents Gate.moveEvents
    repeat' split
    all_goals simp [opens, warmUpPosting, posting]
  have limits : Instr.counterIncrement .plateTrips ∉ s.limitsSent := by
    unfold State.limitsSent Gate.limitEvents
    repeat' split
    all_goals simp [warmUpPosting, posting]
  exact fun both => (List.mem_append.1 both).elim moves limits

theorem State.climatePass_trips (s : State) (low : Bool) : (s.climatePass low).transit.count (.counterIncrement .plateTrips) =
    s.transit.count (.counterIncrement .plateTrips) + s.tripCount := by
  obtain ⟨fans, only, events⟩ := s.climatePass_transit low
  have noFans : Instr.counterIncrement .plateTrips ∉ fans := fun mem => only _ mem
  have noEpisode : Instr.counterIncrement .plateTrips ∉ s.beforeGrants.episodeEvents (s.passGrants low) := by
    unfold State.episodeEvents
    split <;> simp [posting]
  have noLast : Instr.counterIncrement .plateTrips ∉
      [Instr.counterIncrement .passes, .gateReport s.gated.gate.state s.gate.rearmPending] := by simp
  rw [events, s.gated_events, List.append_assoc s.transit]
  simp only [List.count_append, List.count_eq_zero.2 s.gated_noTrips,
    List.count_eq_zero.2 noFans, List.count_eq_zero.2 noEpisode, List.count_eq_zero.2 noLast, List.count_replicate_self]
  omega

end Sys2Proof.Machine

namespace Sys2Proof.Settled

open Sys2Proof Sys2Proof.Machine Host

/-- Settles O11: the interlocks, windows and runs of the pass are those its own functions form from the state before it. -/
theorem interlocksAndWindows : Obligations.InterlocksAndWindows := by
  refine ⟨fun low s due z h => ?_, fun low s due h => ?_⟩
  · refine ⟨_, exec_climatePass low h, ?_⟩
    obtain ⟨u, hu⟩ : ∃ u : State, u = { s.reachTime due with nextPass := some (due + Config.passPeriod) } := ⟨_, rfl⟩
    rw [← hu]
    obtain ⟨clock, next, rfl⟩ : ∃ clock next, s = { u with clock := clock, nextPass := next } :=
      ⟨s.clock, s.nextPass, by rw [hu]; rfl⟩
    clear hu h
    have interlock := u.climatePass_interlock low z
    have heater := u.climatePass_heater low z
    generalize u.climatePass low = t at interlock heater
    simp only [interlock, heater]
    generalize t.zones[z].lastGrant = g
    refine ⟨fun none => ?_, fun p plate => ?_, fun off => if_pos off, fun on within => ?_, fun full => ?_⟩
    · rw [State.plateOf, none]
      rfl
    · have named : u.plateOf z = some u.sensors[p] := by
        rw [State.plateOf, plate]
        rfl
      rw [named]
      refine ⟨interlockAfter_dead _ _, fun live hot => ?_, fun live cool => ?_, fun live above below => ?_⟩
      · rw [interlockAfter_live _ _ live, if_pos hot]
      · rw [interlockAfter_live _ _ live, if_neg (by omega), if_pos cool]
      · rw [interlockAfter_live _ _ live, if_neg (by omega), if_neg (by omega)]
    · rw [windowOf, if_neg (by omega), if_pos within]
    · rw [windowOf, if_neg (by omega), if_neg (by omega)]
  · refine ⟨_, exec_climatePass low h, ?_⟩
    obtain ⟨u, hu⟩ : ∃ u : State, u = { s.reachTime due with nextPass := some (due + Config.passPeriod) } := ⟨_, rfl⟩
    rw [← hu]
    obtain ⟨clock, next, rfl⟩ : ∃ clock next, s = { u with clock := clock, nextPass := next } :=
      ⟨s.clock, s.nextPass, by rw [hu]; rfl⟩
    clear hu h
    have trips := u.climatePass_trips low
    have stamp : (u.climatePass low).uptime = u.uptime := by rw [u.climatePass_frame low]; rfl
    have counted : u.tripCount = (indices 3).countP fun z => (u.climatePass low).budget.tripped[z] && !u.budget.tripped[z] := by
      unfold State.tripCount
      rw [u.climatePass_tripped low]
    have budget := u.climatePass_budget low
    have short := u.passGrants_short low
    have began (begins : (u.beforeGrants.budget.afterPass ((indices 3).any (u.passGrants low).isCut)).2 = true) :
        .counterIncrement .budgetShortEpisodes ∈ (u.climatePass low).transit ∧
        posting u.uptime .budgetShort 0 false 0
          { w0 := natWord (u.passGrants low).available, w1 := natWord (u.passGrants low).requests.toList.sum
            w2 := natWord (u.passGrants low).grants.toList.sum
            w3 := natWord (u.passGrants low).cutBits } ∈ (u.climatePass low).transit := by
      obtain ⟨fans, -, events⟩ := u.climatePass_transit low
      have stands : u.beforeGrants.uptime = u.uptime := by rw [u.beforeGrants_frame]; rfl
      have told : u.beforeGrants.episodeEvents (u.passGrants low) = _ := if_pos begins
      rw [events, told, stands]
      simp
    have runs : u.beforeGrants.budget.inEpisode = u.budget.inEpisode ∧ u.beforeGrants.budget.shortRun = u.budget.shortRun ∧
        u.beforeGrants.budget.clearRun = u.budget.clearRun := by
      rw [u.beforeGrants_budget]
      exact ⟨rfl, rfl, rfl⟩
    obtain ⟨episode, shortRun, clearRun⟩ := runs
    rw [counted] at trips
    have calm : ¬ (∃ z : Fin 3, (u.climatePass low).shown.zones[z].grant < (u.climatePass low).shown.zones[z].request) →
        (indices 3).any (u.passGrants low).isCut = false := fun none => Bool.eq_false_iff.2 fun some => none (short.1 some)
    refine ⟨trips, ?_⟩
    simp only [← episode, ← shortRun, ← clearRun, budget]
    clear episode shortRun clearRun budget trips counted
    generalize u.beforeGrants.budget = b at began ⊢
    generalize (indices 3).any (u.passGrants low).isCut = isShort at short began calm ⊢
    refine ⟨fun quiet none => ?_, fun quiet some => ⟨?_, fun few => ?_, fun many => ?_⟩, fun running some => ?_,
      fun running none => ⟨?_, fun few => ?_, fun many => ?_⟩⟩
    · rw [calm none, Budget.afterPass_calm quiet]
      exact ⟨quiet, rfl, rfl⟩
    · rw [short.2 some, Budget.afterPass_short quiet]
      split <;> rfl
    · rw [short.2 some, Budget.afterPass_short quiet, if_neg (by omega)]
      exact ⟨quiet, rfl⟩
    · have whole : b.afterPass isShort =
          ({ b with inEpisode := true, shortRun := b.shortRun + 1, clearRun := 0 }, true) := by
        rw [short.2 some, Budget.afterPass_short quiet, if_pos many]
      obtain ⟨count, report⟩ := began (congrArg Prod.snd whole)
      rw [whole, stamp]
      refine ⟨rfl, rfl, count, ?_⟩
      rw [sum_three, sum_three, Grants.cutBits_eq] at report
      simpa only [State.climatePass_available, State.climatePass_request, State.climatePass_grant] using report
    · rw [short.2 some, Budget.afterPass_again running]
      exact ⟨running, rfl, rfl⟩
    · rw [calm none, Budget.afterPass_clear running]
      split <;> rfl
    · rw [calm none, Budget.afterPass_clear running, if_neg (by omega)]
      exact ⟨running, rfl⟩
    · rw [calm none, Budget.afterPass_clear running, if_pos many]
      exact ⟨rfl, rfl⟩

end Sys2Proof.Settled
end

section
/-! SUPPORT. Tachometer updates, spin-ups and the starts and points of sweeps (R37, R38, R41 to R43). Obligations O15, O16, O17
and O20. -/

namespace Sys2Proof.Machine

open Sys2Proof Host

variable {s t u : State} {f : Fin 2}

/-! ### An update delivered to the fan (R37, R41, R43) -/

theorem exec_tachometerUpdate {due : Nat} (set : s.fans[f].nextUpdate = some due) :
    let rpm := (s.reachTime due).measureRpm f
    exec (.tachometerUpdate f) s = .next (((s.atUpdate f due rpm).showRpm f rpm).deliverRpm f rpm) := by
  show execTachometerUpdate f s = _
  unfold execTachometerUpdate
  rw [set]
  rfl

/-- What the delivery of an update keeps: the clock, the other fan, and the fan's RPM and next update. -/
structure Delivered (f : Fin 2) (s t : State) : Prop where
  clock : t.clock = s.clock
  rpm : t.fans[f].rpm = s.fans[f].rpm
  nextUpdate : t.fans[f].nextUpdate = s.fans[f].nextUpdate
  others : ∀ g : Fin 2, g ≠ f → t.fans[g] = s.fans[g]

theorem Delivered.refl (s : State) : Delivered f s s := ⟨rfl, rfl, rfl, fun _ _ => rfl⟩

theorem Delivered.of_fan {x : Fan} (clock : t.clock = s.clock) (fans : t.fans = put s.fans f x) (rpm : x.rpm = s.fans[f].rpm)
    (next : x.nextUpdate = s.fans[f].nextUpdate) : Delivered f s t := by
  have here : t.fans[f] = x := by
    simp only [fans]
    exact put_same _ _ _
  refine ⟨clock, by rw [here, rpm], by rw [here, next], fun g other => ?_⟩
  simp only [fans]
  exact put_other _ other.symm _

theorem Delivered.of_fans (clock : t.clock = s.clock) (fans : t.fans = s.fans) : Delivered f s t :=
  ⟨clock, by rw [fans], by rw [fans], fun g _ => by rw [fans]⟩

theorem State.endSweep_delivered (s : State) (w : Sweep) (result : SweepResult) (worst : Nat) (dev : Int) (spunOut : Bool) :
    Delivered w.fan s (s.endSweep w result worst dev spunOut) := by
  rw [State.endSweep_eq]
  exact .of_fan rfl rfl rfl rfl

theorem State.completeSweep_delivered (s : State) (w : Sweep) : Delivered w.fan s (s.completeSweep w) := by
  unfold State.completeSweep
  split
  · exact s.endSweep_delivered ..
  · split
    · exact s.endSweep_delivered ..
    · obtain ⟨clock, rpm, next, others⟩ := State.endSweep_delivered
        { s with mem := s.mem.writeBytes (referenceAddr w.fan 0) (referenceBytes w.measured) } w .normal 0 0 false
      exact ⟨clock, rpm, next, others⟩

theorem State.takeMeasurement_delivered (s : State) (w : Sweep) (taken : List Nat) (rpm : Nat) :
    Delivered w.fan s (s.takeMeasurement w taken rpm) := by
  unfold State.takeMeasurement
  dsimp only
  split
  · exact .of_fans rfl rfl
  · split
    · exact .of_fans rfl rfl
    · exact s.completeSweep_delivered { w with measured := put w.measured w.point ((taken ++ [rpm]).sum / 4) }

/-! ### Spin-ups that succeed (R37) -/

/-- The fan's record at the end of its spin-up, in RUNNING. -/
def Fan.spunUp (x : Fan) : Fan :=
  { x with lateTries := 0, spinLimit := none, sweepPending := false, state := .running, restCount := 0 }

theorem State.pendingSweep_none (free : s.fans[f].sweepPending = false) : s.pendingSweep f = none := by
  exact if_neg (by rw [free]; exact Bool.false_ne_true)

theorem State.pendingSweep_some {w : Sweep} (pending : s.fans[f].sweepPending = true) (sweep : s.sweep = some w) (fan : w.fan = f) :
    s.pendingSweep f = some w := by
  unfold State.pendingSweep
  rw [if_pos pending, sweep]
  simp [fan]

theorem State.spinUpSucceeds_none (none : s.pendingSweep f = none) :
    s.spinUpSucceeds f = (s.setFan f s.fans[f].spunUp).publishFan f := by
  unfold State.spinUpSucceeds
  rw [none]
  rfl

theorem State.spinUpSucceeds_some {w : Sweep} (some : s.pendingSweep f = some w) :
    s.spinUpSucceeds f = (s.setFan f { s.fans[f] with lateTries := 0 }).enterSweeping w := by
  unfold State.spinUpSucceeds
  rw [some]

theorem State.pendingSweep_fan {w : Sweep} (some : s.pendingSweep f = some w) : w.fan = f := by
  unfold State.pendingSweep at some
  split at some
  · have filtered := (Option.filter_eq_some_iff.1 some).2
    simpa using filtered
  · cases some

theorem State.enterSweeping_fans (s : State) (x : Fan) (w : Sweep) : ((s.setFan w.fan x).enterSweeping w).fans =
    put s.fans w.fan { x with state := .sweeping, sweepPending := false, spinLimit := none } := by
  have here : (s.setFan w.fan x).fans[w.fan] = x := put_same _ _ _
  have whole : ((s.setFan w.fan x).enterSweeping w).fans = put (put s.fans w.fan x) w.fan
      { (s.setFan w.fan x).fans[w.fan] with state := .sweeping, sweepPending := false, spinLimit := none } := rfl
  rw [whole, here, put_put]

theorem State.deliverRpm_delivered (s : State) (f : Fin 2) (rpm : Nat) : Delivered f s (s.deliverRpm f rpm) := by
  unfold State.deliverRpm
  split
  · split
    · cases pending : s.pendingSweep f with
      | none =>
        rw [State.spinUpSucceeds_none pending]
        exact .of_fan rfl rfl rfl rfl
      | some w =>
        obtain rfl := State.pendingSweep_fan pending
        rw [State.spinUpSucceeds_some pending]
        exact .of_fan rfl (State.enterSweeping_fans s _ w) rfl rfl
    · exact .refl s
  · split
    · split
      · split
        next fan =>
          subst fan
          exact s.takeMeasurement_delivered ..
        · exact .refl s
      · exact .refl s
    · exact .refl s
  · exact .refl s

/-! ### The RPM of an update (R41) -/

theorem State.measureRpm_le (s : State) (f : Fin 2) : s.measureRpm f ≤ 65535 := by
  unfold State.measureRpm
  repeat' split
  · exact Nat.zero_le _
  · exact min_le_right _ _
  · exact min_le_right _ _
  · exact Nat.zero_le _

theorem State.measureRpm_few (few : s.fans[f].lastPulse = none ∨ s.fans[f].pulseBefore = none) : s.measureRpm f = 0 := by
  unfold State.measureRpm
  rcases few with none | none
  · rw [none]
  · rw [none]
    cases s.fans[f].lastPulse <;> rfl

theorem State.measureRpm_pulses {a b : Nat} (last : s.fans[f].lastPulse = some a) (before : s.fans[f].pulseBefore = some b) :
    s.measureRpm f = if 500000 < s.clock - a then 0
      else if a = b then min (Config.rpmOfEqualStamps s.freeCount) 65535 else min (30000000 / (a - b)) 65535 := by
  unfold State.measureRpm
  rw [last, before]
  rfl

/-! ### Spin-ups (R37, R38) -/

theorem State.deliverRpm_spinningUp (s : State) {rpm : Nat} (up : s.fans[f].state = .spinningUp) :
    s.deliverRpm f rpm = if spinUpRpm s.mem f ≤ rpm then s.spinUpSucceeds f else s := by
  unfold State.deliverRpm
  rw [up]

theorem State.updated_fan (s : State) (f : Fin 2) (due rpm : Nat) : ((s.atUpdate f due rpm).showRpm f rpm).fans[f] =
    { s.fans[f] with rpm := rpm, nextUpdate := some (due + 250000) } := put_same _ _ _

/-- A late attempt counted (R38). -/
def State.lateAttempt (s : State) (f : Fin 2) (due : Nat) : State :=
  ((s.reachTime due).setFan f { s.fans[f] with lateTries := s.fans[f].lateTries + 1, spinLimit := none }).count (.spinUpLate f)

/-- The first two late attempts, told and begun afresh (R38). -/
def State.tryAgain (s : State) (f : Fin 2) (tries rpm : Nat) : State :=
  let m := s.report .fan 1 false f.val { w0 := natWord tries, w1 := natWord rpm }
  m.setFan f { m.fans[f] with spinLimit := some (m.inMs (spinUpLimit m.mem f * 1000)) }

theorem exec_spinUpLimitExpiry {due : Nat} (up : s.fans[f].state = .spinningUp) (set : s.fans[f].spinLimit = some due) :
    exec (.spinUpLimitExpiry f) s =
      if s.fans[f].lateTries + 1 < 3 then .next ((s.lateAttempt f due).tryAgain f (s.fans[f].lateTries + 1) s.fans[f].rpm)
      else .next ((s.lateAttempt f due).spinUpFails f) := by
  have unfolded : exec (.spinUpLimitExpiry f) s = execSpinUpLimitExpiry f s := rfl
  rw [unfolded]
  unfold execSpinUpLimitExpiry
  dsimp only
  split
  next at_ _ limit =>
    cases set.symm.trans limit
    rfl
  next other => exact (other due up set).elim

theorem State.lateAttempt_fan (s : State) (f : Fin 2) (due : Nat) : (s.lateAttempt f due).fans[f] =
    { s.fans[f] with lateTries := s.fans[f].lateTries + 1, spinLimit := none } := put_same _ _ _

theorem State.tryAgain_eq (s : State) (f : Fin 2) (due tries rpm : Nat) : (s.lateAttempt f due).tryAgain f tries rpm = { s with
    clock := max s.clock due
    fans := put s.fans f { s.fans[f] with
      lateTries := s.fans[f].lateTries + 1, spinLimit := some (max s.clock due + spinUpLimit s.mem f * 1000000) }
    transit := s.transit ++ [.counterIncrement (.spinUpLate f),
      posting (s.reachTime due).uptime .fan 1 false (BitVec.ofNat 8 f.val) { w0 := natWord tries, w1 := natWord rpm }] } := by
  have whole : (s.lateAttempt f due).tryAgain f tries rpm = { s with
      clock := max s.clock due
      fans := put (put s.fans f { s.fans[f] with lateTries := s.fans[f].lateTries + 1, spinLimit := none }) f
        { (s.lateAttempt f due).fans[f] with spinLimit := some (max s.clock due + spinUpLimit s.mem f * 1000 * 1000) }
      transit := (s.transit ++ [.counterIncrement (.spinUpLate f)]) ++
        [posting (s.reachTime due).uptime .fan 1 false (BitVec.ofNat 8 f.val) { w0 := natWord tries, w1 := natWord rpm }] } := rfl
  rw [whole, State.lateAttempt_fan, put_put, Nat.mul_assoc, List.append_assoc]
  rfl

/-- The state once a third late attempt has been counted and, but for a fan that had failed before, told (R38, R47). -/
def State.failing (s : State) (f : Fin 2) (again : Bool) : State :=
  if again then s else (s.report .fan 3 true f.val { w0 := natWord s.fans[f].rpm }).count (.fanFailures f)

theorem State.spinUpFails_none (none : s.pendingSweep f = none) : s.spinUpFails f =
    ((s.failing f false).setFan f { s.fans[f] with state := .failed, sweepPending := false }).publishFan f := by
  unfold State.spinUpFails
  rw [none]
  rfl

theorem State.spinUpFails_some {w : Sweep} (some : s.pendingSweep f = some w) :
    s.spinUpFails f = (s.failing f w.wasFailed).endSweep w .stalled 0 0 true := by
  unfold State.spinUpFails
  rw [some]
  rfl

/-- The state once a third late attempt has been told, field by field (R38, R47). -/
theorem State.failing_eq (s : State) (f : Fin 2) (due : Nat) (again : Bool) : (s.lateAttempt f due).failing f again = { s with
    clock := max s.clock due
    fans := put s.fans f { s.fans[f] with lateTries := s.fans[f].lateTries + 1, spinLimit := none }
    transit := s.transit ++ [.counterIncrement (.spinUpLate f)] ++ (if again = true then [] else
      [posting (s.reachTime due).uptime .fan 3 true (BitVec.ofNat 8 f.val) { w0 := natWord s.fans[f].rpm },
        .counterIncrement (.fanFailures f)]) } := by
  unfold State.failing
  rw [State.lateAttempt_fan]
  cases again
  · rw [if_neg Bool.false_ne_true, if_neg Bool.false_ne_true]
    exact congrArg (fun l => ({ s with
      clock := max s.clock due
      fans := put s.fans f { s.fans[f] with lateTries := s.fans[f].lateTries + 1, spinLimit := none }
      transit := l } : State)) (List.append_assoc ..)
  · rw [if_pos rfl, if_pos rfl, List.append_nil]
    rfl

/-- The end of a sweep stops the spin-up limit, whatever it stood at. -/
theorem SweepEnded.of_spinLimit {w : Sweep} {r : SweepRecord} {st : FanState} {limit : Option Nat}
    (same : u = { s with fans := put s.fans w.fan { s.fans[w.fan] with spinLimit := limit } }) (h : SweepEnded s t w r st) :
    SweepEnded u t w r st := by
  obtain ⟨mode, starter, fan, others, sent, frame⟩ := h
  have here : u.fans[w.fan] = { s.fans[w.fan] with spinLimit := limit } := by
    rw [same]
    exact put_same _ _ _
  refine ⟨mode, starter, ?_, fun g other => (others g other).trans ?_, by rw [same]; exact sent, by rw [same]; exact frame⟩
  · rw [here]
    exact fan
  · rw [same]
    exact (put_other _ other.symm _).symm

/-! ### Sweep points (R43) -/

theorem exec_sweepSettleEnd {w : Sweep} {due : Nat} (sweep : s.sweep = some w) (settling : w.phase = .settling due) :
    exec .sweepSettleEnd s =
      .next (((s.reachTime due).setSweep (some { w with phase := .measuring [] })).publishFan w.fan) := by
  have unfolded : exec .sweepSettleEnd s = execSweepSettleEnd s := rfl
  rw [unfolded]
  unfold execSweepSettleEnd
  simp only [sweep, settling]

theorem State.deliverRpm_measuring (s : State) {w : Sweep} {taken : List Nat} {rpm : Nat} (sweep : s.sweep = some w)
    (measuring : w.phase = .measuring taken) (sweeping : s.fans[w.fan].state = .sweeping) :
    s.deliverRpm w.fan rpm = s.takeMeasurement w taken rpm := by
  unfold State.deliverRpm
  simp only [sweeping, sweep, measuring, if_true]

theorem State.takeMeasurement_few (s : State) (w : Sweep) {taken : List Nat} (rpm : Nat) (few : taken.length < 3) :
    s.takeMeasurement w taken rpm = (s.setSweep (some { w with phase := .measuring (taken ++ [rpm]) })).publishFan w.fan := by
  have less : (taken ++ [rpm]).length < 4 := by
    rw [List.length_append]
    simp only [List.length_singleton]
    omega
  exact if_pos less

theorem State.takeMeasurement_next (s : State) (w : Sweep) {taken : List Nat} (rpm : Nat) (three : taken.length = 3)
    (more : w.point.val + 1 < 4) : s.takeMeasurement w taken rpm =
    (s.setSweep (some { w with
      point := ⟨w.point.val + 1, more⟩
      measured := put w.measured w.point ((taken.sum + rpm) / 4)
      phase := .settling (s.clock + 3000000) })).publishFan w.fan := by
  have all : ¬ (taken ++ [rpm]).length < 4 := by
    rw [List.length_append, three]
    exact lt_irrefl 4
  have sum : (taken ++ [rpm]).sum = taken.sum + rpm := by simp
  unfold State.takeMeasurement
  dsimp only
  rw [if_neg all, dif_pos more, sum]
  rfl

theorem State.completeSweep_sweep (s : State) (w : Sweep) : (s.completeSweep w).sweep = none := by
  unfold State.completeSweep
  split
  · rw [State.endSweep_eq]
    rfl
  · split
    all_goals
      rw [State.endSweep_eq]
      rfl

/-! ### Sweep starts (R42) -/

theorem State.tooHot_iff (s : State) (f : Fin 2) : s.tooHot f = true ↔
    s.sensors[(0 : Fin 9)].Live ∧ coolStart s.mem f + 160 < s.sensors[(0 : Fin 9)].held := by
  unfold State.tooHot State.air
  rw [Bool.and_eq_true, Sensor.usable_iff, decide_eq_true_iff]

/-- The refusals of a sweep start, in R42's order. -/
theorem State.sweepRefusal_cases (s : State) (f : Fin 2) :
    let busy : Prop := s.sweep ≠ none ∨ ∃ k, s.store = .reloading k
    let wrong : Prop := (f = 1 ∧ s.gate.state ≠ .opened) ∨
      (s.sensors[(0 : Fin 9)].Live ∧ coolStart s.mem f + 160 < s.sensors[(0 : Fin 9)].held)
    (busy → s.sweepRefusal f = some .busy) ∧ (¬ busy → wrong → s.sweepRefusal f = some .wrongState) ∧
    (¬ busy → ¬ wrong → s.sweepRefusal f = none) := by
  intro busy wrong
  have reloads : (match s.store with | .reloading _ => true | _ => false) = true ↔ ∃ k, s.store = .reloading k := by
    cases s.store <;> simp
  have cases : s.sweepRefusal f = if s.sweep.isSome then some .busy
      else if (match s.store with | .reloading _ => true | _ => false) then some .busy
      else if f = 1 ∧ s.gate.state ≠ .opened then some .wrongState
      else if s.tooHot f then some .wrongState else none := by
    unfold State.sweepRefusal
    rfl
  simp only [reloads, s.tooHot_iff f, Option.isSome_iff_ne_none] at cases
  rw [cases]
  refine ⟨fun is => ?_, fun not is => ?_, fun not fine => ?_⟩
  · by_cases runs : s.sweep ≠ none
    · exact if_pos runs
    · exact (if_neg runs).trans (if_pos (is.resolve_left runs))
  · obtain ⟨runs, reads⟩ := not_or.1 not
    rw [if_neg runs, if_neg reads]
    by_cases shut : f = 1 ∧ s.gate.state ≠ .opened
    · exact if_pos shut
    · exact (if_neg shut).trans (if_pos (is.resolve_left shut))
  · obtain ⟨runs, reads⟩ := not_or.1 not
    obtain ⟨shut, hot⟩ := not_or.1 fine
    rw [if_neg runs, if_neg reads, if_neg shut, if_neg hot]

/-- A sweep accepted, by the state of its fan (R42). -/
def State.acceptSweep (s : State) (f : Fin 2) (w : Sweep) : State :=
  match s.fans[f].state with
  | .running | .sweeping => s.enterSweeping w
  | .spinningUp => ((s.setFan f { s.fans[f] with sweepPending := true }).setSweep (some w)).publishFan f
  | .resting | .failed => ((s.setFan f { s.fans[f] with sweepPending := true }).setSweep (some w)).wakeFan f

/-- The sweep an acceptance sets up (R42). -/
def State.newSweep (s : State) (f : Fin 2) (mode : SweepMode) (starter : Starter) (slot : Option (Fin 8)) : Sweep :=
  { fan := f, mode := mode, starter := starter, slot := slot, wasFailed := decide (s.fans[f].state = .failed), point := 0
    phase := .spinningUp, measured := Vector.replicate 4 0 }

theorem State.startSweep_accepted {mode : SweepMode} {starter : Starter} {slot : Option (Fin 8)} (free : s.sweepRefusal f = none) :
    s.startSweep f mode starter slot = ((s.count .sweepsRun).acceptSweep f (s.newSweep f mode starter slot), none) := by
  have same : (s.count .sweepsRun).fans[f] = s.fans[f] := rfl
  unfold State.startSweep State.acceptSweep State.newSweep
  rw [free, same]
  dsimp only
  split <;> simp only [*]

theorem State.startSweep_refused {mode : SweepMode} {starter : Starter} {slot : Option (Fin 8)} {code : AnswerCode}
    (refused : s.sweepRefusal f = some code) : s.startSweep f mode starter slot = (s, some code) := by
  unfold State.startSweep
  rw [refused]

/-- The states of a fan, as a sweep start tells them apart (R42). -/
theorem FanState.awake_cases (x : FanState) :
    (x = .running ∨ x = .sweeping → ¬ (x = .spinningUp ∨ x = .resting ∨ x = .failed)) ∧
    (x = .spinningUp → ¬ (x = .resting ∨ x = .failed)) ∧
    (¬ (x = .running ∨ x = .sweeping) → x ≠ .spinningUp → x = .resting ∨ x = .failed) := by
  cases x <;> simp

section
variable {w : Sweep}

theorem State.acceptSweep_running (running : s.fans[f].state = .running ∨ s.fans[f].state = .sweeping) :
    s.acceptSweep f w = s.enterSweeping w := by
  unfold State.acceptSweep
  rcases running with state | state <;> rw [state]

theorem State.acceptSweep_spinningUp (up : s.fans[f].state = .spinningUp) : s.acceptSweep f w =
    ((s.setFan f { s.fans[f] with sweepPending := true }).setSweep (some w)).publishFan f := by
  unfold State.acceptSweep
  rw [up]

theorem State.acceptSweep_waking (still : s.fans[f].state = .resting ∨ s.fans[f].state = .failed) : s.acceptSweep f w =
    ((s.setFan f { s.fans[f] with sweepPending := true }).setSweep (some w)).wakeFan f := by
  unfold State.acceptSweep
  rcases still with state | state <;> rw [state]

/-- A fan woken for its sweep (R36, R42). -/
theorem State.wakeFan_pending (s : State) (f : Fin 2) (w : Sweep) (x : Fan) : ((s.setFan f x).setSweep (some w)).wakeFan f =
    ({ s with
      fans := put s.fans f { x with
        state := .spinningUp, lateTries := 0, spinLimit := some (s.clock + spinUpLimit s.mem f * 1000000) }
      sweep := some w, transit := s.transit ++ [.counterIncrement (.spinUps f)] } : State).publishFan f := by
  have here : ((s.setFan f x).setSweep (some w)).fans[f] = x := put_same _ _ _
  have limit : ((s.setFan f x).setSweep (some w)).inMs (spinUpLimit s.mem f * 1000) = s.clock + spinUpLimit s.mem f * 1000000 := by
    unfold State.inMs
    rw [Nat.mul_assoc]
    rfl
  have whole : ((s.setFan f x).setSweep (some w)).wakeFan f = ({ s with
      fans := put (put s.fans f x) f { ((s.setFan f x).setSweep (some w)).fans[f] with
        state := .spinningUp, lateTries := 0
        spinLimit := some (((s.setFan f x).setSweep (some w)).inMs (spinUpLimit s.mem f * 1000)) }
      sweep := some w, transit := s.transit ++ [.counterIncrement (.spinUps f)] } : State).publishFan f := rfl
  rw [whole, here, limit, put_put]

end

theorem State.startSweep_requested (s : State) (f : Fin 2) (mode : SweepMode) (starter : Starter) (slot : Option (Fin 8)) :
    SweepRequested s (s.startSweep f mode starter slot).1 f mode starter slot (s.startSweep f mode starter slot).2 := by
  obtain ⟨busy, wrong, free⟩ := s.sweepRefusal_cases f
  refine ⟨fun is => ?_, fun not is => ?_, fun not fine => ?_⟩
  · rw [State.startSweep_refused (busy is)]
    exact ⟨rfl, rfl⟩
  · rw [State.startSweep_refused (wrong not is)]
    exact ⟨rfl, rfl⟩
  · rw [State.startSweep_accepted (free not fine)]
    refine ⟨rfl, ?_⟩
    have same : (s.count .sweepsRun).fans[f] = s.fans[f] := rfl
    have failed : (s.newSweep f mode starter slot).wasFailed = true ↔ s.fans[f].state = .failed := decide_eq_true_iff
    have zero (k : Fin 4) : (Vector.replicate 4 0)[k] = 0 := by simp
    have awake := s.fans[f].state.awake_cases
    dsimp only
    by_cases running : s.fans[f].state = .running ∨ s.fans[f].state = .sweeping
    · rw [State.acceptSweep_running (same ▸ running)]
      exact ⟨⟨_, rfl, rfl, rfl, rfl, rfl, failed, rfl, zero, fun _ => rfl, fun other => (awake.1 running other).elim⟩,
        fun _ => ⟨put_same _ _ _, rfl⟩, fun other => (awake.1 running (.inl other)).elim,
        fun other => (awake.1 running (.inr other)).elim, fun g other => put_other _ other.symm _, rfl⟩
    · by_cases up : s.fans[f].state = .spinningUp
      · rw [State.acceptSweep_spinningUp (same ▸ up)]
        exact ⟨⟨_, rfl, rfl, rfl, rfl, rfl, failed, rfl, zero, fun is => absurd (.inl is) running, fun _ => rfl⟩,
          fun is => absurd (.inl is) running, fun _ => ⟨put_same _ _ _, rfl⟩, fun other =>
            (awake.2.1 up other).elim, fun g other => put_other _ other.symm _, rfl⟩
      · have still := awake.2.2 running up
        rw [State.acceptSweep_waking (same ▸ still), State.wakeFan_pending, same]
        refine ⟨⟨_, rfl, rfl, rfl, rfl, rfl, failed, rfl, zero, fun is => absurd (.inl is) running, fun _ => rfl⟩,
          fun is => absurd (.inl is) running, fun is => absurd is up, fun _ => ⟨put_same _ _ _, ?_⟩,
          fun g other => put_other _ other.symm _, rfl⟩
        exact List.append_assoc ..

theorem exec_fanSweep {fan mode : Word} (slot : Fin 8) (named : fan.toNat < 2) (flag : mode.toNat < 2) (s : State) :
    let r := (s.taking (.fanSweep slot fan mode)).startSweep ⟨fan.toNat, named⟩ (if mode = 0#16 then .test else .record) .desk
      (some slot)
    exec (.fanSweep slot fan mode) s = .next { r.1 with transit := r.1.transit ++
      (match r.2 with | some code => [.deskAnswer slot code {}] | none => []) } := by
  intro r
  have unfolded : exec (.fanSweep slot fan mode) s = execFanSweep slot fan mode s := rfl
  rw [unfolded]
  unfold execFanSweep
  dsimp only
  rw [dif_pos ⟨named, flag⟩]
  change (match r.2 with | some code => Outcome.next (r.1.answer slot code) | none => Outcome.next r.1) = _
  cases r.2 with
  | none => exact congrArg Outcome.next (congrArg (fun l => ({ r.1 with transit := l } : State)) (List.append_nil _).symm)
  | some code => rfl

end Sys2Proof.Machine

namespace Sys2Proof.Settled

open Sys2Proof Sys2Proof.Machine Host

/-- Settles O15: the update's RPM is formed before it is delivered, and no delivery changes it. -/
theorem tachometerRpm : Obligations.TachometerRpm := by
  intro f s
  refine ⟨fun us => ⟨_, rfl, put_same _ _ _, fun g other => put_other _ other.symm _, rfl⟩, fun due set => ?_⟩
  have run := exec_tachometerUpdate set
  dsimp only at run
  generalize rpmIs : (s.reachTime due).measureRpm f = rpm at run
  refine ⟨_, run, ?_⟩
  obtain ⟨clock, rpmKept, next, others⟩ := ((s.atUpdate f due rpm).showRpm f rpm).deliverRpm_delivered f rpm
  have here : ((s.atUpdate f due rpm).showRpm f rpm).fans[f] = { s.fans[f] with rpm := rpm, nextUpdate := some (due + 250000) } :=
    put_same _ _ _
  have still : s.fans[f].state ≠ .spinningUp → s.fans[f].state ≠ .sweeping →
      ((s.atUpdate f due rpm).showRpm f rpm).deliverRpm f rpm = (s.atUpdate f due rpm).showRpm f rpm := by
    intro notUp notSweep
    have state : ((s.atUpdate f due rpm).showRpm f rpm).fans[f].state = s.fans[f].state := by rw [here]
    unfold State.deliverRpm
    rw [state]
    split
    next up => exact absurd up notUp
    next sweep => exact absurd sweep notSweep
    · rfl
  rw [here] at rpmKept next
  change _ = rpm at rpmKept
  have pulses : ((s.atUpdate f due rpm).showRpm f rpm).clock = max s.clock due := rfl
  rw [pulses] at clock
  generalize tIs : ((s.atUpdate f due rpm).showRpm f rpm).deliverRpm f rpm = t at clock rpmKept next others still
  refine ⟨next, fun few => ?_, fun a b last before => ⟨fun old => ?_, fun fresh apart => ?_⟩, ?_, fun g other => ?_, clock,
    fun notUp notSweep => ?_⟩
  · rw [rpmKept, ← rpmIs, State.measureRpm_few (s := s.reachTime due) few]
  · rw [rpmKept, ← rpmIs, State.measureRpm_pulses (s := s.reachTime due) last before]
    rw [clock] at old
    exact if_pos old
  · rw [rpmKept, ← rpmIs, State.measureRpm_pulses (s := s.reachTime due) last before, if_neg, if_neg (by omega)]
    rw [clock] at fresh
    exact not_lt.2 fresh
  · rw [rpmKept, ← rpmIs]
    exact State.measureRpm_le _ f
  · exact (others g other).trans (put_other _ other.symm _)
  · rw [still notUp notSweep]
    exact ⟨rfl, by rw [here]⟩

/-- Settles O17: an update of the sweeping fan is one measurement of the point. -/
theorem sweepPoint : Obligations.SweepPoint := by
  refine fun s w sweep => ⟨fun due settling => ⟨_, exec_sweepSettleEnd sweep settling, rfl, rfl⟩,
    fun due taken measuring sweeping set => ?_⟩
  have run := exec_tachometerUpdate set
  dsimp only at run
  generalize (s.reachTime due).measureRpm w.fan = rpm at run
  refine ⟨_, run, ?_⟩
  have here := s.updated_fan w.fan due rpm
  have rpmKept : (((s.atUpdate w.fan due rpm).showRpm w.fan rpm).deliverRpm w.fan rpm).fans[w.fan].rpm = rpm := by
    rw [(State.deliverRpm_delivered _ w.fan rpm).rpm, here]
  have delivered := ((s.atUpdate w.fan due rpm).showRpm w.fan rpm).deliverRpm_measuring (rpm := rpm) sweep measuring
    (by rw [here]; exact sweeping)
  rw [rpmKept, delivered]
  refine ⟨fun few => ?_, fun more three => ?_, fun last three => ?_, fun unfinished => ?_⟩
  · rw [State.takeMeasurement_few _ _ _ few]
    rfl
  · rw [State.takeMeasurement_next _ _ _ three more]
    rfl
  · have point : w.point = 3 := Fin.ext last
    rw [State.takeMeasurement_last _ _ three point]
    exact State.completeSweep_sweep _ _
  · rcases unfinished with few | ⟨before, three⟩
    · rw [State.takeMeasurement_few _ _ _ few]
      rfl
    · rw [State.takeMeasurement_next _ _ _ three (by omega)]
      rfl

/-- Settles O20: the desk's owner hands the start to the engine and answers only a refusal. -/
theorem fanSweepStart : Obligations.FanSweepStart :=
  fun slot _ _ s named flag => ⟨_, exec_fanSweep slot named flag s, _, _, State.startSweep_requested _ _ _ _ _, rfl⟩

/-- Settles O16: an update of a fan in its spin-up is at or above its RPM or not, and an attempt that comes late is the third or
not. -/
theorem spinUps : Obligations.SpinUps := by
  refine ⟨fun f s due set up => ?_, fun f s due up set => ?_⟩
  · have run := exec_tachometerUpdate set
    dsimp only at run
    generalize (s.reachTime due).measureRpm f = rpm at run
    refine ⟨_, run, ?_⟩
    have here := s.updated_fan f due rpm
    have others : ∀ g : Fin 2, g ≠ f → ((s.atUpdate f due rpm).showRpm f rpm).fans[g] = s.fans[g] :=
      fun g other => put_other _ other.symm _
    have frame : (s.atUpdate f due rpm).showRpm f rpm = { s with
        clock := max s.clock due, freeCount := s.freeCount + 1, fans := ((s.atUpdate f due rpm).showRpm f rpm).fans
        shown := { s.shown with fans := ((s.atUpdate f due rpm).showRpm f rpm).shown.fans } } := rfl
    have delivered := ((s.atUpdate f due rpm).showRpm f rpm).deliverRpm_delivered f rpm
    generalize (s.atUpdate f due rpm).showRpm f rpm = m at here others frame delivered
    have rpmKept : (m.deliverRpm f rpm).fans[f].rpm = rpm := by rw [delivered.rpm, here]
    have mem : m.mem = s.mem := by rw [frame]
    have sweep : m.sweep = s.sweep := by rw [frame]
    have step := m.deliverRpm_spinningUp (f := f) (rpm := rpm) (by rw [here]; exact up)
    dsimp only
    rw [rpmKept]
    refine ⟨fun low => ?_, fun high => ⟨fun free => ?_, fun w pending engine fan => ?_⟩,
      fun g other => (delivered.others g other).trans (others g other), ?_⟩
    · rw [step, mem, if_neg (not_le.2 low)]
      exact ⟨here, sweep⟩
    · have none : m.pendingSweep f = none := State.pendingSweep_none (by rw [here]; exact free)
      rw [step, mem, if_pos high, State.spinUpSucceeds_none none, here]
      exact ⟨sweep, put_same _ _ _⟩
    · have some : m.pendingSweep f = some w := State.pendingSweep_some (by rw [here]; exact pending) (sweep.trans engine) fan
      subst fan
      rw [step, mem, if_pos high, State.spinUpSucceeds_some some, here]
      refine ⟨?_, rfl⟩
      simp only [State.enterSweeping_fans]
      exact put_same _ _ _
    · rw [step]
      split
      · cases pending : m.pendingSweep f with
        | none =>
          rw [State.spinUpSucceeds_none pending, frame]
          rfl
        | some w =>
          rw [State.spinUpSucceeds_some pending, frame]
          rfl
      · rw [frame]
  · have run := exec_spinUpLimitExpiry up set
    by_cases early : s.fans[f].lateTries + 1 < 3
    · rw [if_pos early, State.tryAgain_eq] at run
      exact ⟨_, run, rfl, fun _ => rfl, fun late => absurd early (not_lt.2 late)⟩
    · rw [if_neg early] at run
      refine ⟨_, run, ?_⟩
      have here := s.lateAttempt_fan f due
      have engine : (s.lateAttempt f due).sweep = s.sweep := rfl
      have failing (again : Bool) := s.failing_eq f due again
      generalize s.lateAttempt f due = m at here engine failing ⊢
      have forSweep {w : Sweep} (pending : s.fans[f].sweepPending = true) (sweep : s.sweep = some w) (fan : w.fan = f) :
          m.pendingSweep f = some w := State.pendingSweep_some (by rw [here]; exact pending) (engine.trans sweep) fan
      cases pending : m.pendingSweep f with
      | none =>
        have whole := State.spinUpFails_none pending
        rw [failing, here] at whole
        rw [whole]
        refine ⟨rfl, fun less => absurd less early, fun _ => ⟨fun _ => ?_, fun w marked sweep fan => ?_⟩⟩
        · exact congrArg (fun v => ({ s with
            clock := max s.clock due, fans := v, transit := _, shown := { s.shown with fans := _ } } : State)) (put_put _ _ _ _)
        · exact absurd ((forSweep marked sweep fan).symm.trans pending) (Option.some_ne_none w)
      | some w =>
        have ended := (m.failing f w.wasFailed).endSweep_sweepEnded w .stalled 0 0 true
        have clock := ((m.failing f w.wasFailed).endSweep_delivered w .stalled 0 0 true).clock
        rw [State.spinUpFails_some pending]
        rw [failing] at ended clock ⊢
        generalize State.endSweep _ w .stalled 0 0 true = t at ended clock ⊢
        have stamp : t.uptime = (s.reachTime due).uptime := congrArg (fun n => BitVec.ofNat 32 (n / 1000)) clock
        refine ⟨clock, fun less => absurd less early, fun _ => ⟨fun free => ?_, fun v marked sweep fan => ?_⟩⟩
        · have none : m.pendingSweep f = none := State.pendingSweep_none (by rw [here]; exact free)
          exact absurd (pending.symm.trans none) (Option.some_ne_none w)
        · cases (forSweep marked sweep fan).symm.trans pending
          subst fan
          rw [stamp]
          exact SweepEnded.of_spinLimit (limit := s.fans[w.fan].spinLimit) (by simp only [put_same, put_put]) ended

end Sys2Proof.Settled
end

section
/-! SUPPORT. The fans' work in a pass: demands, wakes and rests, and the abort of a sweep (R34, R36, R39, R44). Obligation
O12. -/

namespace Sys2Proof.Machine

open Sys2Proof Host

variable {s t : State} {f : Fin 2}

/-! ### What the pass makes of its fan work -/

theorem State.gated_fans (s : State) : s.gated.fans = s.fans ∧ s.gated.sweep = s.sweep := by
  unfold State.gated
  rw [State.gatePass_eq]
  exact ⟨rfl, rfl⟩

theorem State.climatePass_fans (s : State) (low : Bool) : (s.climatePass low).fans = s.gated.fanPass.fans ∧
    (s.climatePass low).sweep = s.gated.fanPass.sweep := by
  have closed (m : State) (g : Grants) (r : Bool) : ((m.applyGrants g low).closePass r).fans = m.fans ∧
      ((m.applyGrants g low).closePass r).sweep = m.sweep := ⟨rfl, rfl⟩
  have interlocked (m : State) : m.interlockPass.fans = m.fans ∧ m.interlockPass.sweep = m.sweep := ⟨rfl, rfl⟩
  rw [State.climatePass_eq, (closed _ _ _).1, (closed _ _ _).2, State.episodePass_eq, State.beforeGrants_eq]
  exact interlocked _

theorem State.climatePass_told (s : State) (low : Bool) {c : Instr} (told : c ∈ s.gated.fanPass.transit) :
    c ∈ (s.climatePass low).transit := by
  have interlocked (m : State) : c ∈ m.transit → c ∈ m.interlockPass.transit := fun mem => List.mem_append_left _ mem
  have closed (m : State) (g : Grants) (r : Bool) : c ∈ m.transit → c ∈ ((m.applyGrants g low).closePass r).transit :=
    fun mem => List.mem_append_left _ (List.mem_append_left _ mem)
  rw [State.climatePass_eq]
  refine closed _ _ _ ?_
  rw [State.episodePass_transit]
  refine List.mem_append_left _ ?_
  rw [State.beforeGrants_eq]
  exact interlocked _ told

/-! ### Demands (R34) -/

theorem State.fanDemand_cool (live : s.sensors[(0 : Fin 9)].Live) (hot : coolStart s.mem f < s.sensors[(0 : Fin 9)].held) :
    let lo := min (minimumRun s.mem f + if s.fans[f].clogged = true then clogSurcharge s.mem f else 0) 1000
    (s.fanDemand f : Int) =
      max (lo : Int) (min 1000 (lo + (fanGain s.mem f * (s.sensors[(0 : Fin 9)].held - coolStart s.mem f)).tdiv 16)) := by
  intro lo
  have formed : s.fanDemand f = (clampInt (lo + (fanGain s.mem f * (s.sensors[(0 : Fin 9)].held - coolStart s.mem f)).tdiv 16)
      lo 1000).toNat := if_pos ⟨(Sensor.usable_iff _).2 live, hot⟩
  rw [formed]
  unfold clampInt
  rw [min_comm]
  exact Int.toNat_of_nonneg (le_trans (Int.natCast_nonneg lo) (le_max_left _ _))

theorem State.fanDemand_idle (idle : ¬ s.sensors[(0 : Fin 9)].Live ∨ s.sensors[(0 : Fin 9)].held ≤ coolStart s.mem f) :
    s.fanDemand f = if f = 1 ∧ s.gate.state ≠ .opened then stirDuty s.mem else 0 := by
  refine if_neg ?_
  rintro ⟨usable, hot⟩
  rcases idle with dead | cool
  · exact dead ((Sensor.usable_iff _).1 usable)
  · exact absurd hot (not_lt.2 cool)

/-! ### A fan's state work (R36, R39) -/

/-- A fan's record after its state work, with its demand formed, at a moment. -/
def Fan.worked (x : Fan) (m : Memory) (f : Fin 2) (clock : Nat) : Fan :=
  match x.state with
  | .resting =>
    if 0 < x.demand then
      { x with state := .spinningUp, lateTries := 0, spinLimit := some (clock + spinUpLimit m f * 1000000) }
    else x
  | .running =>
    if 0 < x.demand then { x with restCount := 0 }
    else { x with
      restCount := x.restCount + 1, state := if restDelay m f ≤ x.restCount + 1 then .resting else .running }
  | _ => x

theorem Fan.worked_resting {x : Fan} {m : Memory} {clock : Nat} (resting : x.state = .resting) : x.worked m f clock =
    if 0 < x.demand then
      { x with state := .spinningUp, lateTries := 0, spinLimit := some (clock + spinUpLimit m f * 1000000) }
    else x := by
  unfold Fan.worked
  rw [resting]

theorem Fan.worked_running {x : Fan} {m : Memory} {clock : Nat} (running : x.state = .running) : x.worked m f clock =
    if 0 < x.demand then { x with restCount := 0 }
    else { x with
      restCount := x.restCount + 1, state := if restDelay m f ≤ x.restCount + 1 then .resting else .running } := by
  unfold Fan.worked
  rw [running]

theorem Fan.worked_other {x : Fan} {m : Memory} {clock : Nat} (other : x.state ≠ .resting ∧ x.state ≠ .running) :
    x.worked m f clock = x := by
  unfold Fan.worked
  split
  next resting => exact absurd resting other.1
  next running => exact absurd running other.2
  · rfl

theorem Fan.worked_demand (x : Fan) (m : Memory) (clock : Nat) : (x.worked m f clock).demand = x.demand := by
  unfold Fan.worked
  repeat' split
  all_goals rfl

theorem State.fanStateWork_fan (s : State) (f : Fin 2) : (s.fanStateWork f).fans[f] = s.fans[f].worked s.mem f s.clock := by
  unfold State.fanStateWork
  dsimp only
  split
  next resting =>
    rw [Fan.worked_resting resting]
    split
    · have limit : s.inMs (spinUpLimit s.mem f * 1000) = s.clock + spinUpLimit s.mem f * 1000000 := by
        unfold State.inMs
        rw [Nat.mul_assoc]
      rw [← limit]
      exact put_same _ _ _
    · rfl
  next running =>
    rw [Fan.worked_running running]
    split
    · exact put_same _ _ _
    · split
      · exact put_same _ _ _
      · exact (put_same _ _ _).trans (by rw [running])
  next notResting notRunning => rw [Fan.worked_other ⟨notResting, notRunning⟩]

theorem State.fanStateWork_other (s : State) (f : Fin 2) {g : Fin 2} (other : g ≠ f) : (s.fanStateWork f).fans[g] = s.fans[g] := by
  unfold State.fanStateWork
  dsimp only
  split
  · split
    · exact put_other _ other.symm _
    · rfl
  · split
    · exact put_other _ other.symm _
    · split <;> exact put_other _ other.symm _
  · rfl

theorem State.fanStateWork_woken (s : State) (f : Fin 2) (resting : s.fans[f].state = .resting) (asked : 0 < s.fans[f].demand) :
    .counterIncrement (.spinUps f) ∈ (s.fanStateWork f).transit := by
  unfold State.fanStateWork
  dsimp only
  rw [resting]
  dsimp only
  rw [if_pos asked]
  exact List.mem_append_right _ (List.mem_singleton.2 rfl)

theorem State.fanStateWork_keeps (s : State) (f : Fin 2) : (s.fanStateWork f).mem = s.mem ∧ (s.fanStateWork f).clock = s.clock ∧
    (s.fanStateWork f).sweep = s.sweep ∧ (s.fanStateWork f).sensors = s.sensors ∧ s.transit <+: (s.fanStateWork f).transit := by
  obtain ⟨⟨sent, events, -⟩, frame⟩ := s.fanStateWork_fanFrame f
  refine ⟨by rw [frame], by rw [frame], ?_, by rw [frame], ⟨sent, events.symm⟩⟩
  unfold State.fanStateWork
  dsimp only
  repeat' split
  all_goals rfl

/-- The state once both fans' demands are formed (R34). -/
def State.fansAsked (s : State) : State :=
  (s.setFan 0 { s.fans[(0 : Fin 2)] with demand := s.fanDemand 0 }).setFan 1
    { s.fans[(1 : Fin 2)] with demand := s.fanDemand 1 }

theorem State.fansAsked_fan (s : State) (f : Fin 2) : s.fansAsked.fans[f] = { s.fans[f] with demand := s.fanDemand f } := by
  have whole : s.fansAsked.fans = put (put s.fans 0 { s.fans[(0 : Fin 2)] with demand := s.fanDemand 0 }) 1
      { s.fans[(1 : Fin 2)] with demand := s.fanDemand 1 } := rfl
  simp only [whole]
  match f with
  | 0 => exact (put_other _ (by decide) _).trans (put_same _ _ _)
  | 1 => exact put_same _ _ _

/-- The state before the sweep's abort (R44). -/
def State.fansWorked (s : State) : State := (s.fansAsked.fanStateWork 0).fanStateWork 1

theorem State.fanDemand_setFan (s : State) (x : Fan) {f g : Fin 2} (other : g ≠ f) : (s.setFan f x).fanDemand g = s.fanDemand g := by
  have same : (s.setFan f x).fans[g] = s.fans[g] := put_other _ other.symm _
  unfold State.fanDemand
  rw [same]
  rfl

theorem State.fanPass_eq (s : State) : s.fanPass = s.fansWorked.sweepAbortWork := by
  have second (n : State) (fan : n.fans[(1 : Fin 2)] = s.fans[(1 : Fin 2)]) (demand : n.fanDemand 1 = s.fanDemand 1) :
      n.setFan 1 { n.fans[(1 : Fin 2)] with demand := n.fanDemand 1 }
        = n.setFan 1 { s.fans[(1 : Fin 2)] with demand := s.fanDemand 1 } := by rw [fan, demand]
  exact congrArg (fun m : State => ((m.fanStateWork 0).fanStateWork 1).sweepAbortWork)
    (second _ (put_other _ (by decide) _) (s.fanDemand_setFan _ (by decide)))

theorem State.fansWorked_fan (s : State) (f : Fin 2) :
    s.fansWorked.fans[f] = ({ s.fans[f] with demand := s.fanDemand f } : Fan).worked s.mem f s.clock := by
  have asked := s.fansAsked_fan
  have mem : s.fansAsked.mem = s.mem := rfl
  have clock : s.fansAsked.clock = s.clock := rfl
  unfold State.fansWorked
  generalize s.fansAsked = n at asked mem clock
  rw [← mem, ← clock]
  obtain ⟨memKept, clockKept, -⟩ := n.fanStateWork_keeps 0
  match f with
  | 0 => rw [State.fanStateWork_other _ 1 (by decide), State.fanStateWork_fan, asked]
  | 1 => rw [State.fanStateWork_fan, State.fanStateWork_other _ 0 (by decide), asked, memKept, clockKept]

theorem State.fansWorked_keeps (s : State) : s.fansWorked.sweep = s.sweep ∧ s.fansWorked.sensors = s.sensors ∧
    s.fansWorked.mem = s.mem ∧ s.fansWorked.clock = s.clock := by
  obtain ⟨mem, clock, sweep, sensors, -⟩ := s.fansAsked.fanStateWork_keeps 0
  obtain ⟨mem', clock', sweep', sensors', -⟩ := (s.fansAsked.fanStateWork 0).fanStateWork_keeps 1
  exact ⟨sweep'.trans sweep, sensors'.trans sensors, mem'.trans mem, clock'.trans clock⟩

theorem State.fansWorked_woken (s : State) (f : Fin 2) (resting : s.fans[f].state = .resting) (asked : 0 < s.fanDemand f) :
    .counterIncrement (.spinUps f) ∈ s.fansWorked.transit := by
  have record := s.fansAsked_fan f
  obtain ⟨-, -, -, -, first⟩ := s.fansAsked.fanStateWork_keeps 0
  obtain ⟨-, -, -, -, later⟩ := (s.fansAsked.fanStateWork 0).fanStateWork_keeps 1
  match f with
  | 0 => exact later.subset (State.fanStateWork_woken _ 0 (by rw [record]; exact resting) (by rw [record]; exact asked))
  | 1 =>
    have same := State.fanStateWork_other s.fansAsked 0 (g := 1) (by decide)
    exact State.fanStateWork_woken _ 1 (by rw [same, record]; exact resting) (by rw [same, record]; exact asked)

/-! ### The abort of a sweep (R44) -/

theorem State.sweepAbortWork_none (cool : ∀ w, s.sweep = some w → ¬ s.tooHot w.fan = true) : s.sweepAbortWork = s := by
  unfold State.sweepAbortWork
  split
  next w sweep => exact if_neg (cool w sweep)
  · rfl

theorem State.sweepAbortWork_some {w : Sweep} (sweep : s.sweep = some w) (hot : s.tooHot w.fan = true) :
    s.sweepAbortWork = s.endSweep w .aborted 0 0 false := by
  unfold State.sweepAbortWork
  rw [sweep]
  exact if_pos hot

theorem fanAfterSweep_aborted (w : Sweep) : fanAfterSweep w .aborted false = if w.wasFailed = true then .failed else .running := by
  unfold fanAfterSweep
  simp

theorem State.sweepAbortWork_told {c : Instr} (s : State) (told : c ∈ s.transit) : c ∈ s.sweepAbortWork.transit := by
  obtain ⟨⟨sent, events, -⟩, -⟩ := s.sweepAbortWork_fanFrame
  rw [events]
  exact List.mem_append_left _ told

theorem State.sweepAbortWork_demand (s : State) (f : Fin 2) : s.sweepAbortWork.fans[f].demand = s.fans[f].demand := by
  unfold State.sweepAbortWork
  split
  next w sweep =>
    split
    · obtain ⟨-, -, same, others, -⟩ := s.endSweep_sweepEnded w .aborted 0 0 false
      by_cases other : f = w.fan
      · rw [other, same]
      · rw [others f other]
    · rfl
  · rfl

theorem State.endSweep_posting (s : State) (w : Sweep) (result : SweepResult) (worst : Nat) (dev : Int) (spunOut : Bool) :
    posting s.uptime .fan 2 false (BitVec.ofNat 8 w.fan.val)
      { w0 := natWord (sweepCode result), w1 := natWord worst, w2 := signedWord dev }
      ∈ (s.endSweep w result worst dev spunOut).transit := by
  obtain ⟨-, -, -, -, ⟨sent, -, events⟩, -⟩ := s.endSweep_sweepEnded w result worst dev spunOut
  rw [events]
  exact List.mem_append_left _ (List.mem_append_right _ (List.mem_singleton.2 rfl))

theorem State.endSweep_answer (s : State) {w : Sweep} {slot : Fin 8} (slotted : w.slot = some slot) :
    .deskAnswer slot .failed { w0 := 6 } ∈ (s.endSweep w .aborted 0 0 false).transit := by
  rw [State.endSweep_eq]
  refine List.mem_append_right _ (List.mem_append_right _ ?_)
  unfold sweepAnswers
  rw [slotted]
  exact List.mem_singleton.2 rfl

end Sys2Proof.Machine

namespace Sys2Proof.Settled

open Sys2Proof Sys2Proof.Machine Host

/-- Settles O12: m is the fan's record between its own work and the sweep's abort. -/
theorem fanDemands : Obligations.FanDemands := by
  intro low s due f h
  obtain ⟨u, hu⟩ : ∃ u : State, u = { s.reachTime due with nextPass := some (due + Config.passPeriod) } := ⟨_, rfl⟩
  refine ⟨_, u.gated.fansWorked.fans[f], (exec_climatePass low h).trans (by rw [← hu]), ?_⟩
  obtain ⟨clock, next, rfl⟩ : ∃ clock next, s = { u with clock := clock, nextPass := next } :=
    ⟨s.clock, s.nextPass, by rw [hu]; rfl⟩
  clear hu h
  dsimp only
  obtain ⟨fans, sweep⟩ := u.climatePass_fans low
  have told : ∀ c, c ∈ u.gated.fanPass.transit → c ∈ (u.climatePass low).transit := fun c => u.climatePass_told low
  have gate := u.climatePass_gate low
  have stamp : (u.climatePass low).uptime = u.uptime := by rw [u.climatePass_frame low]; rfl
  have clock : (u.climatePass low).clock = u.clock := by rw [u.climatePass_frame low]
  generalize u.climatePass low = t at fans sweep told gate stamp clock
  obtain ⟨fansBefore, sweepBefore⟩ := u.gated_fans
  have mem : u.gated.mem = u.mem := by rw [u.gated_frame]
  have sensors : u.gated.sensors = u.sensors := by rw [u.gated_frame]
  have now : u.gated.clock = u.clock := by rw [u.gated_frame]
  generalize u.gated = g at fans sweep told gate fansBefore sweepBefore mem sensors now
  rw [State.fanPass_eq] at fans sweep told
  rw [fans, sweep, stamp, clock, gate, ← mem, ← sensors, ← now, ← fansBefore, ← sweepBefore]
  have stampBefore : u.uptime = g.uptime := by
    unfold State.uptime
    rw [now]
  rw [stampBefore]
  have record := g.fansWorked_fan f
  have woken := g.fansWorked_woken f
  obtain ⟨sweepKept, sensorsKept, memKept, clockKept⟩ := g.fansWorked_keeps
  generalize g.fansWorked = n at *
  obtain ⟨m, hm⟩ : ∃ m, m = n.fans[f] := ⟨_, rfl⟩
  rw [← hm] at record ⊢
  have formed : m.demand = g.fanDemand f := by rw [record]; exact Fan.worked_demand _ _ _
  have demand : n.sweepAbortWork.fans[f].demand = m.demand := (n.sweepAbortWork_demand f).trans (by rw [hm])
  rw [← formed] at record
  rw [← sweepKept]
  refine ⟨demand, fun live hot => formed ▸ g.fanDemand_cool live hot, fun idle => formed ▸ g.fanDemand_idle idle,
    fun resting asked => ⟨told _ (n.sweepAbortWork_told (woken resting (formed ▸ asked))), ?_⟩, fun resting none => ?_,
    fun running asked => ?_, fun running none => ?_, fun other => ?_, fun cool => ?_, fun w ⟨sweep, live, hot⟩ => ?_⟩
  · exact record.trans ((Fan.worked_resting (x := { g.fans[f] with demand := m.demand }) resting).trans (if_pos asked))
  · rw [none] at record
    exact record.trans ((Fan.worked_resting (x := { g.fans[f] with demand := 0 }) resting).trans (if_neg (Nat.lt_irrefl 0)))
  · exact record.trans ((Fan.worked_running (x := { g.fans[f] with demand := m.demand }) running).trans (if_pos asked))
  · rw [none] at record
    exact record.trans ((Fan.worked_running (x := { g.fans[f] with demand := 0 }) running).trans (if_neg (Nat.lt_irrefl 0)))
  · refine record.trans (Fan.worked_other (x := { g.fans[f] with demand := m.demand }) ?_)
    rcases other with state | state | state <;> exact ⟨fun e => (nomatch state.symm.trans e), fun e => (nomatch state.symm.trans e)⟩
  · have stays := State.sweepAbortWork_none (s := n) fun w sweep hot => by
      obtain ⟨live, above⟩ := (n.tooHot_iff w.fan).1 hot
      rw [sensorsKept] at live above
      rw [memKept] at above
      exact cool w ⟨sweep, live, above⟩
    rw [stays]
    exact ⟨rfl, hm.symm⟩
  · have hotter : n.tooHot w.fan = true := (n.tooHot_iff w.fan).2 (by rw [sensorsKept, memKept]; exact ⟨live, hot⟩)
    rw [State.sweepAbortWork_some sweep hotter] at told ⊢
    obtain ⟨-, -, ended, others, -, gone⟩ := n.endSweep_sweepEnded w .aborted 0 0 false
    have posted := told _ (n.endSweep_posting w .aborted 0 0 false)
    have answered (slot : Fin 8) (slotted : w.slot = some slot) := told _ (n.endSweep_answer slotted)
    have stampKept : n.uptime = g.uptime := by
      unfold State.uptime
      rw [clockKept]
    generalize n.endSweep w .aborted 0 0 false = e at ended others gone
    refine ⟨by rw [gone], fun other => (others f (Ne.symm other)).trans hm.symm, fun same => ?_⟩
    subst same
    refine ⟨?_, ?_, answered⟩
    · rw [← hm, fanAfterSweep_aborted] at ended
      refine ended.trans ?_
      cases w.wasFailed <;> rfl
    · rw [stampKept] at posted
      exact posted

end Sys2Proof.Settled
end

section
/-! SUPPORT. The key lights: what each position shows (R117 to R119). Obligation O39. -/

namespace Sys2Proof.Machine

open Sys2Proof Host

variable {s : State} {p : Fin 64} {e mode : Nat}

/-- A blink mode as the tables number it is lit at an uptime (R117). -/
def LitAt (uptime : DWord) (mode : Nat) : Prop :=
  (mode = 1 → uptime.toNat % 1000 < 500) ∧ (mode = 2 → uptime.toNat % 250 < 125)

theorem Blink.lit_steady (uptime : DWord) : Blink.steady.lit uptime = true ↔ LitAt uptime 0 :=
  ⟨fun _ => ⟨nofun, nofun⟩, fun _ => rfl⟩

theorem Blink.lit_fast (uptime : DWord) : Blink.fast.lit uptime = true ↔ LitAt uptime 2 :=
  ⟨fun lit => ⟨nofun, fun _ => of_decide_eq_true lit⟩, fun lit => decide_eq_true (lit.2 rfl)⟩

theorem paletteBlink_lit (m : Memory) (e : Nat) (uptime : DWord) :
    (paletteBlink m e).lit uptime = true ↔ LitAt uptime (m.byte (0x18C0 + 2 * e + 1)) := by
  unfold paletteBlink
  generalize m.byte (0x18C0 + 2 * e + 1) = mode
  split
  · exact ⟨fun lit => ⟨fun _ => of_decide_eq_true lit, nofun⟩, fun lit => decide_eq_true (lit.1 rfl)⟩
  · exact Blink.lit_fast uptime
  next notSlow notFast => exact ⟨fun _ => ⟨fun slow => (notSlow slow).elim, fun fast => (notFast fast).elim⟩, fun _ => rfl⟩

/-- The brightness level of a palette entry with the dim offset (R117). -/
def State.levelOf (s : State) (e : Nat) : Nat := (max 0 (min 63 ((paletteLevel s.mem e : Int) + dimOffset s.mem))).toNat

theorem State.light_dark (ready : s.isReady = true) (none : s.lightChoice p = none) : s.light p = 0 := by
  unfold State.light
  rw [ready, none]
  rfl

theorem State.light_choice {b : Blink} (ready : s.isReady = true) (choice : s.lightChoice p = some (e, b))
    (lit : b.lit s.uptime = true ↔ LitAt s.uptime mode) :
    (LitAt s.uptime mode → s.light p = s.levelOf e) ∧ (¬ LitAt s.uptime mode → s.light p = 0) := by
  have composed : s.light p = if b.lit s.uptime then s.levelOf e else 0 := by
    unfold State.light State.levelOf
    rw [ready, choice, min_comm]
    rfl
  exact ⟨fun on => composed.trans (if_pos (lit.2 on)), fun off => composed.trans (if_neg fun on => off (lit.1 on))⟩

/-! ### The layers in their order (R118, R119) -/

/-- A light test is running (R119). -/
def State.Testing (s : State) : Prop := ∃ ends, s.chords.testEnds = some ends ∧ s.clock < ends

theorem State.lightChoice_testing (testing : s.Testing) : s.lightChoice p = some (3, .steady) := by
  obtain ⟨ends, running, early⟩ := testing
  unfold State.lightChoice
  rw [running]
  exact if_pos (decide_eq_true early)

theorem State.lightChoice_layers (quiet : ¬ s.Testing) : s.lightChoice p =
    if s.chords.published = .warming ∧ p.val / 8 = progressRow s.mem then
      if p.val % 8 < litCount s.chords.progress then some (2, paletteBlink s.mem 2) else none
    else if s.chords.published = .held ∧ inHeldMask s.mem p then some (3, .fast)
    else some (lightIndex s.mem p, paletteBlink s.mem (lightIndex s.mem p)) := by
  have layers : s.lightChoice p = if s.chords.published = .warming ∧ decide (p.val / 8 = progressRow s.mem) = true then
      if p.val % 8 < litCount s.chords.progress then some (2, paletteBlink s.mem 2) else none
    else if s.chords.published = .held ∧ inHeldMask s.mem p then some (3, .fast)
    else some (lightIndex s.mem p, paletteBlink s.mem (lightIndex s.mem p)) := by
    unfold State.lightChoice
    refine if_neg fun testing => ?_
    split at testing
    next ends running => exact quiet ⟨ends, running, of_decide_eq_true testing⟩
    · exact absurd testing Bool.false_ne_true
  simpa only [decide_eq_true_eq] using layers

end Sys2Proof.Machine

namespace Sys2Proof.Settled

open Sys2Proof Sys2Proof.Machine Host

/-- Settles O39: the layers in their order, each read from the tables at the moment it is composed. -/
theorem lightsComposed : Obligations.LightsComposed := by
  refine ⟨fun s p => ⟨rfl, ?_⟩, fun s due ends => ?_⟩
  · intro level lit shows own ready testing inRow masked
    have started (h : ready) : s.isReady = true := decide_eq_true h
    refine ⟨fun starting => ?_, fun h on => s.light_choice (started h) (State.lightChoice_testing on) (Blink.lit_steady _),
      fun h off warming row => ⟨fun inBar => ?_, fun beyond => ?_⟩, fun h off held mask => ?_, fun h off noBar noMask => ?_⟩
    · exact if_pos (by rw [show s.isReady = false from decide_eq_false starting]; rfl)
    · exact s.light_choice (started h) (((State.lightChoice_layers off).trans (if_pos ⟨warming, row⟩)).trans (if_pos inBar))
        (paletteBlink_lit _ _ _)
    · exact s.light_dark (started h) (((State.lightChoice_layers off).trans (if_pos ⟨warming, row⟩)).trans
        (if_neg (Nat.not_lt.2 beyond)))
    · refine s.light_choice (started h) (((State.lightChoice_layers off).trans (if_neg ?_)).trans (if_pos ⟨held, mask⟩))
        (Blink.lit_fast _)
      rintro ⟨warming, -⟩
      exact nomatch held.symm.trans warming
    · exact s.light_choice (started h) (((State.lightChoice_layers off).trans (if_neg noBar)).trans (if_neg noMask))
        (paletteBlink_lit _ _ _)
  · have ended : exec .lightTestEnd s = .next
        ((s.reachTime due).setChords { s.chords with testEnds := none }).publishChords := by
      have unfolded : exec .lightTestEnd s = execLightTestEnd s := rfl
      rw [unfolded]
      unfold execLightTestEnd
      rw [ends]
      rfl
    exact ⟨_, ended, rfl, rfl, rfl⟩

end Sys2Proof.Settled
end

section
/-! SUPPORT. What a hand-off leaves of the keypad: the machines as the scan left them, and no KEY or KEYPAD FAULT report
but the scan's own. -/

namespace Sys2Proof.Machine

open Sys2Proof Host

variable {s t u : State}

/-- A report that the keypad scanner posts (R101, R103). -/
def keyEvent : Instr → Bool
  | .reportPosting r => decide (r.kind = .key ∨ r.kind = .keypadFault)
  | _ => false

/-- The keypad but its published state, and the clock, stand as they were, and no report of the scanner's has been sent. -/
structure KeysLeft (s t : State) : Prop where
  clock : t.clock = s.clock
  keypad : t.keypad = { s.keypad with published := t.keypad.published }
  events : ∃ sent, t.transit = s.transit ++ sent ∧ ∀ c ∈ sent, keyEvent c = false

theorem KeysLeft.of_events (sent : List Instr) (others : ∀ e ∈ sent, keyEvent e = false) (clock : t.clock = s.clock)
    (keypad : t.keypad = { s.keypad with published := t.keypad.published }) (events : t.transit = s.transit ++ sent) :
    KeysLeft s t := ⟨clock, keypad, sent, events, others⟩

/-- A change that sends nothing and moves neither the keypad nor the clock. -/
theorem KeysLeft.of_eq (clock : t.clock = s.clock) (keypad : t.keypad = s.keypad) (transit : t.transit = s.transit) : KeysLeft s t :=
  .of_events [] nofun clock (by rw [keypad]) (by rw [transit, List.append_nil])

theorem KeysLeft.refl (s : State) : KeysLeft s s := .of_eq rfl rfl rfl

theorem KeysLeft.trans (h : KeysLeft s t) (h' : KeysLeft t u) : KeysLeft s u := by
  obtain ⟨clock, keypad, sent, events, others⟩ := h
  obtain ⟨clock', keypad', sent', events', others'⟩ := h'
  refine ⟨clock'.trans clock, ?_, sent ++ sent', by rw [events', events, List.append_assoc], fun c here => ?_⟩
  · rw [keypad', keypad]
  · exact (List.mem_append.1 here).elim (others c) (others' c)

theorem KeysLeft.foldl {α : Type} {f : State → α → State} (h : ∀ s x, KeysLeft s (f s x)) (l : List α) :
    ∀ s, KeysLeft s (l.foldl f s) := by
  induction l with
  | nil => exact KeysLeft.refl
  | cons x l ih => exact fun s => (h s x).trans (ih _)

theorem KeysLeft.sending (h : KeysLeft s t) {i : Instr} (other : keyEvent i = false) : KeysLeft s (t.send i) :=
  h.trans (.of_events [i] (fun c here => List.mem_singleton.1 here ▸ other) rfl rfl rfl)

/-- A following change that sends nothing and moves neither the keypad nor the clock. -/
theorem KeysLeft.changing (h : KeysLeft s t) (clock : u.clock = t.clock) (keypad : u.keypad = t.keypad)
    (transit : u.transit = t.transit) : KeysLeft s u := h.trans (.of_eq clock keypad transit)

theorem KeysLeft.settingChords (h : KeysLeft s t) (c : ChordUnit) : KeysLeft s (t.setChords c) := h.changing rfl rfl rfl

theorem KeysLeft.publishing (h : KeysLeft s t) : KeysLeft s t.publishChords := h.changing rfl rfl rfl

theorem KeysLeft.entering (h : KeysLeft s t) (st : SupState) (sub : SupSub) : KeysLeft s (t.enter st sub) :=
  h.trans (.of_events [] nofun rfl rfl (List.append_nil _).symm)

/-! ### The sequencer -/

theorem endEvents_keyEvent (stamp : DWord) (c : Fin 4) (y : Channel) : ∀ e ∈ endEvents stamp c y, keyEvent e = false := by
  intro e here
  unfold endEvents at here
  rcases List.mem_append.1 here with counted | outcome
  · rcases List.mem_cons.1 counted with rfl | reported
    · rfl
    · rw [List.mem_singleton.1 reported]
      rfl
  · split at outcome
    · rw [List.mem_singleton.1 outcome]
      rfl
    · exact absurd outcome List.not_mem_nil

theorem EndsAs.keysLeft {c : Fin 4} {y : Channel} (h : EndsAs s t c y) : KeysLeft s t := by
  obtain ⟨-, -, events, frame⟩ := h
  exact .of_events _ (endEvents_keyEvent _ _ _) (by rw [frame]) (by rw [frame]) events

theorem ChannelsAborted.keysLeft {P : Fin 4 → Prop} (h : ChannelsAborted s t P) : KeysLeft s t := by
  obtain ⟨order, -, -, -, -, events, frame⟩ := h
  refine .of_events _ (fun e here => ?_) (by rw [frame]) (by rw [frame]) events
  obtain ⟨c, -, sent⟩ := List.mem_flatMap.1 here
  exact endEvents_keyEvent _ _ _ e sent

/-- What a performed action sends, none of it the scanner's (R52, R56). -/
theorem Performs.keysLeft {c : Fin 4} {x : Channel} {a : Action} (h : Performs s t c x a) : KeysLeft s t := by
  obtain ⟨unknown, outside, locked, done⟩ := h
  by_cases known : ((a.operation.toNat = 1 ∨ a.operation.toNat = 2) ∧ a.target.toNat < 6) ∨
      ((a.operation.toNat = 3 ∨ a.operation.toNat = 4 ∨ a.operation.toNat = 5) ∧ a.target.toNat < 4) ∨
      a.operation.toNat = 6 ∨ (a.operation.toNat = 7 ∧ (a.target.toNat < 3 ∨ a.target.toNat = 255))
  · by_cases out : (a.operation.toNat = 1 ∨ a.operation.toNat = 2) ∧ x.mask.getLsbD a.target.toNat = false
    · exact (outside known out).keysLeft
    · by_cases lock : a.operation.toNat = 1 ∧ (hostMask s.mem).getLsbD a.target.toNat = true ∧
          (s.sup.state = .off ∨ s.sup.state = .warming ∨ s.sup.state = .held)
      · exact (locked known out lock).keysLeft
      · obtain ⟨-, -, -, -, -, -, events, -, -, frame⟩ := done known out lock
        refine .of_events _ (fun e sent => ?_) (by rw [frame]) (by rw [frame]) events
        split at sent
        · rw [List.mem_singleton.1 sent]
          rfl
        · split at sent
          · rw [List.mem_singleton.1 sent]
            rfl
          · split at sent
            · rw [List.mem_singleton.1 sent]
              rfl
            · exact absurd sent List.not_mem_nil
  · exact (unknown known).keysLeft

theorem Reaches.keysLeft {c : Fin 4} {x : Channel} {i : Byte} (h : Reaches s t c x i) : KeysLeft s t := by
  obtain ⟨action, delay, wait, invalid⟩ := h
  have only {y : Channel} (moved : t = { s with channels := put s.channels c y }) : KeysLeft s t :=
    .of_eq (by rw [moved]) (by rw [moved]) (by rw [moved])
  generalize hk : (if 127 < i.toNat then 0 else s.mem.byte (0x1400 + 8 * i.toNat)) = kind at action delay wait invalid
  by_cases isAction : kind = 1
  · exact (action isAction).keysLeft
  · by_cases isDelay : kind = 2
    · exact only (delay isDelay)
    · by_cases isWait : kind = 3
      · obtain ⟨beyond, within⟩ := wait isWait
        by_cases far : 5 < s.mem.byte (0x1400 + 8 * i.toNat + 2)
        · exact (beyond far).keysLeft
        · obtain ⟨matched, waits⟩ := within ⟨s.mem.byte (0x1400 + 8 * i.toNat + 2), by omega⟩ rfl
          by_cases good : s.rails[(⟨s.mem.byte (0x1400 + 8 * i.toNat + 2), by omega⟩ : Fin 6)].good =
              decide (s.mem.read (0x1400 + 8 * i.toNat + 3) ≠ 0#8)
          · exact only (matched good)
          · exact only (waits good)
      · exact (invalid isAction isDelay isWait).keysLeft

theorem BeginsRun.keysLeft {c : Fin 4} {x : Channel} (h : BeginsRun s t c x) : KeysLeft s t := by
  obtain ⟨bad, good⟩ := h
  by_cases first : s.mem.read (0x1100 + 8 * x.sequence.val) = 0#8
  · exact (bad first).keysLeft
  · exact (good first).keysLeft

theorem SequenceRequested.keysLeft {h : Fin 16} {starter : Starter} {refusal : Option AnswerCode} {channel : Option (Fin 4)}
    (req : SequenceRequested s t h starter refusal channel) : KeysLeft s t := by
  obtain ⟨full, conflict, begins⟩ := req
  rcases free : s.freeChannel with - | c
  · rw [(full (State.freeChannel_eq_none_iff.1 free)).1]
    exact .refl s
  · obtain ⟨here, lowest⟩ := State.freeChannel_eq_some free
    by_cases shared : ∃ d : Fin 4, s.channels[d].busy = true ∧ s.channels[d].mask &&& headMask s.mem h ≠ 0#6
    · rw [(conflict ⟨c, here⟩ shared).1]
      exact .refl s
    · exact ((KeysLeft.refl s).sending rfl).trans (begins c here lowest shared).2.2.keysLeft

/-! ### The supervisor's orders -/

theorem KeysLeft.starting (h : KeysLeft s t) (head : Fin 16) (off : Bool) : KeysLeft s (t.supervisorStart head off) := by
  rw [State.supervisorStart_eq]
  have cleared := h.trans (t.clearWay_aborted head off).keysLeft
  have numbered : KeysLeft s (t.clearWay head off).numberStart := cleared.changing rfl rfl rfl
  exact (numbered.sending (i := .counterIncrement .channelsStarted) rfl).trans
    (State.setUp_begins (t.clearWay head off).numberStart 0 head .supervisor _).keysLeft

theorem KeysLeft.setting (h : KeysLeft s t) (v : Sup) : KeysLeft s (t.setSup v) := h.changing rfl rfl rfl

theorem KeysLeft.aborting (h : KeysLeft s t) (c : Fin 4) : KeysLeft s (t.abortChannel c .supervisor) :=
  h.trans (t.abortChannel_aborted c).keysLeft

theorem State.startOrder_keysLeft (s : State) : KeysLeft s s.startOrder :=
  .setting (.entering (.sending (.setting (.refl s) _) rfl) _ _) _

theorem State.powerOn_keysLeft (s : State) : KeysLeft s s.powerOn.1 := by
  unfold State.powerOn
  split
  · exact s.startOrder_keysLeft
  · exact .refl s

theorem State.releaseHold_keysLeft (s : State) : KeysLeft s s.releaseHold.1 := by
  unfold State.releaseHold
  split
  · exact (KeysLeft.setting (.refl s) _).trans (State.startOrder_keysLeft _)
  · exact .refl s

theorem State.enterSequence_keysLeft (s : State) (r : Restart) : KeysLeft s (s.enterSequence r) := by
  rw [State.enterSequence_eq]
  unfold State.sequenced
  exact .starting (.setting (.entering (.refl s) _ _) _) _ _

theorem State.enterRestarting_keysLeft (s : State) (rung : Fin 6) (origin : Origin) : KeysLeft s (s.enterRestarting rung origin) := by
  rw [State.enterRestarting_eq]
  have begun : KeysLeft s (s.holdOffBegun rung origin) := by
    unfold State.holdOffBegun State.heldOff
    exact .aborting (.setting (.entering (.setting (.refl s) _) _ _) _) _
  dsimp only
  split
  · exact begun.setting _
  · exact begun.trans (State.enterSequence_keysLeft _ _)

theorem State.enterShutting_keysLeft (s : State) (target : ShutTarget) (halt : Nat) (wake : Option Nat) :
    KeysLeft s (s.enterShutting target halt wake) := by
  rw [State.enterShutting_eq]
  have begun : KeysLeft s (s.haltBegun target wake) := by
    unfold State.haltBegun State.shutting
    exact .aborting (.setting (.entering (.setting (.refl s) _) _ _) _) _
  dsimp only
  split
  · exact begun.setting _
  · exact begun.starting _ _

theorem State.requestedRestart_keysLeft (s : State) (rung : Fin 6) (cause : Cause) (origin : Origin) :
    KeysLeft s (s.requestedRestart rung cause origin) := by
  have begun : KeysLeft s (s.beginCause cause) := .sending (.setting (.refl s) _) rfl
  have restarted := begun.trans (State.enterRestarting_keysLeft _ rung origin)
  exact .sending (.setting restarted _) rfl

theorem State.chordRestart_keysLeft (s : State) (r : Fin 6) : KeysLeft s (s.chordRestart r).1 := by
  unfold State.chordRestart
  split
  · exact .refl s
  · exact s.requestedRestart_keysLeft _ _ _

theorem State.forcedShutdown_keysLeft (s : State) : KeysLeft s s.forcedShutdown := by
  by_cases idle : s.sup.state = .off ∨ s.sup.state = .held
  · rw [State.forcedShutdown_idle idle]
    exact .refl s
  · obtain ⟨off, held⟩ := not_or.1 idle
    by_cases shutting : s.sup.state = .shutting
    · have ended : KeysLeft s s.haltEnded := .setting (.refl s) _
      rw [State.forcedShutdown_shutting shutting]
      split
      · exact ended.starting _ _
      · exact ended
    · rw [State.forcedShutdown_other off held shutting]
      exact s.enterShutting_keysLeft _ _ _

/-! ### Chords and the power key -/

theorem State.startSweep_keysLeft (s : State) (f : Fin 2) (mode : SweepMode) (starter : Starter) (slot : Option (Fin 8)) :
    KeysLeft s (s.startSweep f mode starter slot).1 := by
  have counted : KeysLeft s (s.count .sweepsRun) := (KeysLeft.refl s).sending rfl
  unfold State.startSweep
  dsimp only
  generalize s.count .sweepsRun = m at counted ⊢
  split
  · exact .refl s
  · split
    · exact counted.changing rfl rfl rfl
    · exact counted.changing rfl rfl rfl
    · exact counted.changing rfl rfl rfl
    all_goals
      refine counted.trans (.of_events [.counterIncrement (.spinUps f)] (fun c here => ?_) rfl rfl rfl)
      rw [List.mem_singleton.1 here]
      rfl

theorem State.chordSend_keysLeft (s : State) (action argument : Nat) : KeysLeft s (s.chordSend action argument).1 := by
  unfold State.chordSend
  split
  · exact s.chordRestart_keysLeft _
  · exact s.powerOn_keysLeft
  · exact s.releaseHold_keysLeft
  · obtain ⟨-, -, frame⟩ := s.takeBoost_requested .all argument
    exact .of_eq (by rw [frame]) (by rw [frame]) (by rw [frame])
  · exact s.startSweep_keysLeft _ _ _ _
  · have requested := (s.startSequence_requested (headOf argument) .chord).keysLeft
    dsimp only
    split <;> exact requested
  · exact .of_eq rfl rfl rfl
  · exact .refl s

theorem State.fireChord_keysLeft (s : State) (n : Fin 8) : KeysLeft s (s.fireChord n) := by
  have sent := (s.chordSend_keysLeft (chordAction s.mem n) (chordArgument s.mem n)).sending (i := .counterIncrement .chordsFired) rfl
  unfold State.fireChord
  dsimp only
  split
  · exact (sent.sending rfl).sending rfl
  · exact sent.sending rfl

theorem State.matchChord_keysLeft (s : State) (held : List Nat) (n : Fin 8) : KeysLeft s (s.matchChord held n) := by
  have only (c : Chord) : KeysLeft s (s.setChord n c) := .of_eq rfl rfl rfl
  unfold State.matchChord
  dsimp only
  split
  · exact only _
  · split
    · exact only _
    · split
      · exact .refl s
      · split
        · exact (only _).trans (State.fireChord_keysLeft _ n)
        · exact only _

theorem State.longOrder_keysLeft {r : State × Option AnswerCode} (h : KeysLeft s r.1) (subkind : Nat) :
    KeysLeft s (s.longOrder subkind r) := by
  have disarmed : KeysLeft s (r.1.setChords r.1.chords.disarm) := h.changing rfl rfl rfl
  unfold State.longOrder
  dsimp only
  split
  · exact (disarmed.sending rfl).sending rfl
  · exact disarmed.sending rfl

theorem State.longPress_keysLeft (s : State) : KeysLeft s s.longPress := by
  unfold State.longPress
  split
  · exact State.longOrder_keysLeft s.powerOn_keysLeft 1
  · exact State.longOrder_keysLeft s.releaseHold_keysLeft 2
  · split
    · exact (KeysLeft.refl s).sending rfl
    · exact .sending (.of_eq (by rfl) (by rfl) (by rfl)) (by rfl)
  · split
    · exact (KeysLeft.refl s).sending rfl
    · exact .sending (.of_eq (by rfl) (by rfl) (by rfl)) (by rfl)
  · exact (KeysLeft.refl s).sending rfl

theorem State.forcedHold_keysLeft (s : State) (p : PowerPress) : KeysLeft s (s.forcedHold p) := by
  unfold State.forcedHold
  split
  · exact .refl s
  · split
    · exact .refl s
    · exact .refl s
    · exact .sending (.trans (.of_eq (by rfl) (by rfl) (by rfl)) (State.forcedShutdown_keysLeft _)) (by rfl)

theorem State.checkLong_keysLeft (s : State) : KeysLeft s s.checkLong := by
  unfold State.checkLong
  split
  · exact .refl s
  · split
    · exact .trans (.of_eq (by rfl) (by rfl) (by rfl)) (State.longPress_keysLeft _)
    · exact .refl s

theorem State.checkForced_keysLeft (s : State) : KeysLeft s s.checkForced := by
  unfold State.checkForced
  split
  · exact .refl s
  · split
    · exact .trans (.of_eq (by rfl) (by rfl) (by rfl)) (State.forcedHold_keysLeft _ _)
    · exact .refl s

theorem State.takeHeld_keysLeft (s : State) (held : List (Fin 64 × KeyEntry)) : KeysLeft s (s.takeHeld held) := by
  have matched := KeysLeft.foldl (f := fun s n => s.matchChord (held.map fun h => h.2.code.toNat) n)
    (fun s n => s.matchChord_keysLeft _ n) (indices 8) s
  unfold State.takeHeld
  dsimp only
  generalize (indices 8).foldl (fun s n => s.matchChord (held.map fun h => h.2.code.toNat) n) s = m at matched ⊢
  have seen : KeysLeft s ((m.setChords (m.chords.seeing s.chords)).powerRecord (held.any fun h => h.2.power)) :=
    (matched.settingChords _).settingChords _
  have pressed := (seen.trans (State.checkLong_keysLeft _)).trans (State.checkForced_keysLeft _)
  generalize State.checkForced _ = u at pressed ⊢
  exact pressed.settingChords _

/-- A hand-off leaves the keypad as the scan left it but for the published state, and posts no report of the scanner's. -/
theorem State.handOff_keysLeft (s : State) (held : List (Fin 64 × KeyEntry)) : KeysLeft s (s.handOff held) := by
  unfold State.handOff
  dsimp only
  split
  · exact s.takeHeld_keysLeft held
  · exact (s.takeHeld_keysLeft held).publishing

end Sys2Proof.Machine
end

section
/-! SUPPORT. The machine of a position at a scan (R95 to R100). Obligation O35. -/

namespace Sys2Proof.Machine

open Sys2Proof Host

variable {s : State} {k : Key} {i : ScanInput} {p : Fin 64} {closed ghost : Bool} {kind : Option KeyKind}

/-! ### The reading -/

theorem completesRectangle_iff (reading : BitVec 64) (p : Fin 64) : completesRectangle reading p = true ↔ Ghosted reading p := by
  unfold completesRectangle Ghosted closedAt
  simp only [List.any_eq_true, List.mem_range, Bool.and_eq_true, decide_eq_true_eq]
  constructor
  · rintro ⟨r, inside, ⟨apart, column⟩, c, within, ⟨beside, row⟩, corner⟩
    exact ⟨r, c, inside, within, apart, beside, row, column, corner⟩
  · rintro ⟨r, c, inside, within, apart, beside, row, column, corner⟩
    exact ⟨r, inside, ⟨apart, column⟩, c, within, ⟨beside, row⟩, corner⟩

/-! ### Runs (R93) -/

theorem ScanInput.target_eq (i : ScanInput) (count : Nat) : i.target count = count * (if i.cold = true then 2 else 1) := by
  unfold ScanInput.target
  split <;> omega

/-- A release run of a machine grown by one scan (R97). -/
theorem Key.release_key (k : Key) (i : ScanInput) (kind : Option KeyKind) :
    let nr := i.target (releaseCount i.mem)
    let y := (k.release i kind).key
    (k.run = 0 → 1 < nr → y = { k with run := 1, target := nr }) ∧ (k.run = 0 → nr ≤ 1 → y = {}) ∧
    (k.run ≠ 0 → k.run + 1 < k.target → y = { k with run := k.run + 1 }) ∧
    (k.run ≠ 0 → k.target ≤ k.run + 1 → y = {}) := by
  dsimp only
  unfold Key.release Key.grow Key.ran Key.enterUp
  refine ⟨fun none long => ?_, fun none short => ?_, fun some long => ?_, fun some short => ?_⟩
  · rw [if_pos none]
    exact congrArg KeyStep.key (if_neg fun ran => absurd (of_decide_eq_true ran) (Nat.not_le.2 long))
  · rw [if_pos none]
    exact congrArg KeyStep.key (if_pos (decide_eq_true short))
  · rw [if_neg some]
    exact congrArg KeyStep.key (if_neg fun ran => absurd (of_decide_eq_true ran) (Nat.not_le.2 long))
  · rw [if_neg some]
    exact congrArg KeyStep.key (if_pos (decide_eq_true short))

/-- A press run that begins (R95). -/
theorem Key.press_begins (k : Key) (i : ScanInput) (p : Fin 64) :
    let np := i.target (pressCount i.mem)
    let y := (k.noRun.press i p).key
    (1 < np → y.state = .pressing ∧ y.run = 1 ∧ y.target = np) ∧ (np ≤ 1 → y.state = .down) := by
  dsimp only
  unfold Key.press
  have grown (n : Nat) : ({ k.noRun.grow n with state := .pressing } : Key).ran = decide (n ≤ 1) := rfl
  dsimp only [] at *
  rw [grown]
  refine ⟨fun long => ?_, fun short => ?_⟩
  · rw [if_neg fun ran => absurd (of_decide_eq_true ran) (Nat.not_le.2 long)]
    exact ⟨rfl, rfl, rfl⟩
  · rw [if_pos (decide_eq_true short)]
    rfl

/-- A press run that goes on (R95). -/
theorem Key.press_grows (i : ScanInput) (p : Fin 64) (state : k.state = .pressing) (run : k.run ≠ 0) :
    (k.run + 1 < k.target → (k.press i p).key = { k with run := k.run + 1 }) ∧
    (k.target ≤ k.run + 1 → (k.press i p).key.state = .down) := by
  have grown (n : Nat) : ({ k.grow n with state := .pressing } : Key) = { k with run := k.run + 1 } := by
    unfold Key.grow
    rw [if_neg run, ← state]
  unfold Key.press
  dsimp only
  rw [grown]
  unfold Key.ran
  refine ⟨fun long => ?_, fun short => ?_⟩
  · rw [if_neg fun ran => absurd (of_decide_eq_true ran) (Nat.not_le.2 long)]
  · rw [if_pos (decide_eq_true short)]
    rfl

/-! ### Held keys (R98) -/

theorem Key.checkRepeat_key (k : Key) (i : ScanInput) : ∃ next, (k.checkRepeat i).key = { k with nextRepeat := next } := by
  unfold Key.checkRepeat
  split
  · exact ⟨k.nextRepeat, rfl⟩
  · split
    · exact ⟨_, rfl⟩
    · exact ⟨k.nextRepeat, rfl⟩

/-- A closed key in DOWN at a scan, with no release run (R98, R102). -/
theorem Key.checkStuck_key (i : ScanInput) (down : k.state = .down) (still : k.run = 0) :
    let y := (k.checkStuck i).key
    let stuck := stuckTime i.mem * 1000 ≤ k.elapsed i.now
    (stuck → y.state = .stuck ∧ y.run = 0 ∧ y.nextRepeat = none ∧ y.downTime = k.downTime) ∧
    (¬ stuck → y.state = .down ∧ y.run = 0 ∧ y.latched = k.latched ∧ y.downTime = k.downTime) := by
  dsimp only
  unfold Key.checkStuck
  refine ⟨fun long => ?_, fun short => ?_⟩
  · rw [if_pos long]
    exact ⟨rfl, rfl, rfl, rfl⟩
  · rw [if_neg short]
    obtain ⟨next, same⟩ := k.checkRepeat_key i
    rw [same]
    exact ⟨down, still, rfl, rfl⟩

/-! ### A machine's state at a scan -/

theorem Key.scan_up (state : k.state = .up) : k.scan i p closed ghost = if !closed then { key := k }
    else if ghost then { key := { k.noRun with state := .blocked }, counted := some .ghostBlocks } else k.noRun.press i p := by
  unfold Key.scan
  rw [state]

theorem Key.scan_pressing (state : k.state = .pressing) : k.scan i p closed ghost =
    if closed then k.press i p else k.enterUp none := by
  unfold Key.scan
  rw [state]

theorem Key.scan_down (state : k.state = .down) : k.scan i p closed ghost =
    if closed then k.checkStuck i else ({ k.noRun with state := .releasing } : Key).release i (some .up) := by
  unfold Key.scan
  rw [state]

theorem Key.scan_releasing (state : k.state = .releasing) : k.scan i p closed ghost =
    if closed then ({ k.noRun with state := .down } : Key).checkStuck i else k.release i (some .up) := by
  unfold Key.scan
  rw [state]

theorem Key.scan_stuck (state : k.state = .stuck) : k.scan i p closed ghost =
    if closed then { key := k.noRun } else k.release i (some .freed) := by
  unfold Key.scan
  rw [state]

theorem Key.scan_blocked (state : k.state = .blocked) : k.scan i p closed ghost =
    if !closed then k.release i none else if ghost then { key := k.noRun } else k.noRun.press i p := by
  unfold Key.scan
  rw [state]

/-- A position's machine at a scan, state by state (R95 to R100). -/
theorem Key.scan_machine (k : Key) (i : ScanInput) (p : Fin 64) {closed ghost : Bool} {Ghost : Prop} (ghosted : ghost = true ↔ Ghost) :
    let y := (k.scan i p closed ghost).key
    let factor := if i.cold = true then 2 else 1
    let np := pressCount i.mem * factor
    let nr := releaseCount i.mem * factor
    let stuck := stuckTime i.mem * 1000 ≤ k.elapsed i.now
    let releases : Prop :=
      (k.run = 0 → 1 < nr → y = { k with run := 1, target := nr }) ∧ (k.run = 0 → nr ≤ 1 → y = {}) ∧
      (k.run ≠ 0 → k.run + 1 < k.target → y = { k with run := k.run + 1 }) ∧
      (k.run ≠ 0 → k.target ≤ k.run + 1 → y = {})
    let presses : Prop :=
      (1 < np → y.state = .pressing ∧ y.run = 1 ∧ y.target = np) ∧ (np ≤ 1 → y.state = .down)
    let held : Prop := (stuck → y.state = .stuck ∧ y.run = 0 ∧ y.nextRepeat = none ∧ y.downTime = k.downTime) ∧
      (¬ stuck → y.state = .down ∧ y.run = 0 ∧ y.latched = k.latched ∧ y.downTime = k.downTime)
    (k.state = .up →
      (¬ closed = true → y = k) ∧ (closed = true → Ghost → y.state = .blocked ∧ y.run = 0) ∧
      (closed = true → ¬ Ghost → presses)) ∧
    (k.state = .pressing → (¬ closed = true → y = {}) ∧
      (closed = true → k.run ≠ 0 → k.run + 1 < k.target → y = { k with run := k.run + 1 }) ∧
      (closed = true → k.run ≠ 0 → k.target ≤ k.run + 1 → y.state = .down)) ∧
    (k.state = .down → k.run = 0 → (closed = true → held) ∧
      (¬ closed = true → (1 < nr → y = { k with state := .releasing, run := 1, target := nr }) ∧ (nr ≤ 1 → y = {}))) ∧
    (k.state = .releasing → (closed = true → held) ∧ (¬ closed = true → releases)) ∧
    (k.state = .stuck → (closed = true → y = { k with run := 0, target := 0 }) ∧ (¬ closed = true → releases)) ∧
    (k.state = .blocked →
      (closed = true → Ghost → y = { k with run := 0, target := 0 }) ∧
      (closed = true → ¬ Ghost → presses) ∧ (¬ closed = true → releases)) := by
  dsimp only
  rw [← i.target_eq, ← i.target_eq, ← ghosted]
  refine ⟨fun state => ?_, fun state => ?_, fun state still => ?_, fun state => ?_, fun state => ?_, fun state => ?_⟩
  · rw [Key.scan_up state]
    cases closed
    · exact ⟨fun _ => rfl, nofun, nofun⟩
    · cases ghost
      · exact ⟨fun isOpen => absurd rfl isOpen, nofun, fun _ _ => k.press_begins i p⟩
      · exact ⟨fun isOpen => absurd rfl isOpen, fun _ _ => ⟨rfl, rfl⟩, fun _ clear => absurd rfl clear⟩
  · rw [Key.scan_pressing state]
    cases closed
    · exact ⟨fun _ => rfl, nofun, nofun⟩
    · exact ⟨fun isOpen => absurd rfl isOpen, fun _ run => (Key.press_grows i p state run).1,
        fun _ run => (Key.press_grows i p state run).2⟩
  · rw [Key.scan_down state]
    cases closed
    · obtain ⟨long, short, -⟩ := ({ k.noRun with state := .releasing } : Key).release_key i (some .up)
      exact ⟨nofun, fun _ => ⟨long rfl, short rfl⟩⟩
    · exact ⟨fun _ => Key.checkStuck_key i state still, fun isOpen => absurd rfl isOpen⟩
  · rw [Key.scan_releasing state]
    cases closed
    · exact ⟨nofun, fun _ => k.release_key i (some .up)⟩
    · exact ⟨fun _ => Key.checkStuck_key (k := { k.noRun with state := .down }) i rfl rfl, fun isOpen => absurd rfl isOpen⟩
  · rw [Key.scan_stuck state]
    cases closed
    · exact ⟨nofun, fun _ => k.release_key i (some .freed)⟩
    · exact ⟨fun _ => rfl, fun isOpen => absurd rfl isOpen⟩
  · rw [Key.scan_blocked state]
    cases closed
    · exact ⟨nofun, nofun, fun _ => k.release_key i none⟩
    · cases ghost
      · exact ⟨nofun, fun _ _ => k.press_begins i p, fun isOpen => absurd rfl isOpen⟩
      · exact ⟨fun _ _ => rfl, fun _ clear => absurd rfl clear, fun isOpen => absurd rfl isOpen⟩

/-! ### The scan's keys -/

/-- The KEY reports of a scan, in ascending position order (R103). -/
def scanReports (stamp : DWord) (steps : Vector KeyStep 64) (held : Nat) : List Instr :=
  (indices 64).filterMap fun p => steps[p].report.map fun r =>
    posting stamp .key (BitVec.ofNat 8 (keyKindCode r.1)) false (BitVec.ofNat 8 p.val)
      { w0 := r.2.code.setWidth 32, w1 := r.2.group.setWidth 32, w2 := natWord (p.val / 8 * 256 + p.val % 8)
        w3 := natWord held }

theorem State.reportKeys_eq (s : State) (steps : Vector KeyStep 64) :
    s.reportKeys steps = s.sendAll (scanReports s.uptime steps (heldCount s.keypad.keys)) := by
  unfold State.reportKeys scanReports
  generalize indices 64 = l
  induction l generalizing s with
  | nil => exact (congrArg (fun sent => ({ s with transit := sent } : State)) (List.append_nil _)).symm
  | cons p l ih =>
    rw [List.foldl_cons, List.filterMap_cons]
    rcases steps[p].report with - | r
    · exact ih s
    · exact (ih _).trans (State.sendAll_sendAll s [_] _)

/-- The KEYPAD FAULT check finds a fault (R101). -/
def Keypad.faults (k : Keypad) : Bool := k.faultArmed && decide (3 ≤ countStuck k.keys)

/-- The KEYPAD FAULT report of a scan, if it posts one (R101). -/
def faultReports (stamp : DWord) (k : Keypad) : List Instr :=
  if k.faults = true then [posting stamp .keypadFault 0 true 0
    { w0 := natWord (countStuck k.keys), w1 := (positionsIn k.keys .stuck).setWidth 32
      w2 := (positionsIn k.keys .stuck >>> 32).setWidth 32 }]
  else []

theorem State.checkKeypadFault_eq (s : State) : s.checkKeypadFault = ({ s with keypad := { s.keypad with
    stuckCount := countStuck s.keypad.keys
    faultArmed := if s.keypad.faults = true then false else s.keypad.faultArmed || decide (countStuck s.keypad.keys < 3) } } : State
    ).sendAll (faultReports s.uptime s.keypad) := by
  unfold State.checkKeypadFault faultReports Keypad.faults
  dsimp only
  split
  · rfl
  · exact (congrArg (fun sent => ({ s with transit := sent, keypad := { s.keypad with
      stuckCount := countStuck s.keypad.keys
      faultArmed := s.keypad.faultArmed || decide (countStuck s.keypad.keys < 3) } } : State)) (List.append_nil _)).symm

/-- The keypad before the fault check of a scan. -/
def State.keysScanned (s : State) (reading : BitVec 64) : Keypad := { s.keypad with
  keys := Vector.ofFn fun p : Fin 64 => (s.advanceKeys reading)[p].key
  policyRead := lockPolicy s.mem
  lockedAtScan := s.keypadLocked }

/-- What a scan counts (R96, R98, R100). -/
def State.scanCounts (s : State) (reading : BitVec 64) : List Instr :=
  (s.advanceKeys reading).toList.filterMap fun x => x.counted.map Instr.counterIncrement

theorem State.scanKeys_eq (s : State) (reading : BitVec 64) : s.scanKeys reading = { s with
    keypad := { s.keysScanned reading with
      stuckCount := countStuck (s.keysScanned reading).keys
      faultArmed := if (s.keysScanned reading).faults = true then false
        else (s.keysScanned reading).faultArmed || decide (countStuck (s.keysScanned reading).keys < 3) }
    transit := s.transit ++ s.scanCounts reading ++ faultReports s.uptime (s.keysScanned reading)
      ++ scanReports s.uptime (s.advanceKeys reading) (heldCount (s.keysScanned reading).keys) } := by
  have closed (k : Keypad) (counts : List Instr) (steps : Vector KeyStep 64) :
      (({ s with keypad := k } : State).sendAll counts).checkKeypadFault.reportKeys steps = { s with
        keypad := { k with
          stuckCount := countStuck k.keys
          faultArmed := if k.faults = true then false else k.faultArmed || decide (countStuck k.keys < 3) }
        transit := s.transit ++ counts ++ faultReports s.uptime k ++ scanReports s.uptime steps (heldCount k.keys) } := by
    rw [State.reportKeys_eq, State.checkKeypadFault_eq]
    rfl
  exact closed (s.keysScanned reading) (s.scanCounts reading) (s.advanceKeys reading)

theorem State.scanKeys_clock (s : State) (reading : BitVec 64) : (s.scanKeys reading).clock = s.clock := by
  rw [State.scanKeys_eq]

theorem State.scanKeys_transit (s : State) (reading : BitVec 64) : (s.scanKeys reading).transit =
    s.transit ++ s.scanCounts reading ++ faultReports s.uptime (s.keysScanned reading)
      ++ scanReports s.uptime (s.advanceKeys reading) (heldCount (s.keysScanned reading).keys) := by
  rw [State.scanKeys_eq]

/-- The keypad at the end of a scan whose machines have made k of it (R101). -/
def Keypad.checked (k : Keypad) : Keypad := { k with
  stuckCount := countStuck k.keys
  faultArmed := if k.faults = true then false else k.faultArmed || decide (countStuck k.keys < 3) }

theorem State.scanKeys_keypad (s : State) (reading : BitVec 64) : (s.scanKeys reading).keypad = (s.keysScanned reading).checked := by
  rw [State.scanKeys_eq]
  rfl

theorem State.scanKeys_keys (s : State) (reading : BitVec 64) (p : Fin 64) : (s.scanKeys reading).keypad.keys[p] =
    (s.keypad.keys[p].scan s.scanInput p (reading.getLsbD p.val) (completesRectangle reading p)).key := by
  rw [State.scanKeys_keypad]
  exact (ofFn_get (fun p : Fin 64 => (s.advanceKeys reading)[p].key) p).trans (congrArg KeyStep.key (ofFn_get _ p))

end Sys2Proof.Machine

namespace Sys2Proof.Settled

open Sys2Proof Sys2Proof.Machine Host

/-- Settles O35: the machine's branches, state by state. -/
theorem keyMachines : Obligations.KeyMachines := by
  intro reading s due p set
  refine ⟨_, exec_keypadScan set reading, ?_⟩
  obtain ⟨clock, keypad, -⟩ := ((s.atScan due).scanKeys reading).handOff_keysLeft
    (heldSet ((s.atScan due).scanKeys reading).keypad.keys)
  have scanned := (s.atScan due).scanKeys_keys reading p
  have uptime : ((s.atScan due).scanKeys reading).clock = (s.atScan due).clock := (s.atScan due).scanKeys_clock reading
  generalize ((s.atScan due).scanKeys reading).handOff (heldSet ((s.atScan due).scanKeys reading).keypad.keys) = t
    at clock keypad ⊢
  generalize (s.atScan due).scanKeys reading = m at clock keypad scanned uptime
  have here : t.keypad.keys[p] = m.keypad.keys[p] := by rw [keypad]
  have now : t.uptime = (s.atScan due).scanInput.now := by
    unfold State.uptime
    rw [clock, uptime]
    rfl
  have ghosted := completesRectangle_iff reading p
  dsimp only
  rw [here, scanned, now]
  exact Key.scan_machine _ _ p ghosted

end Sys2Proof.Settled
end

section
/-! SUPPORT. The reports and counts of a scan (R96, R98 to R105). Obligation O36. -/

namespace Sys2Proof.Machine

open Sys2Proof Host

variable {s t : State} {k : Key} {i : ScanInput} {p : Fin 64} {closed ghost : Bool}

/-! ### What a machine reports (R96 to R99, R102) -/

theorem Key.release_held (k : Key) (i : ScanInput) (kind : Option KeyKind) :
    k.release i kind = { key := {}, report := kind.bind k.reports } ∨
    ((k.release i kind).key.state = k.state ∧ (k.release i kind).report = none) := by
  unfold Key.release
  dsimp only
  split
  · refine .inl ?_
    unfold Key.enterUp Key.grow
    split <;> rfl
  · refine .inr ⟨?_, rfl⟩
    unfold Key.grow
    split <;> rfl

theorem Key.press_fresh (k : Key) (i : ScanInput) (p : Fin 64) :
    (∃ x : Key, k.press i p = x.enterDown i p) ∨
    ((k.press i p).key.state = .pressing ∧ (k.press i p).report = none) := by
  unfold Key.press
  dsimp only
  split
  · exact .inl ⟨_, rfl⟩
  · exact .inr ⟨rfl, rfl⟩

/-- A position that is neither held nor stuck enters DOWN, or reports nothing (R95, R100). -/
theorem Key.scan_fresh (state : k.state = .up ∨ k.state = .pressing ∨ k.state = .blocked) :
    (∃ x : Key, k.scan i p closed ghost = x.enterDown i p) ∨
    ((k.scan i p closed ghost).key.state ≠ .down ∧ (k.scan i p closed ghost).report = none ∧
      (k.state = .up → (k.scan i p closed ghost).key.state = .blocked →
        (k.scan i p closed ghost).counted = some .ghostBlocks)) := by
  have pressed (x : Key) : (∃ x' : Key, x.press i p = x'.enterDown i p) ∨ ((x.press i p).key.state ≠ .down ∧ (x.press i p).report = none ∧
      (k.state = .up → (x.press i p).key.state = .blocked → (x.press i p).counted = some .ghostBlocks)) := by
    refine (x.press_fresh i p).imp id fun ⟨pressing, silent⟩ => ?_
    rw [pressing]
    exact ⟨by decide, silent, nofun⟩
  rcases state with state | state | state
  · rw [Key.scan_up state]
    split
    · exact .inr ⟨by rw [state]; decide, rfl, fun _ blocked => nomatch state.symm.trans blocked⟩
    · split
      · exact .inr ⟨fun down => (nomatch (show KeyState.blocked = .down from down)), rfl, fun _ _ => rfl⟩
      · exact pressed _
  · rw [Key.scan_pressing state]
    split
    · exact pressed k
    · exact .inr ⟨fun down => (nomatch (show KeyState.up = .down from down)), rfl, fun up => nomatch state.symm.trans up⟩
  · rw [Key.scan_blocked state]
    split
    · refine .inr ?_
      rcases k.release_held i none with up | ⟨same, silent⟩
      · rw [up]
        exact ⟨fun down => (nomatch (show KeyState.up = .down from down)), rfl, fun up => nomatch state.symm.trans up⟩
      · rw [same, state]
        exact ⟨by decide, silent, nofun⟩
    · split
      · exact .inr ⟨by rw [show k.noRun.state = .blocked from state]; decide, rfl, fun up => nomatch state.symm.trans up⟩
      · exact pressed _

/-- The repeat check finds the next repeat time reached (R102). -/
def Key.Repeats (k : Key) (i : ScanInput) (n : DWord) : Prop := k.nextRepeat = some n ∧ k.elapsed n ≤ k.elapsed i.now

/-- What became of a held key at a scan: stuck, repeated, still down, or let go (R97, R98, R102). -/
inductive HeldOutcome (k : Key) (i : ScanInput) (closed : Bool) (y : KeyStep) : Prop
  | stuck (shut : closed = true) (state : y.key.state = .stuck) (counted : y.counted = some .stuck)
      (report : y.report = k.reports .stuck)
  | repeated (shut : closed = true) (state : y.key.state = .down) (n : DWord) (due : k.Repeats i n)
      (next : y.key.nextRepeat = some
        (if k.elapsed i.now < k.elapsed (n + natWord (repeatInterval i.mem)) then n + natWord (repeatInterval i.mem)
          else i.now + natWord (repeatInterval i.mem)))
      (report : y.report = if i.locked then none else k.reports .rep)
  | waits (shut : closed = true) (state : y.key.state = .down) (early : ∀ n, ¬ k.Repeats i n)
      (next : y.key.nextRepeat = k.nextRepeat) (report : y.report = none)
  | up (isOpen : closed = false) (state : y.key.state = .up) (report : y.report = k.reports .up)
  | releasing (isOpen : closed = false) (state : y.key.state = .releasing) (report : y.report = none)

theorem Key.checkStuck_outcome (i : ScanInput) (down : k.state = .down) : HeldOutcome k i true (k.checkStuck i) := by
  unfold Key.checkStuck
  split
  · exact .stuck rfl rfl rfl rfl
  · unfold Key.checkRepeat
    split
    next never => exact .waits rfl down (fun n ⟨set, _⟩ => nomatch never.symm.trans set) rfl rfl
    next n set =>
      split
      next due => exact .repeated rfl down n ⟨set, due⟩ rfl rfl
      next early =>
        refine .waits rfl down (fun m ⟨set', due⟩ => ?_) rfl rfl
        rw [Option.some.inj (set.symm.trans set')] at early
        exact early due

theorem HeldOutcome.of_key {x : Key} {y : KeyStep} (h : HeldOutcome x i closed y) (latched : x.latched = k.latched)
    (downTime : x.downTime = k.downTime) (nextRepeat : x.nextRepeat = k.nextRepeat) (unreported : x.unreported = k.unreported) :
    HeldOutcome k i closed y := by
  have reports : x.reports = k.reports := by
    unfold Key.reports Key.used Key.entry
    rw [latched, unreported]
  have elapsed : x.elapsed = k.elapsed := by
    unfold Key.elapsed
    rw [downTime]
  have repeats : x.Repeats i = k.Repeats i := by
    unfold Key.Repeats
    rw [nextRepeat, elapsed]
  cases h with
  | stuck shut state counted report => exact .stuck shut state counted (reports ▸ report)
  | repeated shut state n due next report => exact .repeated shut state n (repeats ▸ due) (elapsed ▸ next) (reports ▸ report)
  | waits shut state early next report => exact .waits shut state (repeats ▸ early) (next.trans nextRepeat) report
  | up isOpen state report => exact .up isOpen state (reports ▸ report)
  | releasing isOpen state report => exact .releasing isOpen state report

theorem Key.release_outcome (i : ScanInput) (state : k.state = .releasing) : HeldOutcome k i false (k.release i (some .up)) := by
  rcases k.release_held i (some .up) with up | ⟨same, silent⟩
  · rw [up]
    exact .up rfl rfl rfl
  · exact .releasing rfl (same.trans state) silent

/-- A held key at a scan (R97, R98, R102). -/
theorem Key.scan_held (held : k.state = .down ∨ k.state = .releasing) : HeldOutcome k i closed (k.scan i p closed ghost) := by
  rcases held with state | state
  · rw [Key.scan_down state]
    cases closed
    · exact (Key.release_outcome (k := { k.noRun with state := .releasing }) i rfl).of_key rfl rfl rfl rfl
    · exact Key.checkStuck_outcome i state
  · rw [Key.scan_releasing state]
    cases closed
    · exact Key.release_outcome i state
    · exact (Key.checkStuck_outcome (k := { k.noRun with state := .down }) i rfl).of_key rfl rfl rfl rfl

/-- A stuck key at a scan (R99). -/
theorem Key.scan_freed (state : k.state = .stuck) :
    (k.scan i p closed ghost).key.state = .stuck ∧ (k.scan i p closed ghost).report = none ∨
    (k.scan i p closed ghost).key.state = .up ∧ (k.scan i p closed ghost).report = k.reports .freed := by
  rw [Key.scan_stuck state]
  split
  · exact .inl ⟨state, rfl⟩
  · rcases k.release_held i (some .freed) with up | ⟨same, silent⟩
    · rw [up]
      exact .inr ⟨rfl, rfl⟩
    · exact .inl ⟨same.trans state, silent⟩

/-! ### The figures of a scan (R101, R103) -/

theorem Key.used_eq (k : Key) : k.used = k.latched.any fun e => decide (e.code ≠ 0#7) := by
  unfold Key.used Key.entry
  cases k.latched <;> rfl

theorem Key.reports_latched {g : KeyEntry} (kind : KeyKind) (latched : k.latched = some g) (used : g.code ≠ 0#7)
    (reported : k.unreported = false) : k.reports kind = some (kind, g) := by
  have entry : k.entry = g := by
    unfold Key.entry
    rw [latched]
    rfl
  unfold Key.reports Key.used
  rw [entry, reported, decide_eq_true used]
  rfl

theorem Key.reports_unreported (kind : KeyKind) (unreported : k.unreported = true) : k.reports kind = none := by
  unfold Key.reports
  rw [unreported, Bool.not_true, Bool.and_false]
  rfl

theorem Key.reports_kind {kind : KeyKind} {r : KeyKind × KeyEntry} (reported : k.reports kind = some r) : r.1 = kind := by
  unfold Key.reports at reported
  split at reported
  · exact (congrArg Prod.fst (Option.some.inj reported)).symm
  · exact nomatch reported

theorem heldCount_eq (keys : Vector Key 64) : heldCount keys = (indices 64).countP fun p : Fin 64 =>
    decide (keys[p].state = .down ∨ keys[p].state = .releasing) && keys[p].latched.any fun e => decide (e.code ≠ 0#7) := by
  unfold heldCount Key.held
  simp only [Key.used_eq]

theorem positionsIn_bit (keys : Vector Key 64) (st : KeyState) (q : Fin 64) :
    (positionsIn keys st).getLsbD q.val = true ↔ keys[q].state = st := by
  have folded (l : List (Fin 64)) (acc : BitVec 64) :
      (l.foldl (fun acc p => if keys[p].state = st then acc ||| (1#64 <<< p.val) else acc) acc).getLsbD q.val = true ↔
        acc.getLsbD q.val = true ∨ q ∈ l ∧ keys[q].state = st := by
    induction l generalizing acc with
    | nil => simp
    | cons p l ih =>
      have bit : (1#64 <<< p.val).getLsbD q.val = decide (q = p) := by
        have := q.isLt
        have := p.isLt
        rw [BitVec.getLsbD_shiftLeft, Bool.eq_iff_iff]
        simp only [Bool.and_eq_true, decide_eq_true_eq, BitVec.getLsbD_one, Bool.not_eq_true', decide_eq_false_iff_not, Fin.ext_iff]
        omega
      rw [List.foldl_cons, ih, List.mem_cons]
      split
      next here =>
        rw [BitVec.getLsbD_or, bit, Bool.or_eq_true, decide_eq_true_eq]
        constructor
        · rintro ((before | rfl) | ⟨later, state⟩)
          · exact .inl before
          · exact .inr ⟨.inl rfl, here⟩
          · exact .inr ⟨.inr later, state⟩
        · rintro (before | ⟨same | later, state⟩)
          · exact .inl (.inl before)
          · exact .inl (.inr same)
          · exact .inr ⟨later, state⟩
      next other =>
        constructor
        · exact Or.imp id fun ⟨later, state⟩ => ⟨.inr later, state⟩
        · rintro (before | ⟨rfl | later, state⟩)
          · exact .inl before
          · exact absurd state other
          · exact .inr ⟨later, state⟩
  unfold positionsIn
  rw [folded]
  simp

/-! ### The events of a scan -/

theorem State.mem_scanCounts {c : Counter} {reading : BitVec 64} (counted : (s.advanceKeys reading)[p].counted = some c) :
    .counterIncrement c ∈ s.scanCounts reading := by
  refine List.mem_filterMap.2 ⟨(s.advanceKeys reading)[p], Vector.mem_toList_iff.2 (Vector.getElem_mem _), ?_⟩
  rw [counted]
  rfl

/-- The KEY report of a position (R103). -/
def keyReport (stamp : DWord) (held : Nat) (p : Fin 64) (r : KeyKind × KeyEntry) : Instr :=
  posting stamp .key (BitVec.ofNat 8 (keyKindCode r.1)) false (BitVec.ofNat 8 p.val)
    { w0 := r.2.code.setWidth 32, w1 := r.2.group.setWidth 32, w2 := natWord (p.val / 8 * 256 + p.val % 8)
      w3 := natWord held }

theorem mem_scanReports {stamp : DWord} {steps : Vector KeyStep 64} {held : Nat} {c : Instr} :
    c ∈ scanReports stamp steps held ↔ ∃ p r, steps[p].report = some r ∧ keyReport stamp held p r = c := by
  unfold scanReports
  rw [List.mem_filterMap]
  simp only [mem_indices, true_and, Option.map_eq_some_iff]
  exact Iff.rfl

theorem Keypad.checked_keys (x : Keypad) : x.checked.keys = x.keys := rfl

theorem Keypad.checked_armed (x : Keypad) : x.checked.faultArmed = true ↔ countStuck x.keys < 3 := by
  unfold Keypad.checked Keypad.faults
  dsimp only
  cases x.faultArmed
  · rw [Bool.false_and, if_neg Bool.false_ne_true, Bool.false_or, decide_eq_true_eq]
  · rw [Bool.true_and, Bool.true_or]
    split
    next fault => exact ⟨nofun, fun few => absurd (of_decide_eq_true fault) (Nat.not_le.2 few)⟩
    next none => exact ⟨fun _ => Nat.not_le.1 fun many => none (decide_eq_true many), fun _ => rfl⟩

theorem faultReports_fault (stamp : DWord) {x : Keypad} (armed : x.faultArmed = true) (many : 3 ≤ countStuck x.keys) :
    faultReports stamp x = [posting stamp .keypadFault 0 true 0
      { w0 := natWord (countStuck x.keys), w1 := (positionsIn x.keys .stuck).setWidth 32
        w2 := (positionsIn x.keys .stuck >>> 32).setWidth 32 }] :=
  if_pos (by
    unfold Keypad.faults
    rw [armed, decide_eq_true many]
    rfl)

theorem faultReports_none (stamp : DWord) {x : Keypad} (quiet : x.faultArmed = false ∨ countStuck x.keys < 3) :
    faultReports stamp x = [] := by
  refine if_neg fun fault => ?_
  obtain ⟨armed, many⟩ := Bool.and_eq_true_iff.1 fault
  rcases quiet with disarmed | few
  · exact Bool.false_ne_true (disarmed.symm.trans armed)
  · exact absurd (of_decide_eq_true many) (Nat.not_le.2 few)

/-- The two halves of a set of positions, bit by bit (R101). -/
theorem positions_low (x : BitVec 64) {p : Fin 64} (low : p.val < 32) : (x.setWidth 32).getLsbD p.val = x.getLsbD p.val := by
  rw [BitVec.getLsbD_setWidth, decide_eq_true low, Bool.true_and]

theorem positions_high (x : BitVec 64) {p : Fin 64} (high : 32 ≤ p.val) :
    ((x >>> 32).setWidth 32).getLsbD (p.val - 32) = x.getLsbD p.val := by
  have := p.isLt
  rw [BitVec.getLsbD_setWidth, decide_eq_true (by omega), Bool.true_and, BitVec.getLsbD_ushiftRight]
  congr 1
  omega

/-- Which kinds of report a scan's own events carry (R101, R103). -/
theorem State.scanCounts_kind {reading : BitVec 64} {r : Posting} : .reportPosting r ∉ s.scanCounts reading := by
  intro posted
  obtain ⟨x, -, counted⟩ := List.mem_filterMap.1 posted
  obtain ⟨c, -, same⟩ := Option.map_eq_some_iff.1 counted
  exact nomatch same

theorem faultReports_kind {stamp : DWord} {x : Keypad} {r : Posting} (posted : .reportPosting r ∈ faultReports stamp x) :
    r.kind = .keypadFault := by
  unfold faultReports at posted
  split at posted
  · have same := Instr.reportPosting.inj (List.mem_singleton.1 posted)
    rw [same]
  · exact absurd posted List.not_mem_nil

theorem ofNat_position {p q : Fin 64} (same : BitVec.ofNat 8 p.val = BitVec.ofNat 8 q.val) : p = q := by
  have values := congrArg BitVec.toNat same
  rw [BitVec.toNat_ofNat, BitVec.toNat_ofNat] at values
  have := p.isLt
  have := q.isLt
  exact Fin.ext (by omega)

/-! ### A position's reports and counts -/

section
variable {y : KeyStep} {sent : List Instr} {held : Nat} {Locked : Prop}

theorem Key.enterDown_posts (x : Key) (i : ScanInput) (p : Fin 64) (locked : Locked ↔ i.locked = true)
    (counted : ∀ c, (x.enterDown i p).counted = some c → .counterIncrement c ∈ sent)
    (reported : ∀ r, (x.enterDown i p).report = some r → keyReport i.now held p r ∈ sent) :
    let y := (x.enterDown i p).key
    let e := keyEntry i.mem p
    y.latched = some e ∧ y.downTime = some i.now ∧ (y.unreported = true ↔ Locked) ∧
    y.nextRepeat = (if e.rep = true then some (i.now + natWord (repeatDelay i.mem)) else none) ∧
    (e.code ≠ 0#7 → .counterIncrement .keyDowns ∈ sent) ∧
    (e.code ≠ 0#7 → ¬ Locked → keyReport i.now held p (.down, e) ∈ sent) := by
  refine ⟨rfl, rfl, locked.symm, rfl, fun used => counted _ ?_, fun used unlocked => reported _ ?_⟩
  · exact if_pos (decide_eq_true used)
  · exact Key.reports_latched .down rfl used (Bool.not_eq_true _ ▸ fun on => unlocked (locked.2 on))

theorem keyKindCode_rep {kind : KeyKind} (code : BitVec.ofNat 8 (keyKindCode kind) = 3#8) : kind = .rep := by
  revert code
  cases kind <;> decide

theorem Key.state_cases (k : Key) : (k.state = .up ∨ k.state = .pressing ∨ k.state = .blocked) ∨
    (k.state = .down ∨ k.state = .releasing) ∨ k.state = .stuck := by
  cases k.state <;> simp

/-- What a position's machine counts and reports at a scan whose events are `sent` (R96 to R99, R102, R103, R105). -/
theorem Key.scan_posts (k : Key) (i : ScanInput) (p : Fin 64) (locked : Locked ↔ i.locked = true)
    (counted : ∀ c, (k.scan i p closed ghost).counted = some c → .counterIncrement c ∈ sent)
    (reported : ∀ r, (k.scan i p closed ghost).report = some r → keyReport i.now held p r ∈ sent)
    (found : ∀ r : Posting, .reportPosting r ∈ sent → r.kind = .key → r.source = BitVec.ofNat 8 p.val →
      ∃ x, (k.scan i p closed ghost).report = some x ∧ .reportPosting r = keyReport i.now held p x) :
    let y := (k.scan i p closed ghost).key
    let e := keyEntry i.mem p
    let since (n : DWord) : DWord := n - k.downTime.getD n
    let interval := natWord (repeatInterval i.mem)
    let repeats (n : DWord) : Prop := k.nextRepeat = some n ∧ (since n).toNat ≤ (since i.now).toNat
    let posted (sub : Byte) (g : KeyEntry) : Prop :=
      posting i.now .key sub false (BitVec.ofNat 8 p.val)
        { w0 := g.code.setWidth 32, w1 := g.group.setWidth 32, w2 := natWord (p.val / 8 * 256 + p.val % 8)
          w3 := natWord held } ∈ sent
    let wasHeld : Prop := k.state = .down ∨ k.state = .releasing
    (k.state = .up ∨ k.state = .pressing ∨ k.state = .blocked → y.state = .down →
      y.latched = some e ∧ y.downTime = some i.now ∧ (y.unreported = true ↔ Locked) ∧
      y.nextRepeat = (if e.rep = true then some (i.now + natWord (repeatDelay i.mem)) else none) ∧
      (e.code ≠ 0#7 → .counterIncrement .keyDowns ∈ sent) ∧
      (e.code ≠ 0#7 → ¬ Locked → posted 1 e)) ∧
    (wasHeld → y.state = .down → closed = true →
      (∀ n, repeats n → y.nextRepeat = some
        (if (since i.now).toNat < (since (n + interval)).toNat then n + interval else i.now + interval)) ∧
      ((∀ n, k.nextRepeat = some n → ¬ repeats n) → y.nextRepeat = k.nextRepeat)) ∧
    (∀ g : KeyEntry, k.latched = some g → g.code ≠ 0#7 → k.unreported = false →
      (wasHeld → y.state = .up → posted 2 g) ∧ (k.state = .stuck → y.state = .up → posted 5 g) ∧
      (wasHeld → y.state = .stuck → posted 4 g) ∧
      (∀ n, wasHeld → y.state = .down → closed = true → repeats n → ¬ Locked → posted 3 g)) ∧
    (∀ r : Posting, .reportPosting r ∈ sent → r.kind = .key → r.subkind = 3#8 → r.source = BitVec.ofNat 8 p.val →
      y.state = .down ∧ ¬ Locked ∧ ∃ n, k.nextRepeat = some n ∧ repeats n) ∧
    (wasHeld → y.state = .stuck → .counterIncrement .stuck ∈ sent) ∧
    (k.state = .up → y.state = .blocked → .counterIncrement .ghostBlocks ∈ sent) ∧
    (k.unreported = true → wasHeld ∨ k.state = .stuck →
      ∀ r : Posting, .reportPosting r ∈ sent → r.kind = .key → r.source ≠ BitVec.ofNat 8 p.val) := by
  have outcome := k.scan_held (i := i) (p := p) (closed := closed) (ghost := ghost)
  have freed := k.scan_freed (i := i) (p := p) (closed := closed) (ghost := ghost)
  have fresh := k.scan_fresh (i := i) (p := p) (closed := closed) (ghost := ghost)
  generalize k.scan i p closed ghost = y at *
  refine ⟨fun state down => ?_, fun was down shut => ?_, fun g latched used shown => ⟨fun was up => ?_, fun was up => ?_,
    fun was stuck => ?_, fun n was down shut repeats unlocked => ?_⟩, fun r posted kind sub source => ?_, fun was stuck => ?_,
    fun was blocked => ?_, fun hidden was r posted kind source => ?_⟩
  · rcases fresh state with ⟨x, rfl⟩ | ⟨other, -⟩
    · exact x.enterDown_posts i p locked counted reported
    · exact absurd down other
  · cases outcome was with
    | repeated _ _ n due next _ =>
      refine ⟨fun m repeats => ?_, fun none => absurd due (none n due.1)⟩
      rw [Option.some.inj (repeats.1.symm.trans due.1)]
      exact next
    | waits _ _ early next _ => exact ⟨fun n repeats => absurd repeats (early n), fun _ => next⟩
    | stuck _ state _ _ => exact nomatch state.symm.trans down
    | up isOpen _ _ => exact absurd (isOpen.symm.trans shut) Bool.false_ne_true
    | releasing isOpen _ _ => exact absurd (isOpen.symm.trans shut) Bool.false_ne_true
  · cases outcome was with
    | up _ _ report => exact reported _ (report.trans (Key.reports_latched .up latched used shown))
    | stuck _ state _ _ => exact nomatch state.symm.trans up
    | repeated _ state _ _ _ _ => exact nomatch state.symm.trans up
    | waits _ state _ _ _ => exact nomatch state.symm.trans up
    | releasing _ state _ => exact nomatch state.symm.trans up
  · rcases freed was with ⟨stuck, -⟩ | ⟨-, report⟩
    · exact nomatch stuck.symm.trans up
    · exact reported _ (report.trans (Key.reports_latched .freed latched used shown))
  · cases outcome was with
    | stuck _ _ _ report => exact reported _ (report.trans (Key.reports_latched .stuck latched used shown))
    | up _ state _ => exact nomatch state.symm.trans stuck
    | repeated _ state _ _ _ _ => exact nomatch state.symm.trans stuck
    | waits _ state _ _ _ => exact nomatch state.symm.trans stuck
    | releasing _ state _ => exact nomatch state.symm.trans stuck
  · cases outcome was with
    | repeated _ _ _ _ _ report =>
      refine reported _ (report.trans ((if_neg fun on => unlocked (locked.2 on)).trans (Key.reports_latched .rep latched used shown)))
    | waits _ _ early _ _ => exact absurd repeats (early n)
    | stuck _ state _ _ => exact nomatch state.symm.trans down
    | up isOpen _ _ => exact absurd (isOpen.symm.trans shut) Bool.false_ne_true
    | releasing isOpen _ _ => exact absurd (isOpen.symm.trans shut) Bool.false_ne_true
  · obtain ⟨x, report, same⟩ := found r posted kind source
    have isRep : x.1 = .rep := keyKindCode_rep ((congrArg Posting.subkind (Instr.reportPosting.inj same)).symm.trans sub)
    rcases k.state_cases with other | was | was
    · rcases fresh other with ⟨z, rfl⟩ | ⟨-, silent, -⟩
      · exact nomatch (Key.reports_kind report).symm.trans isRep
      · exact nomatch report.symm.trans silent
    · cases outcome was with
      | repeated _ state n due _ repeatReport =>
        refine ⟨state, fun on => ?_, n, due.1, due⟩
        rw [repeatReport, if_pos (locked.1 on)] at report
        exact nomatch report
      | waits _ _ _ _ silent => exact nomatch report.symm.trans silent
      | stuck _ _ _ other => exact nomatch (Key.reports_kind (other.symm.trans report)).symm.trans isRep
      | up _ _ other => exact nomatch (Key.reports_kind (other.symm.trans report)).symm.trans isRep
      | releasing _ _ silent => exact nomatch report.symm.trans silent
    · rcases freed was with ⟨-, silent⟩ | ⟨-, other⟩
      · exact nomatch report.symm.trans silent
      · exact nomatch (Key.reports_kind (other.symm.trans report)).symm.trans isRep
  · cases outcome was with
    | stuck _ _ counts _ => exact counted _ counts
    | up _ state _ => exact nomatch state.symm.trans stuck
    | repeated _ state _ _ _ _ => exact nomatch state.symm.trans stuck
    | waits _ state _ _ _ => exact nomatch state.symm.trans stuck
    | releasing _ state _ => exact nomatch state.symm.trans stuck
  · rcases fresh (.inl was) with ⟨x, rfl⟩ | ⟨-, -, counts⟩
    · exact nomatch (show KeyState.down = .blocked from blocked)
    · exact counted _ (counts was blocked)
  · obtain ⟨x, report, -⟩ := found r posted kind source
    have silent (kind : KeyKind) : k.reports kind = none := Key.reports_unreported kind hidden
    rcases was with held | stuck
    · cases outcome held with
      | repeated _ _ _ _ _ other =>
        rw [silent, ite_self] at other
        exact nomatch report.symm.trans other
      | waits _ _ _ _ none => exact nomatch report.symm.trans none
      | stuck _ _ _ other => exact nomatch report.symm.trans (other.trans (silent _))
      | up _ _ other => exact nomatch report.symm.trans (other.trans (silent _))
      | releasing _ _ none => exact nomatch report.symm.trans none
    · rcases freed stuck with ⟨-, none⟩ | ⟨-, other⟩
      · exact nomatch report.symm.trans none
      · exact nomatch report.symm.trans (other.trans (silent _))

end

end Sys2Proof.Machine

namespace Sys2Proof.Settled

open Sys2Proof Sys2Proof.Machine Host

/-- Settles O36: each machine's own outcome, and its counts and reports among the scan's. -/
theorem keyReports : Obligations.KeyReports := by
  intro reading s due set
  have ran := exec_keypadScan set reading
  obtain ⟨m, hm⟩ : ∃ m, m = s.atScan due := ⟨_, rfl⟩
  rw [← hm] at ran
  obtain ⟨clock, keypad, hand, events, others⟩ := (m.scanKeys reading).handOff_keysLeft (heldSet (m.scanKeys reading).keypad.keys)
  generalize (m.scanKeys reading).handOff (heldSet (m.scanKeys reading).keypad.keys) = t at clock keypad events ran
  rw [State.scanKeys_clock] at clock
  rw [State.scanKeys_keypad] at keypad
  rw [State.scanKeys_transit] at events
  obtain ⟨k, hk⟩ : ∃ k, k = m.keysScanned reading := ⟨_, rfl⟩
  rw [← hk] at keypad events
  have armed : k.faultArmed = s.keypad.faultArmed := by simp only [hk, hm, State.keysScanned, State.atScan]
  have nextScan : k.nextScan = some (due + scanPeriod s.mem * 1000) := by simp only [hk, hm, State.keysScanned, State.atScan]
  have steps (p : Fin 64) : (m.advanceKeys reading)[p] =
      s.keypad.keys[p].scan m.scanInput p (reading.getLsbD p.val) (completesRectangle reading p) := by
    rw [hm]
    exact ofFn_get _ p
  have scanned (p : Fin 64) : k.keys[p] = (m.advanceKeys reading)[p].key := by
    simp only [hk, State.keysScanned]
    exact ofFn_get (fun p : Fin 64 => (m.advanceKeys reading)[p].key) p
  have before : m.transit = s.transit := by rw [hm]; rfl
  have now : m.uptime = t.uptime := by
    unfold State.uptime
    rw [clock]
  have moment : t.clock = max s.clock due := clock.trans (by rw [hm]; rfl)
  refine ⟨t, m.scanCounts reading ++ faultReports t.uptime k
    ++ scanReports t.uptime (m.advanceKeys reading) (heldCount k.keys) ++ hand, ran, ?_, moment, ?_, ?_⟩
  · rw [events, before, now]
    simp only [List.append_assoc]
  · rw [keypad]
    exact nextScan
  · rw [keypad]
    dsimp only
    rw [← heldCount_eq]
    refine ⟨⟨rfl, ?_, ?_, ?_⟩, fun p => ?_⟩
    · exact k.checked_armed
    · intro wasArmed many
      refine ⟨(positionsIn k.keys .stuck).setWidth 32, (positionsIn k.keys .stuck >>> 32).setWidth 32, ?_, fun q low => ?_,
        fun q high => ?_⟩
      · rw [faultReports_fault t.uptime (armed.trans wasArmed) many]
        simp only [List.mem_append, List.mem_singleton]
        exact .inl (.inl (.inr rfl))
      · rw [positions_low _ low]
        exact positionsIn_bit k.keys .stuck q
      · rw [positions_high _ high]
        exact positionsIn_bit k.keys .stuck q
    · intro quiet r posted
      rw [faultReports_none t.uptime (quiet.imp armed.trans id)] at posted
      rcases List.mem_append.1 posted with scan | after
      · rcases List.mem_append.1 scan with counts | reports
        · exact absurd ((List.append_nil _) ▸ counts) State.scanCounts_kind
        · obtain ⟨q, x, -, same⟩ := mem_scanReports.1 reports
          rw [← Instr.reportPosting.inj same]
          exact nofun
      · exact fun fault => absurd (others _ after) (by
          simp [keyEvent, fault])
    · have here : k.checked.keys[p] = (m.advanceKeys reading)[p].key := by rw [Keypad.checked_keys, scanned]
      rw [here]
      have step := steps p
      have counted : ∀ c, (m.advanceKeys reading)[p].counted = some c → .counterIncrement c ∈ m.scanCounts reading
          ++ faultReports t.uptime k ++ scanReports t.uptime (m.advanceKeys reading) (heldCount k.keys) ++ hand :=
        fun c counts => List.mem_append_left _ (List.mem_append_left _ (List.mem_append_left _ (State.mem_scanCounts counts)))
      have reported : ∀ r, (m.advanceKeys reading)[p].report = some r → keyReport t.uptime (heldCount k.keys) p r ∈
          m.scanCounts reading ++ faultReports t.uptime k ++ scanReports t.uptime (m.advanceKeys reading) (heldCount k.keys)
          ++ hand :=
        fun r reports => List.mem_append_left _ (List.mem_append_right _ (mem_scanReports.2 ⟨p, r, reports, rfl⟩))
      have found : ∀ r : Posting, .reportPosting r ∈ m.scanCounts reading ++ faultReports t.uptime k
          ++ scanReports t.uptime (m.advanceKeys reading) (heldCount k.keys) ++ hand → r.kind = .key →
          r.source = BitVec.ofNat 8 p.val → ∃ x, (m.advanceKeys reading)[p].report = some x ∧
            Instr.reportPosting r = keyReport t.uptime (heldCount k.keys) p x := by
        intro r posted kind source
        rcases List.mem_append.1 posted with scan | after
        · rcases List.mem_append.1 scan with early | reports
          · rcases List.mem_append.1 early with counts | fault
            · exact absurd counts State.scanCounts_kind
            · exact nomatch kind.symm.trans (faultReports_kind fault)
          · obtain ⟨q, w, reports, same⟩ := mem_scanReports.1 reports
            have position : q = p := ofNat_position ((congrArg Posting.source (Instr.reportPosting.inj same)).trans source)
            subst position
            exact ⟨w, reports, same.symm⟩
        · exact absurd (others _ after) (by simp [keyEvent, kind])
      have mem : m.scanInput.mem = s.mem := by simp only [hm, State.scanInput, State.atScan]
      have locked : s.Locked ↔ m.scanInput.locked = true := by
        simp only [hm, State.scanInput, State.atScan, State.keypadLocked, Bool.or_eq_true, Bool.and_eq_true, decide_eq_true_eq]
      have stamp : t.uptime = m.scanInput.now := now.symm
      generalize m.scanCounts reading ++ faultReports t.uptime k ++ scanReports t.uptime (m.advanceKeys reading) (heldCount k.keys)
        ++ hand = sent at counted reported found ⊢
      rw [← mem, stamp]
      rw [stamp] at reported found
      rw [step] at counted reported found ⊢
      exact Key.scan_posts _ _ p locked counted reported found

end Sys2Proof.Settled
end

section
/-! SUPPORT. A chord at a hand-off: matched, armed and fired (R106, R108 to R111). -/

namespace Sys2Proof.Machine

open Sys2Proof Host

variable {s : State} {n : Fin 8}

/-! ### Key sets (R108) -/

/-- A code is in the key set of a chord's entry (R108). -/
def KeyOf (m : Memory) (n : Fin 8) (code : Nat) : Prop :=
  code ≠ 0 ∧ ∃ i : Fin 3, code = min (m.byte (0x1900 + 8 * n.val + i.val)) 127

theorem mem_chordKeys {m : Memory} {code : Nat} : code ∈ chordKeys m n ↔ KeyOf m n code := by
  unfold chordKeys KeyOf chordBase
  rw [List.mem_filter, decide_eq_true_eq, and_comm]
  refine and_congr_right fun _ => ?_
  simp only [List.map_cons, List.map_nil, List.mem_cons, List.not_mem_nil, or_false]
  constructor
  · rintro (rfl | rfl | rfl)
    · exact ⟨0, rfl⟩
    · exact ⟨1, rfl⟩
    · exact ⟨2, rfl⟩
  · rintro ⟨i, rfl⟩
    match i with
    | 0 => exact .inl rfl
    | 1 => exact .inr (.inl rfl)
    | 2 => exact .inr (.inr rfl)

theorem KeyOf.lt {m : Memory} {code : Nat} (h : KeyOf m n code) : code < 128 := by
  obtain ⟨-, i, same⟩ := h
  omega

theorem sameCodes_iff {a b : List Nat} : sameCodes a b = true ↔ ∀ c, c ∈ a ↔ c ∈ b := by
  unfold sameCodes
  simp only [Bool.and_eq_true, List.all_eq_true, List.contains_iff_mem]
  exact ⟨fun ⟨ab, ba⟩ c => ⟨ab c, ba c⟩, fun same => ⟨fun c => (same c).1, fun c => (same c).2⟩⟩

/-- Two sets of codes below 128 are the same when they agree on those (R108). -/
theorem sameCodes_below {a b : List Nat} {A B : Nat → Prop} (memA : ∀ c, c ∈ a ↔ A c) (memB : ∀ c, c ∈ b ↔ B c)
    (ltA : ∀ c, A c → c < 128) (ltB : ∀ c, B c → c < 128) : sameCodes a b = true ↔ ∀ c : Fin 128, A c.val ↔ B c.val := by
  simp only [sameCodes_iff, memA, memB]
  refine ⟨fun same c => same c, fun same c => ⟨fun h => ?_, fun h => ?_⟩⟩
  · exact (same ⟨c, ltA c h⟩).1 h
  · exact (same ⟨c, ltB c h⟩).2 h

theorem takesPart_iff (m : Memory) (n : Fin 8) : takesPart m n = true ↔
    (∃ c : Fin 128, KeyOf m n c.val) ∧ ¬ ∃ i : Fin 8, i < n ∧ ∀ c : Fin 128, KeyOf m i c.val ↔ KeyOf m n c.val := by
  have nonempty : chordKeys m n ≠ [] ↔ ∃ c : Fin 128, KeyOf m n c.val := by
    refine ⟨fun some => ?_, fun ⟨c, here⟩ none => ?_⟩
    · obtain ⟨c, here⟩ := List.exists_mem_of_ne_nil _ some
      exact ⟨⟨c, (mem_chordKeys.1 here).lt⟩, mem_chordKeys.1 here⟩
    · exact absurd (none ▸ mem_chordKeys.2 here) List.not_mem_nil
  unfold takesPart
  rw [Bool.and_eq_true, decide_eq_true_eq, nonempty, Bool.not_eq_true', ← Bool.not_eq_true, List.any_eq_true]
  refine and_congr_right fun _ => not_congr (exists_congr fun i => ?_)
  rw [Bool.and_eq_true, decide_eq_true_eq, sameCodes_below (fun _ => mem_chordKeys) (fun _ => mem_chordKeys) (fun _ => KeyOf.lt)
    fun _ => KeyOf.lt]
  exact ⟨And.right, fun h => ⟨mem_indices i, h⟩⟩

/-! ### The held codes (R106) -/

/-- The codes of the held set. -/
def heldCodes (keys : Vector Key 64) : List Nat := (heldSet keys).map fun h => h.2.code.toNat

theorem mem_heldSet {keys : Vector Key 64} {h : Fin 64 × KeyEntry} : h ∈ heldSet keys ↔
    (keys[h.1].state = .down ∨ keys[h.1].state = .releasing) ∧ keys[h.1].latched = some h.2 ∧ h.2.code ≠ 0#7 := by
  obtain ⟨p, g⟩ := h
  have latches (k : Key) : k.used = true ∧ k.entry = g ↔ k.latched = some g ∧ g.code ≠ 0#7 := by
    unfold Key.used Key.entry
    rw [decide_eq_true_eq]
    cases k.latched with
    | none => exact ⟨fun ⟨used, _⟩ => absurd rfl used, fun ⟨unset, _⟩ => nomatch unset⟩
    | some g' =>
      constructor
      · rintro ⟨used, rfl⟩
        exact ⟨rfl, used⟩
      · rintro ⟨same, used⟩
        obtain rfl := Option.some.inj same
        exact ⟨used, rfl⟩
  unfold heldSet
  simp only [List.mem_map, List.mem_filter, mem_indices, true_and, Bool.and_eq_true, Prod.mk.injEq]
  constructor
  · rintro ⟨q, ⟨held, used⟩, rfl, entry⟩
    exact ⟨of_decide_eq_true held, (latches _).1 ⟨used, entry⟩⟩
  · rintro ⟨held, latched⟩
    obtain ⟨used, entry⟩ := (latches _).2 latched
    exact ⟨p, ⟨decide_eq_true held, used⟩, rfl, entry⟩

theorem State.holdsCode_iff (s : State) (code : Nat) : code ∈ heldCodes s.keypad.keys ↔ s.HoldsCode code := by
  unfold heldCodes State.HoldsCode
  rw [List.mem_map]
  constructor
  · rintro ⟨⟨p, g⟩, here, rfl⟩
    obtain ⟨held, latched, used⟩ := mem_heldSet.1 here
    exact ⟨fun zero => used (BitVec.eq_of_toNat_eq zero), p, held, by rw [latched]; rfl⟩
  · rintro ⟨used, p, held, latched⟩
    obtain ⟨g, entry, rfl⟩ := Option.map_eq_some_iff.1 latched
    exact ⟨(p, g), mem_heldSet.2 ⟨held, entry, fun zero => used (by rw [zero]; rfl)⟩, rfl⟩

theorem State.HoldsCode.lt {code : Nat} (h : s.HoldsCode code) : code < 128 := by
  obtain ⟨-, p, -, latched⟩ := h
  obtain ⟨g, -, rfl⟩ := Option.map_eq_some_iff.1 latched
  exact g.code.isLt

theorem State.holdsPower_iff (s : State) : ((heldSet s.keypad.keys).any fun h => h.2.power) = true ↔ s.HoldsPower := by
  unfold State.HoldsPower
  rw [List.any_eq_true]
  constructor
  · rintro ⟨⟨p, g⟩, here, power⟩
    obtain ⟨held, latched, used⟩ := mem_heldSet.1 here
    refine ⟨p, held, ?_⟩
    rw [latched, Option.map_some, decide_eq_true used, power]
    rfl
  · rintro ⟨p, held, latched⟩
    obtain ⟨g, entry, both⟩ := Option.map_eq_some_iff.1 latched
    obtain ⟨used, power⟩ := Bool.and_eq_true_iff.1 both
    exact ⟨(p, g), mem_heldSet.2 ⟨held, entry, of_decide_eq_true used⟩, power⟩

/-! ### Actions (R110, R111) -/

/-- The argument a firing shows (R110, log 45). -/
def shownArgument (action word : Nat) : Nat :=
  if action = 1 then min word 5 else if action = 5 then min word 1 else if action = 6 then min word 15 else word

theorem State.chordSend_argument (s : State) (action word : Nat) : (s.chordSend action word).2.argument = shownArgument action word := by
  unfold State.chordSend
  split
  case h_6 =>
    dsimp only
    split <;> rfl
  case h_8 _ one _ _ _ five six _ => exact ((if_neg one).trans ((if_neg five).trans (if_neg six))).symm
  all_goals rfl

theorem State.chordSend_channel (s : State) {action : Nat} (word : Nat) (other : action ≠ 6) :
    (s.chordSend action word).2.channel = none := by
  unfold State.chordSend
  split
  case h_6 => exact absurd rfl other
  all_goals rfl

theorem State.chordSend_sequence (s : State) (word : Nat) : SequenceRequested s (s.chordSend 6 word).1 (headOf word) .chord
    (s.chordSend 6 word).2.refusal (s.chordSend 6 word).2.channel := by
  have requested := s.startSequence_requested (headOf word) .chord
  unfold State.chordSend
  dsimp only
  generalize s.startSequence (headOf word) .chord = r at requested ⊢
  obtain ⟨t, c | code⟩ := r <;> exact requested

theorem chordAction_bounds (m : Memory) (n : Fin 8) : 1 ≤ chordAction m n ∧ chordAction m n ≤ 8 := by
  unfold chordAction
  dsimp only
  split <;> omega

/-- The events of a firing (R111). -/
def firingEvents (stamp : DWord) (action : Nat) (n : Fin 8) (o : ChordOutcome) : List Instr :=
  [.counterIncrement .chordsFired] ++ (if o.refusal = none then [] else [.counterIncrement .chordsRefused])
    ++ [posting stamp .chord (BitVec.ofNat 8 action) false (BitVec.ofNat 8 n.val)
      { w0 := natWord o.argument, w1 := if o.refusal = none then 0 else 1
        w2 := natWord (match o.refusal with | some code => answerCode code | none => 0)
        w3 := natWord (match o.channel with | some c => c.val | none => 0) }]

theorem State.fireChord_eq (s : State) (n : Fin 8) : s.fireChord n =
    (s.chordSend (chordAction s.mem n) (chordArgument s.mem n)).1.sendAll (firingEvents s.uptime (chordAction s.mem n) n
      (s.chordSend (chordAction s.mem n) (chordArgument s.mem n)).2) := by
  have closed (action : Nat) (t : State) (o : ChordOutcome) (clock : t.clock = s.clock) :
      (if o.refusal.isSome = true then (t.count .chordsFired).count .chordsRefused else t.count .chordsFired).report .chord action
        false n.val { w0 := natWord o.argument, w1 := flagWord o.refusal.isSome
                      w2 := natWord (match o.refusal with | some code => answerCode code | none => 0)
                      w3 := natWord (match o.channel with | some c => c.val | none => 0) }
      = t.sendAll (firingEvents s.uptime action n o) := by
    have stamp : s.uptime = t.uptime := by
      unfold State.uptime
      rw [clock]
    obtain ⟨argument, refusal, channel⟩ := o
    rw [stamp]
    cases refusal
    · exact State.sendAll_sendAll t [_] [_]
    · exact (State.sendAll_sendAll _ [_] [_]).trans (State.sendAll_sendAll t [_] [_, _])
  exact closed _ _ _ (s.chordSend_keysLeft _ _).clock

theorem State.fireChord_fired (s : State) (n : Fin 8) : ChordFired s (s.fireChord n) n := by
  have fired := s.fireChord_eq n
  have argument := s.chordSend_argument (chordAction s.mem n) (chordArgument s.mem n)
  obtain ⟨action, ha⟩ : ∃ action, action = chordAction s.mem n := ⟨_, rfl⟩
  obtain ⟨word, hw⟩ : ∃ word, word = chordArgument s.mem n := ⟨_, rfl⟩
  have shown : shownArgument action word = shownArgument (chordAction s.mem n) (chordArgument s.mem n) := by rw [ha, hw]
  rw [← ha, ← hw] at fired argument
  refine ⟨(s.chordSend action word).1, (s.chordSend action word).2.refusal, (s.chordSend action word).2.channel, fun is => ?_,
    fun is => ?_, fun is => ?_, fun is => ?_, fun is f named => ?_, fun is h named => ?_, fun is => ?_, fun is => ?_, fun other => ?_,
    ?_⟩
  · refine Eq.mp (congrArg (RestartOrdered s _ · .chord .chord _) shown) ?_
    rw [ha.trans is]
    exact s.chordRestart_ordered (railOf word)
  · rw [ha.trans is]
    exact s.powerOn_ordered
  · rw [ha.trans is]
    exact s.releaseHold_ordered
  · refine Eq.mp (congrArg (BoostRequested s _ .all · _) shown) ?_
    rw [ha.trans is]
    obtain ⟨zones, -, frame⟩ := s.takeBoost_requested .all word
    exact ⟨zones, rfl, frame⟩
  · have named' := named.trans shown.symm
    rw [ha.trans is] at named' ⊢
    rw [show f = ⟨min word 1, by omega⟩ from Fin.ext named']
    exact s.startSweep_requested _ .test .chord none
  · have named' := named.trans shown.symm
    rw [ha.trans is] at named' ⊢
    rw [show h = headOf word from Fin.ext named']
    exact s.chordSend_sequence word
  · rw [ha.trans is]
    exact ⟨rfl, rfl⟩
  · rw [ha.trans is]
    exact ⟨rfl, rfl⟩
  · exact s.chordSend_channel word fun is => other (ha.symm.trans is)
  · rw [fired]
    unfold State.sendAll firingEvents
    rw [argument, shown, ha]
    simp only [List.append_assoc]
    rfl

/-! ### Matching (R108, R109) -/

/-- An entry at a hand-off whose matching, match and arming are known (R109). -/
theorem State.matchChord_eq (s : State) (held : List Nat) (n : Fin 8) : s.matchChord held n =
    if takesPart s.mem n = true then
      if sameCodes (chordKeys s.mem n) held = true then
        if (s.chords.chords[n].armed || (chordKeys s.mem n).any fun k => !held.contains k) = true then
          if chordHold s.mem n ≤ (s.uptime - s.chords.chords[n].matchStart.getD s.uptime).toNat then
            (s.setChord n { armed := false, matchStart := none }).fireChord n
          else s.setChord n { armed := true, matchStart := some (s.chords.chords[n].matchStart.getD s.uptime) }
        else s
      else s.setChord n
        { armed := s.chords.chords[n].armed || (chordKeys s.mem n).any fun k => !held.contains k, matchStart := none }
    else s.setChord n { s.chords.chords[n] with matchStart := none } := by
  unfold State.matchChord
  dsimp only
  cases takesPart s.mem n
  · rfl
  · cases sameCodes (chordKeys s.mem n) held
    · rfl
    · cases s.chords.chords[n].armed || (chordKeys s.mem n).any fun k => !held.contains k <;> rfl

theorem State.armed_iff {held : List Nat} (s : State) (n : Fin 8) (codes : ∀ c, c ∈ held ↔ s.HoldsCode c) :
    (s.chords.chords[n].armed || (chordKeys s.mem n).any fun k => !held.contains k) = true ↔
      s.chords.chords[n].armed = true ∨ ∃ c : Fin 128, KeyOf s.mem n c.val ∧ ¬ s.HoldsCode c.val := by
  rw [Bool.or_eq_true, List.any_eq_true]
  refine or_congr_right ⟨fun ⟨c, key, free⟩ => ?_, fun ⟨c, key, free⟩ => ?_⟩
  · rw [Bool.not_eq_true', ← Bool.not_eq_true, List.contains_iff_mem, codes] at free
    exact ⟨⟨c, (mem_chordKeys.1 key).lt⟩, mem_chordKeys.1 key, free⟩
  · refine ⟨c.val, mem_chordKeys.2 key, ?_⟩
    rw [Bool.not_eq_true', ← Bool.not_eq_true, List.contains_iff_mem, codes]
    exact free

theorem chordHold_eq (m : Memory) (n : Fin 8) : chordHold m n = 100 * max 1 (min 100 (m.byte (0x1900 + 8 * n.val + 3))) := by
  unfold chordHold clampNat chordBase
  rw [Nat.mul_comm, min_comm]

theorem State.matchChord_taken {held : List Nat} (s : State) (n : Fin 8) (codes : ∀ c, c ∈ held ↔ s.HoldsCode c) :
    ChordTaken s (s.matchChord held n) n := by
  have matches_ := sameCodes_below (a := chordKeys s.mem n) (b := held) (fun _ => mem_chordKeys) codes (fun _ => KeyOf.lt)
    fun _ => State.HoldsCode.lt
  have armed := s.armed_iff n codes
  rw [State.matchChord_eq]
  generalize (s.chords.chords[n].armed || (chordKeys s.mem n).any fun k => !held.contains k) = arm at armed ⊢
  refine ⟨fun out => ?_, fun part apart arms => ?_, fun part apart unarmed => ?_, fun part matched unarmed => ?_,
    fun part matched arms unripe => ?_, fun part matched arms ripe => ?_⟩
  · exact if_neg fun part => out ((takesPart_iff s.mem n).1 part)
  · rw [if_pos ((takesPart_iff s.mem n).2 part), if_neg fun same => apart (matches_.1 same), armed.2 arms]
    rfl
  · rw [if_pos ((takesPart_iff s.mem n).2 part), if_neg fun same => apart (matches_.1 same),
      Bool.eq_false_iff.2 fun arms => unarmed (armed.1 arms)]
    rfl
  · rw [if_pos ((takesPart_iff s.mem n).2 part), if_pos (matches_.2 matched), if_neg fun arms => unarmed (armed.1 arms)]
  · rw [if_pos ((takesPart_iff s.mem n).2 part), if_pos (matches_.2 matched), if_pos (armed.2 arms), chordHold_eq,
      if_neg unripe]
    rfl
  · rw [if_pos ((takesPart_iff s.mem n).2 part), if_pos (matches_.2 matched), if_pos (armed.2 arms), chordHold_eq,
      if_pos ripe]
    exact State.fireChord_fired _ n

end Sys2Proof.Machine
end

section
/-! SUPPORT. A hand-off of the held set: the chords, the power key and the publications (R106, R112 to R116, R119, R120).
Obligation O37. -/

namespace Sys2Proof.Machine

open Sys2Proof Host

variable {s t : State}

/-! ### A long press (R114) -/

theorem KeysLeft.uptime_eq (h : KeysLeft s t) : t.uptime = s.uptime := by
  unfold State.uptime
  rw [h.clock]

/-- A long press's order with its press disarmed, the refusal counted and the report posted (R114). -/
theorem State.longOrder_eq {r : State × Option AnswerCode} (left : KeysLeft s r.1) (sub : Nat) : s.longOrder sub r = { r.1 with
    chords := { r.1.chords with press := r.1.chords.press.map fun p => { p with disarmed := true } }
    transit := r.1.transit ++ (if r.2 = none then [] else [.counterIncrement .chordsRefused])
      ++ [posting s.uptime .powerKey (BitVec.ofNat 8 sub) true 0
        { w0 := supWordOf s.chords.published s.chords.publishedSub, w1 := if r.2 = none then 0 else 1 }] } := by
  rw [← left.uptime_eq]
  obtain ⟨t, refusal⟩ := r
  unfold State.longOrder
  cases refusal
  · simp only [if_true, List.append_nil]
    rfl
  · rfl

theorem State.longPress_up (up : s.chords.published = .booting ∨ s.chords.published = .running) : s.longPress =
    if s.chords.forcedOffTimer.isSome then s.count .chordsRefused
    else ((s.setChords { s.chords with forcedOffTimer := some (s.inMs (forcedOffTime s.mem * 1000)) }).publishChords).reportPower 3
      s.chords.supWord false (forcedOffTime s.mem) := by
  unfold State.longPress
  rcases up with state | state <;> rw [state] <;> rfl

theorem State.longPress_pressed (s : State) : LongPressed s s.longPress := by
  have seconds : forcedOffTime s.mem = max 1 (min 600 (s.mem.nat16 0x11AC)) := by
    unfold forcedOffTime clampNat
    rw [min_comm]
  refine ⟨fun off => ?_, fun held => ?_, fun up => ⟨fun stopped => ?_, fun running => ?_⟩, fun other => ?_⟩
  · refine ⟨_, _, s.powerOn_ordered, (show s.longPress = s.longOrder 1 s.powerOn from ?_).trans ?_⟩
    · unfold State.longPress
      rw [off]
    · exact State.longOrder_eq s.powerOn_keysLeft 1
  · refine ⟨_, _, s.releaseHold_ordered, (show s.longPress = s.longOrder 2 s.releaseHold from ?_).trans ?_⟩
    · unfold State.longPress
      rw [held]
    · exact State.longOrder_eq s.releaseHold_keysLeft 2
  · rw [State.longPress_up up, stopped, seconds]
    generalize max 1 (min 600 (s.mem.nat16 0x11AC)) = n
    have ends : s.inMs (n * 1000) = s.clock + n * 1000000 := by
      unfold State.inMs
      rw [Nat.mul_assoc]
    rw [← ends]
    rfl
  · rw [State.longPress_up up]
    exact if_pos (Option.isSome_iff_ne_none.2 running)
  · unfold State.longPress
    rcases other with state | state | state | state <;> rw [state] <;> rfl

/-! ### A forced hold (R116) -/

theorem State.forcedHold_idle {p : PowerPress} (idle : p.disarmed = true ∨ s.chords.published = .off ∨ s.chords.published = .held) :
    s.forcedHold p = s := by
  unfold State.forcedHold
  rcases idle with disarmed | off | held
  · exact if_pos disarmed
  · rw [off, ite_self]
  · rw [held, ite_self]

/-- The forced-off timer stopped (R115, R116). -/
def State.forcedOffStopped (s : State) : State := (s.setChords { s.chords with forcedOffTimer := none }).publishChords

theorem State.forcedHold_busy {p : PowerPress} (armed : ¬ p.disarmed = true) (off : s.chords.published ≠ .off)
    (held : s.chords.published ≠ .held) :
    s.forcedHold p = s.forcedOffStopped.forcedShutdown.reportPower 5 s.chords.supWord false 0 := by
  unfold State.forcedHold
  rw [if_neg armed]
  split
  next state => exact absurd state off
  next state => exact absurd state held
  · rfl

theorem State.forcedHold_held (s : State) (p : PowerPress) : ForcedHeld s (s.forcedHold p) p.disarmed := by
  refine ⟨State.forcedHold_idle, fun busy => ?_⟩
  obtain ⟨armed, other⟩ := not_or.1 busy
  obtain ⟨off, held⟩ := not_or.1 other
  refine ⟨s.forcedOffStopped, _, rfl, s.forcedOffStopped.forcedShutdown_down, ?_⟩
  have stamp := s.forcedOffStopped.forcedShutdown_keysLeft.uptime_eq
  rw [State.forcedHold_busy armed off held, show s.uptime = s.forcedOffStopped.uptime from rfl, ← stamp]
  rfl

/-! ### The power key at a hand-off (R113) -/

theorem HostFrame.press_eq (h : HostFrame s t) : t.chords.press = s.chords.press := by
  obtain ⟨-, frame⟩ := h
  rw [frame]

theorem State.powerOn_press (s : State) : s.powerOn.1.chords.press = s.chords.press := by
  obtain ⟨other, off⟩ := s.powerOn_ordered
  by_cases state : s.sup.state = .off
  · exact (off state).2.2.press_eq
  · rw [(other state).1]

theorem State.releaseHold_press (s : State) : s.releaseHold.1.chords.press = s.chords.press := by
  obtain ⟨other, held⟩ := s.releaseHold_ordered
  by_cases state : s.sup.state = .held
  · obtain ⟨-, -, -, -, -, frame⟩ := held state
    exact frame.press_eq
  · rw [(other state).1]

/-- A long press disarms the press or leaves it (R114). -/
theorem State.longPress_start (s : State) : s.longPress.chords.press.map PowerPress.start = s.chords.press.map PowerPress.start := by
  have disarmed {p q : Option PowerPress} (same : q = p) :
      (q.map fun p => { p with disarmed := true }).map PowerPress.start = p.map PowerPress.start := by
    rw [same, Option.map_map]
    rfl
  unfold State.longPress
  split
  · rw [State.longOrder_eq s.powerOn_keysLeft]
    exact disarmed s.powerOn_press
  · rw [State.longOrder_eq s.releaseHold_keysLeft]
    exact disarmed s.releaseHold_press
  · split <;> rfl
  · split <;> rfl
  · rfl

/-- The unit with a press in progress at a hand-off (R113). -/
def State.withPress (s : State) (p : PowerPress) : State :=
  s.setChords { s.chords with press := some p, elapsedAtScan := some (s.uptime - (s.chords.press.getD { start := s.uptime }).start) }

theorem State.checkLong_press {p : PowerPress} (press : s.chords.press = some p) : s.checkLong =
    if (!p.longDone && decide (longPressTime s.mem ≤ (s.uptime - p.start).toNat)) = true then
      (s.setChords { s.chords with press := some { p with longDone := true } }).longPress
    else s := by
  unfold State.checkLong
  rw [press]

theorem State.checkForced_press {p : PowerPress} (press : s.chords.press = some p) : s.checkForced =
    if (!p.forcedDone && decide (forcedHoldTime s.mem ≤ (s.uptime - p.start).toNat)) = true then
      (s.setChords { s.chords with press := some { p with forcedDone := true } }).forcedHold p
    else s := by
  unfold State.checkForced
  rw [press]

theorem dueNow_iff {done : Bool} {least elapsed : Nat} : (!done && decide (least ≤ elapsed)) = true ↔ done = false ∧ least ≤ elapsed := by
  rw [Bool.and_eq_true, Bool.not_eq_true', decide_eq_true_eq]

theorem longPressTime_eq (m : Memory) : longPressTime m = 100 * max 5 (min 100 (m.nat16 0x1940)) := by
  unfold longPressTime clampNat
  rw [Nat.mul_comm, min_comm]

theorem forcedHoldTime_eq (m : Memory) : forcedHoldTime m = 100 * max 10 (min 300 (m.nat16 0x1942)) := by
  unfold forcedHoldTime clampNat
  rw [Nat.mul_comm, min_comm]

theorem State.power_taken (s : State) (held : Bool) (holds : held = true ↔ s.HoldsPower) :
    PowerTaken s (s.powerRecord held).checkLong.checkForced := by
  refine ⟨fun up => ?_, fun down => ?_⟩
  · rw [Bool.eq_false_iff.2 fun on => up (holds.1 on)]
    rfl
  · rw [holds.2 down]
    obtain ⟨p, hp⟩ : ∃ p, p = s.chords.press.getD { start := s.uptime } := ⟨_, rfl⟩
    have record : s.powerRecord true = s.withPress p := by rw [hp]; rfl
    have long := State.checkLong_press (s := s.withPress p) rfl
    rw [record]
    have uptime : (s.withPress p).checkLong.uptime = s.uptime := (s.withPress p).checkLong_keysLeft.uptime_eq
    have mem : (s.withPress p).checkLong.mem = s.mem := congrArg Kept.mem (s.withPress p).checkLong_kept
    have start : (s.withPress p).checkLong.chords.press.map PowerPress.start = some p.start := by
      rw [long]
      split
      · exact State.longPress_start _
      · rfl
    have isLong : (!p.longDone && decide (longPressTime s.mem ≤ (s.uptime - p.start).toNat)) = true ↔
        p.longDone = false ∧ 100 * max 5 (min 100 (s.mem.nat16 0x1940)) ≤ (s.uptime - p.start).toNat := by
      rw [← longPressTime_eq]
      exact dueNow_iff
    subst hp
    refine ⟨(s.withPress (s.chords.press.getD { start := s.uptime })).checkLong, fun early => ?_, fun due => ?_, fun q press => ?_⟩
    · exact long.trans (if_neg fun is => early (isLong.1 is))
    · rw [long, if_pos (by exact isLong.2 due)]
      exact State.longPress_pressed _
    · have same : q.start = _ := Option.some.inj ((congrArg (Option.map PowerPress.start) press).symm.trans start)
      have forced := State.checkForced_press press
      have isForced : (!q.forcedDone && decide (forcedHoldTime (s.withPress (s.chords.press.getD { start := s.uptime })).checkLong.mem
          ≤ ((s.withPress (s.chords.press.getD { start := s.uptime })).checkLong.uptime - q.start).toNat)) = true ↔
          q.forcedDone = false ∧ 100 * max 10 (min 300 (s.mem.nat16 0x1942)) ≤
            (s.uptime - (s.chords.press.getD { start := s.uptime }).start).toNat := by
        rw [uptime, mem, same, forcedHoldTime_eq]
        exact dueNow_iff
      generalize (s.withPress (s.chords.press.getD { start := s.uptime })).checkLong = u at forced isForced ⊢
      refine ⟨fun early => ?_, fun due => ?_⟩
      · rw [forced]
        exact if_neg fun is => early (isForced.1 is)
      · rw [forced, if_pos (isForced.2 due)]
        exact State.forcedHold_held (u.setChords { u.chords with press := some { q with forcedDone := true } }) q

/-! ### The whole hand-off (R106, R120) -/

/-- The state once the first n chords of a hand-off have been treated. -/
def State.chordsTo (s : State) (codes : List Nat) (n : Nat) : State :=
  ((indices 8).take n).foldl (fun s n => s.matchChord codes n) s

theorem State.chordsTo_succ (s : State) (codes : List Nat) (n : Fin 8) :
    s.chordsTo codes (n.val + 1) = (s.chordsTo codes n.val).matchChord codes n := by
  have index : (indices 8)[n.val]? = some n := by
    unfold indices
    rw [List.getElem?_ofFn]
    simp
  unfold State.chordsTo
  rw [List.take_add_one, index, List.foldl_append]
  rfl

theorem State.chordsTo_keysLeft (s : State) (codes : List Nat) (n : Nat) : KeysLeft s (s.chordsTo codes n) :=
  .foldl (f := fun s n => s.matchChord codes n) (fun s n => s.matchChord_keysLeft codes n) _ s

/-- The states between the chords of a hand-off. -/
theorem State.chords_treated (s : State) (codes : List Nat) : ∃ v : Fin 9 → State, v 0 = s ∧
    (∀ n : Fin 8, v n.succ = (v n.castSucc).matchChord codes n) ∧ v 8 = s.chordsTo codes 8 ∧ ∀ i, KeysLeft s (v i) :=
  ⟨fun i => s.chordsTo codes i.val, rfl, fun n => s.chordsTo_succ codes n, rfl, fun i => s.chordsTo_keysLeft codes i.val⟩

/-- The state before the publications of a hand-off are caught up with: the chords treated, then the press, by the state
published before the hand-off (R69, R113). -/
def State.pressTaken (s : State) : State :=
  let t := s.chordsTo (heldCodes s.keypad.keys) 8
  ((t.setChords (t.chords.seeing s.chords)).powerRecord ((heldSet s.keypad.keys).any fun h => h.2.power)).checkLong.checkForced

/-- The publications of a hand-off caught up with (R69): those of the chords' orders, then those of the press's. -/
def State.caughtUp (w : State) (before chords : Sup) : State :=
  w.setChords ((w.chords.catchUp w.clock before chords).catchUp w.clock chords w.sup)

theorem State.takeHeld_eq (s : State) : s.takeHeld (heldSet s.keypad.keys) =
    s.pressTaken.caughtUp s.sup (s.chordsTo (heldCodes s.keypad.keys) 8).sup := by
  have all : (indices 8).take 8 = indices 8 := by decide
  unfold State.pressTaken State.caughtUp State.chordsTo heldCodes
  rw [all]
  rfl

theorem State.HoldsCode.of_keys {code : Nat} (keys : t.keypad.keys = s.keypad.keys) : t.HoldsCode code ↔ s.HoldsCode code := by
  unfold State.HoldsCode
  rw [keys]

theorem State.HoldsPower.of_keys (keys : t.keypad.keys = s.keypad.keys) : t.HoldsPower ↔ s.HoldsPower := by
  unfold State.HoldsPower
  rw [keys]

theorem State.atScan_frame (s : State) (due : Nat) (reading : BitVec 64) : (s.atScan due).scanKeys reading = { s with
    clock := max s.clock due, transit := ((s.atScan due).scanKeys reading).transit
    keypad := ((s.atScan due).scanKeys reading).keypad } := by
  have scanned := (s.atScan due).scanKeys_eq reading
  generalize (s.atScan due).scanKeys reading = m at scanned ⊢
  rw [scanned]
  rfl

theorem State.pressTaken_power (s : State) : PowerTaken ((s.chordsTo (heldCodes s.keypad.keys) 8).setChords
    ((s.chordsTo (heldCodes s.keypad.keys) 8).chords.seeing s.chords)) s.pressTaken := by
  have keys : (s.chordsTo (heldCodes s.keypad.keys) 8).keypad.keys = s.keypad.keys := by rw [(s.chordsTo_keysLeft _ 8).keypad]
  have holds := s.holdsPower_iff.trans (State.HoldsPower.of_keys keys).symm
  unfold State.pressTaken
  dsimp only
  generalize s.chordsTo (heldCodes s.keypad.keys) 8 = m at holds ⊢
  have seen : (m.setChords (m.chords.seeing s.chords)).HoldsPower ↔ m.HoldsPower := State.HoldsPower.of_keys rfl
  exact State.power_taken _ _ (holds.trans seen.symm)

theorem State.atScan_transit (s : State) (due : Nat) (reading : BitVec 64) :
    ∃ sent, ((s.atScan due).scanKeys reading).transit = s.transit ++ sent := by
  rw [State.scanKeys_transit, List.append_assoc, List.append_assoc]
  exact ⟨_, rfl⟩

theorem State.atScan_keypad (s : State) (due : Nat) (reading : BitVec 64) :
    let k := ((s.atScan due).scanKeys reading).keypad
    k = { s.keypad with
      keys := k.keys, stuckCount := k.stuckCount, faultArmed := k.faultArmed, nextScan := k.nextScan
      policyRead := k.policyRead, lockedAtScan := k.lockedAtScan } := by
  rw [State.scanKeys_keypad]
  simp only [Keypad.checked, State.keysScanned, State.atScan]

/-- A hand-off rewrites the status entry when anything it shows has changed (R120). -/
theorem State.handOff_eq (s : State) {u : State} (taken : s.takeHeld (heldSet s.keypad.keys) = u) :
    s.handOff (heldSet s.keypad.keys) = if u.chordEntry = s.chordEntry then u else u.publishChords := by
  rw [← taken]
  rfl

end Sys2Proof.Machine

namespace Sys2Proof.Settled

open Sys2Proof Sys2Proof.Machine Host

/-- Settles O37: the chords one after another, the press, and the publications caught up with at the end. -/
theorem handOff : Obligations.HandOff := by
  intro reading s due set
  obtain ⟨m, hm⟩ : ∃ m, m = (s.atScan due).scanKeys reading := ⟨_, rfl⟩
  have ran := exec_keypadScan set reading
  rw [← hm] at ran
  have left := m.handOff_keysLeft (heldSet m.keypad.keys)
  have frame : m = { s with clock := max s.clock due, transit := m.transit, keypad := m.keypad } := hm ▸ s.atScan_frame due reading
  have events : ∃ sent, m.transit = s.transit ++ sent := hm ▸ s.atScan_transit due reading
  have scanned := hm ▸ s.atScan_keypad due reading
  have chords : m.chords = s.chords := (congrArg State.chords frame).trans rfl
  have sup : m.sup = s.sup := (congrArg State.sup frame).trans rfl
  clear hm
  have power := m.pressTaken_power
  have done := m.handOff_eq m.takeHeld_eq
  obtain ⟨v, first, next, last, kept⟩ := m.chords_treated (heldCodes m.keypad.keys)
  rw [← last] at power done
  generalize m.pressTaken = w at power done
  refine ⟨v, w.caughtUp m.sup (v 8).sup, _, ran, ?_, ?_, ?_, fun n => ?_,
    ⟨w, w.chords.catchUp w.clock m.sup (v 8).sup, ?_, ?_, ?_, rfl⟩, ?_⟩
  · rw [first, left.keypad]
    exact scanned
  · rw [first]
    exact events
  · rw [first]
    exact frame
  · have keys : (v n.castSucc).keypad.keys = m.keypad.keys := by rw [(kept n.castSucc).keypad]
    rw [next]
    exact State.matchChord_taken _ n fun c => (m.holdsCode_iff c).trans (State.HoldsCode.of_keys keys).symm
  · rw [← chords]
    exact power
  · rw [← sup]
    exact w.chords.catchUp_publicationTaken _ _ _
  · exact ChordUnit.catchUp_publicationTaken _ _ _ _
  · rw [first]
    exact done

end Sys2Proof.Settled
end

section
/-! SUPPORT. The schedule: entries acting at an advance, reloads and phase restarts (R121 to R130). Obligation O40. -/

namespace Sys2Proof.Machine

open Sys2Proof Host

variable {s : State} {e : Fin 32} {k : Fin 8}

/-! ### Snapshots (R128) -/

theorem State.post_posted (s : State) (r : Posting) : Posted s (s.post r) r := by
  unfold Posted
  have unfolded : exec (.reportPosting r) { s with transit := .reportPosting r :: s.transit } =
      .next (({ s with transit := .reportPosting r :: s.transit } : State).taking (.reportPosting r) |>.post r) := rfl
  have taken : ({ s with transit := .reportPosting r :: s.transit } : State).taking (.reportPosting r) = s :=
    congrArg (fun sent => ({ s with transit := sent } : State)) (List.erase_cons_head ..)
  rw [unfolded, taken]

theorem State.snapshotWords_eq (s : State) (sub : Nat) : s.snapshotWords sub = s.snapshotPayload sub := by
  unfold State.snapshotWords State.snapshotPayload
  split
  · subst sub
    rfl
  · split
    · subst sub
      rfl
    · split
      · subst sub
        rfl
      · split
        · contradiction
        · contradiction
        · contradiction
        · rfl

theorem State.snapshot_taken (s : State) (e : Fin 32) : SnapshotTaken s (s.snapshot e) e := by
  unfold SnapshotTaken
  simp only [State.snapshotWords_eq]
  exact ⟨_, _, _, s.post_posted _, State.post_posted _ _, State.post_posted _ _, State.post_posted _ _⟩

/-! ### Actions (R127) -/

theorem State.entrySend_sequence (s : State) (e : Fin 32) (action : entryAction s.mem e = 1) :
    SequenceRequested s (s.entrySend e).1 (headOf (entryArgument s.mem e)) .schedule (s.entrySend e).2.1 (s.entrySend e).2.2 := by
  have requested := s.startSequence_requested (headOf (entryArgument s.mem e)) .schedule
  unfold State.entrySend
  rw [action]
  dsimp only
  generalize s.startSequence (headOf (entryArgument s.mem e)) .schedule = r at requested ⊢
  obtain ⟨t, c | code⟩ := r <;> exact requested

theorem State.entrySend_sweep (s : State) (e : Fin 32) (action : entryAction s.mem e = 2) : s.entrySend e =
    ((s.startSweep ⟨min (entryArgument s.mem e) 1, by omega⟩ .test .schedule none).1,
      (s.startSweep ⟨min (entryArgument s.mem e) 1, by omega⟩ .test .schedule none).2, none) := by
  unfold State.entrySend
  rw [action]
  rfl

theorem State.entrySend_snapshot (s : State) (e : Fin 32) (action : entryAction s.mem e = 3) :
    s.entrySend e = (s.snapshot e, none, none) := by
  unfold State.entrySend
  rw [action]
  rfl

theorem State.entrySend_boost (s : State) (e : Fin 32) (action : entryAction s.mem e = 4) : s.entrySend e =
    ((s.takeBoost (boostTargetOf (entryArgument s.mem e)) (entrySeconds s.mem e)).1,
      (s.takeBoost (boostTargetOf (entryArgument s.mem e)) (entrySeconds s.mem e)).2, none) := by
  unfold State.entrySend
  rw [action]
  rfl

theorem State.entrySend_other (s : State) (e : Fin 32) (action : entryAction s.mem e = 0 ∨ 4 < entryAction s.mem e) :
    s.entrySend e = (s, some .badKind, none) := by
  unfold State.entrySend
  generalize entryAction s.mem e = n at action
  match n with
  | 0 => rfl
  | 1 | 2 | 3 | 4 => omega
  | _ + 5 => rfl

/-- The channel an entry's action is shown with is that of a start of a sequence (R130). -/
theorem State.entryAct_acts (s : State) (e : Fin 32) : EntryActs s (s.entryAct e) e := by
  have acted : s.entryAct e = { (s.entrySend e).1 with
      transit := (s.entrySend e).1.transit ++ (if (s.entrySend e).2.1 = none then [] else [.counterIncrement .scheduleSkips])
      sched := { (s.entrySend e).1.sched with
        outcomes := put (s.entrySend e).1.sched.outcomes e
          (some { refusal := (s.entrySend e).2.1, channel := (s.entrySend e).2.2, stamp := s.uptime }) } } := by
    unfold State.entryAct
    generalize s.entrySend e = r
    obtain ⟨t, refusal, channel⟩ := r
    cases refusal
    · simp only [if_true, List.append_nil]
      rfl
    · rfl
  refine ⟨(s.entrySend e).1, (s.entrySend e).2.1, (s.entrySend e).2.2, fun action h named => ?_, fun action => ?_,
    fun action => ?_, fun action => ?_, fun action => ?_, acted⟩
  · rw [show h = headOf (entryArgument s.mem e) from Fin.ext named]
    exact s.entrySend_sequence e action
  · rw [s.entrySend_sweep e action]
    refine ⟨rfl, fun f named => ?_⟩
    rw [show f = ⟨min (entryArgument s.mem e) 1, by omega⟩ from Fin.ext named]
    exact s.startSweep_requested _ .test .schedule none
  · rw [s.entrySend_snapshot e action]
    exact ⟨rfl, rfl, s.snapshot_taken e⟩
  · rw [s.entrySend_boost e action]
    exact ⟨rfl, s.takeBoost_requested _ _⟩
  · rw [s.entrySend_other e action]
    exact ⟨rfl, rfl, rfl⟩

/-! ### Counting and reloading (R123 to R126) -/

theorem State.entryAct_mem (s : State) (e : Fin 32) : (s.entryAct e).mem = s.mem := congrArg Kept.mem (s.entryAct_kept e)

theorem reloadFloor_eq (mode period : Nat) : reloadFloor mode period = max 1
    (if mode = 0 then period else if mode = 1 then 3 * period / 4 else if mode = 2 then period / 2 else 1) := by
  unfold reloadFloor
  match mode with
  | 0 | 1 | 2 => rfl
  | _ + 3 => rfl

theorem reloadFloor_le (mode : Nat) {period : Nat} (some : 0 < period) : reloadFloor mode period ≤ period := by
  rw [reloadFloor_eq]
  split
  · omega
  · split
    · omega
    · split <;> omega

theorem reloadFrom_bounds (mode draw : Nat) {period : Nat} (some : 0 < period) :
    reloadFloor mode period ≤ reloadFrom mode period draw ∧ reloadFrom mode period draw ≤ period := by
  have least := reloadFloor_le mode some
  have drawn := Nat.mod_lt draw (show 0 < period - reloadFloor mode period + 1 by omega)
  unfold reloadFrom
  omega

theorem State.writeEntry_byte (s : State) (e : Fin 32) (offset : Nat) {v : Nat} (small : v < 256) :
    (s.writeEntry e offset v).mem.byte (0x1210 + 8 * e.val + offset) = v := by
  unfold State.writeEntry Memory.byte entryBase
  rw [Memory.read_write_same, BitVec.toNat_ofNat]
  omega

theorem State.writeEntry_other (s : State) (e : Fin 32) (offset v : Nat) {a : Nat} (other : a ≠ 0x1210 + 8 * e.val + offset) :
    (s.writeEntry e offset v).mem.read a = s.mem.read a :=
  Memory.read_write_other _ (Ne.symm other) _

theorem State.takeEntry_stands (other : ¬ (entryTick s.mem e = k.val) ∨ entryPeriod s.mem e = 0) : State.takeEntry k s e = s := by
  unfold State.takeEntry
  dsimp only
  split
  · rfl
  next counts => exact if_pos (other.resolve_left fun not => counts not)

theorem State.takeEntry_counts (counts : entryTick s.mem e = k.val) : State.takeEntry k s e =
    if entryPeriod s.mem e = 0 then s
    else if entryPeriod s.mem e = 255 then (s.entryAct e).writeEntry e 1 0
    else if 0 < entryCountdown s.mem e - 1 then s.writeEntry e 2 (entryCountdown s.mem e - 1)
    else (s.entryAct e).reloadEntry e := if_neg fun other => other counts

theorem entryCountdown_eq (m : Memory) (e : Fin 32) : entryCountdown m e = max 1 (min 254 (m.byte (0x1210 + 8 * e.val + 2))) := by
  unfold entryCountdown clampNat entryBase
  rw [min_comm]

theorem State.reloadEntry_byte (s : State) (e : Fin 32) (on : 0 < entryPeriod s.mem e) (periodic : entryPeriod s.mem e < 255) :
    reloadFloor (entryJitter s.mem e) (entryPeriod s.mem e) ≤ (s.reloadEntry e).mem.byte (0x1210 + 8 * e.val + 2) ∧
    (s.reloadEntry e).mem.byte (0x1210 + 8 * e.val + 2) ≤ entryPeriod s.mem e := by
  have bounds := reloadFrom_bounds (entryJitter s.mem e) (Config.jitterDraw s.sched.genSeed s.sched.genCount) on
  unfold State.reloadEntry
  dsimp only
  rw [State.writeEntry_byte _ e 2 (by omega)]
  exact bounds

theorem State.takeEntry_taken (k : Fin 8) (s : State) (e : Fin 32) : EntryTaken k s (State.takeEntry k s e) e := by
  have countdown := entryCountdown_eq s.mem e
  refine ⟨State.takeEntry_stands, fun counts once => ?_, fun counts on periodic more => ?_, fun counts on periodic last => ?_⟩
  · have once' : entryPeriod s.mem e = 255 := once
    rw [State.takeEntry_counts counts, if_neg (by omega), if_pos once']
    refine ⟨Memory.read_write_same _ _ _, fun a other => ?_, s.entryAct e, s.entryAct_acts e, rfl⟩
    rw [State.writeEntry_other _ e 1 0 other, State.entryAct_mem]
  · have on' : 0 < entryPeriod s.mem e := on
    have periodic' : entryPeriod s.mem e < 255 := periodic
    rw [← countdown] at more ⊢
    rw [State.takeEntry_counts counts, if_neg (by omega), if_neg (by omega), if_pos (by omega)]
    have small : entryCountdown s.mem e ≤ 254 := by omega
    exact ⟨s.writeEntry_byte e 2 (by omega), fun a other => s.writeEntry_other e 2 _ other, rfl⟩
  · have on' : 0 < entryPeriod s.mem e := on
    have periodic' : entryPeriod s.mem e < 255 := periodic
    rw [← countdown] at last
    have reloads : State.takeEntry k s e = (s.entryAct e).reloadEntry e := (State.takeEntry_counts counts).trans
      ((if_neg (by omega)).trans ((if_neg (by omega)).trans (if_neg (by omega))))
    rw [reloads]
    have mem := s.entryAct_mem e
    obtain ⟨least, most⟩ := (s.entryAct e).reloadEntry_byte e (by rw [mem]; exact on) (by rw [mem]; exact periodic)
    rw [mem] at least most
    rw [reloadFloor_eq] at least
    refine ⟨least, most, fun a other => ?_, s.entryAct e, s.entryAct_acts e, rfl⟩
    rw [← mem]
    exact State.writeEntry_other _ e 2 _ other

/-- An entry writes no byte outside the schedule table (R124 to R126). -/
theorem EntryTaken.outside {t : State} (h : EntryTaken k s t e) {a : Nat} (outside : a < 0x1210 ∨ 0x1310 ≤ a) :
    t.mem.read a = s.mem.read a := by
  have := e.isLt
  obtain ⟨stands, once, counted, reloaded⟩ := h
  by_cases counts : min (s.mem.byte (0x1210 + 8 * e.val)) 7 = k.val
  · have bound : s.mem.byte (0x1210 + 8 * e.val + 1) < 256 := (s.mem.read _).isLt
    rcases Nat.eq_zero_or_pos (s.mem.byte (0x1210 + 8 * e.val + 1)) with off | on
    · rw [stands (.inr off)]
    · by_cases last : s.mem.byte (0x1210 + 8 * e.val + 1) = 255
      · obtain ⟨-, others, -⟩ := once counts last
        exact others a (by omega)
      · by_cases more : 1 < max 1 (min 254 (s.mem.byte (0x1210 + 8 * e.val + 2)))
        · obtain ⟨-, others, -⟩ := counted counts on (by omega) more
          exact others a (by omega)
        · obtain ⟨-, -, others, -⟩ := reloaded counts on (by omega) (by omega)
          exact others a (by omega)
  · rw [stands (.inl counts)]

/-! ### The entries of an advance in ascending number (R124) -/

/-- The states between the entries of an advance. -/
theorem State.entries_taken (k : Fin 8) (s : State) : ∃ u : Fin 33 → State, u 0 = s ∧
    (∀ e : Fin 32, u e.succ = State.takeEntry k (u e.castSucc) e) ∧ u 32 = (indices 32).foldl (State.takeEntry k) s := by
  have all : (indices 32).take 32 = indices 32 := by decide
  refine ⟨fun i => ((indices 32).take i.val).foldl (State.takeEntry k) s, rfl, fun e => ?_, ?_⟩
  · have index : (indices 32)[e.val]? = some e := by
      unfold indices
      rw [List.getElem?_ofFn]
      simp
    dsimp only [Fin.val_succ, Fin.val_castSucc]
    rw [List.take_add_one, index, List.foldl_append]
    rfl
  · exact congrArg (List.foldl (State.takeEntry k) s) all

/-! ### Phase restarts (R121, R122) -/

theorem State.phaseRestart_restarts (s : State) :
    let t := s.phaseRestart
    t.sched.lengths[(0 : Fin 8)] = max 1 (min 1000 (s.mem.nat16 0x1200)) ∧
    (∀ k : Nat, ∀ h : k + 1 < 8, t.sched.lengths[(⟨k + 1, h⟩ : Fin 8)] =
      min (t.sched.lengths[(⟨k, by omega⟩ : Fin 8)] * max 2 (s.mem.byte (0x1201 + (k + 1)))) 4294967295) ∧
    (∀ k : Fin 8, t.sched.nextAdvance[k] = some (s.clock + t.sched.lengths[k] * 1000) ∧
      t.shown.ticks.left[k] = some t.sched.lengths[k]) ∧
    t.shown.ticks.lengths = t.sched.lengths ∧
    t = { s with
      sched := { s.sched with lengths := t.sched.lengths, nextAdvance := t.sched.nextAdvance }
      shown := { s.shown with ticks := t.shown.ticks } } := by
  have lengths (k : Fin 8) : s.phaseRestart.sched.lengths[k] = tickLength s.mem k.val := ofFn_get _ k
  have advance (k : Fin 8) : s.phaseRestart.sched.nextAdvance[k] = some (s.clock + s.phaseRestart.sched.lengths[k] * 1000) :=
    ofFn_get _ k
  have left (k : Fin 8) : s.phaseRestart.shown.ticks.left[k] = s.phaseRestart.msLeft s.phaseRestart.sched.nextAdvance[k] :=
    ofFn_get _ k
  refine ⟨?_, fun k h => ?_, fun k => ⟨advance k, ?_⟩, rfl, rfl⟩
  · rw [lengths]
    unfold tickLength tickBase clampNat
    rw [min_comm]
  · rw [lengths, lengths]
    have bound : s.mem.byte (0x1201 + (k + 1)) < 256 := (s.mem.read _).isLt
    have multiplier : tickMultiplier s.mem (k + 1) = max 2 (s.mem.byte (0x1201 + (k + 1))) := by
      unfold tickMultiplier clampNat
      omega
    rw [← multiplier]
    rfl
  · rw [left, advance]
    unfold State.msLeft
    have clock : s.phaseRestart.clock = s.clock := rfl
    rw [clock, Option.map_some, Nat.add_sub_cancel_left, Nat.mul_div_cancel _ (by decide)]

end Sys2Proof.Machine

namespace Sys2Proof.Settled

open Sys2Proof Sys2Proof.Machine Host

/-- Settles O40: the entries one after another; and a phase restart. -/
theorem tickAdvance : Obligations.TickAdvance := by
  refine ⟨fun k s due set => ?_, fun before after s => ?_⟩
  · obtain ⟨u, first, next, last⟩ := (s.atAdvance k due).entries_taken k
    have taken (e : Fin 32) : EntryTaken k (u e.castSucc) (u e.succ) e := by
      rw [next]
      exact State.takeEntry_taken k _ e
    refine ⟨u, (exec_tickAdvance set).trans (by rw [last]), ?_, taken, fun a outside => ?_⟩
    · rw [first]
      refine ⟨fun j => ?_, rfl, fun j => ofFn_get _ j, rfl⟩
      rw [show (s.atAdvance k due).sched.nextAdvance = put s.sched.nextAdvance k _ from rfl, put_get]
      exact if_congr eq_comm rfl rfl
    · have kept (n : Nat) (within : n < 33) : (u ⟨n, within⟩).mem.read a = s.mem.read a := by
        induction n with
        | zero => exact (congrArg (fun t : State => t.mem.read a) first :)
        | succ n ih => exact ((taken ⟨n, by omega⟩).outside outside).trans (ih (by omega))
      exact kept 32 (by decide)
  · have unfolded : exec (.tickLadderEdit before after) s = .next (if before = after then s.taking (.tickLadderEdit before after)
        else (s.taking (.tickLadderEdit before after)).phaseRestart) := rfl
    refine ⟨_, unfolded, fun same => if_pos same, fun changed => ?_⟩
    rw [if_neg changed]
    exact State.phaseRestart_restarts (s.taking (.tickLadderEdit before after))

end Sys2Proof.Settled
end

section
/-! SUPPORT. The request desk: takes, dispatches and answers (R143 to R147, R154). Obligation O45. -/

namespace Sys2Proof.Machine

open Sys2Proof Host

variable {s : State} {slot : Fin 8}

/-! ### Takes (R144, R146) -/

/-- A slot taken with a request it has been sent on with. -/
theorem State.takeSlot_sent {c : Instr} (sent : dispatchOf slot (requestAt s.mem slot) = .sent c) : s.takeSlot slot = { s with
    slots := put s.slots slot { s.slots[slot] with taken := some (requestAt s.mem slot) }, transit := s.transit ++ [c] } := by
  unfold State.takeSlot
  dsimp only
  rw [sent]
  rfl

theorem State.takeSlot_badKind (bad : dispatchOf slot (requestAt s.mem slot) = .badKind) : s.takeSlot slot = { s with
    slots := put s.slots slot { s.slots[slot] with taken := some (requestAt s.mem slot) }
    transit := s.transit ++ [.badKind slot] } := by
  unfold State.takeSlot
  dsimp only
  rw [bad]
  rfl

/-- A slot taken with a request that the desk itself refuses (log 30). -/
theorem State.takeSlot_refused {code : AnswerCode} (refused : dispatchOf slot (requestAt s.mem slot) = .refused code) :
    s.takeSlot slot = { s with
      slots := put s.slots slot
        { taken := none, answerCode := some code, answerToggle := (requestAt s.mem slot).toggle, data := {} }
      transit := s.transit ++ [.noticeMarkSet .desk] } := by
  unfold State.takeSlot
  dsimp only
  rw [refused]
  exact congrArg (fun slots => ({ s with slots := slots, transit := s.transit ++ [.noticeMarkSet .desk] } : State)) (put_put ..)

theorem checked_ok {ok : Bool} {c : Instr} (h : ok = true) : checked ok c = .sent c := by rw [h]; rfl

theorem checked_not {ok : Bool} {c : Instr} (h : ¬ ok = true) : checked ok c = .refused .badArgument := by
  rw [Bool.eq_false_iff.2 h]
  rfl

/-- A checked kind is sent on, or refused with BAD_ARGUMENT (R146). -/
theorem State.takeSlot_checked {ok : Prop} [Decidable ok] {c : Instr}
    (dispatch : dispatchOf slot (requestAt s.mem slot) = Machine.checked (decide ok) c) :
    (ok → s.takeSlot slot = { s with
      slots := put s.slots slot { s.slots[slot] with taken := some (requestAt s.mem slot) }, transit := s.transit ++ [c] }) ∧
    (¬ ok → s.takeSlot slot = { s with
      slots := put s.slots slot
        { taken := none, answerCode := some .badArgument, answerToggle := (requestAt s.mem slot).toggle, data := {} }
      transit := s.transit ++ [.noticeMarkSet .desk] }) :=
  ⟨fun fine => State.takeSlot_sent (dispatch.trans (checked_ok (decide_eq_true fine))),
    fun bad => State.takeSlot_refused (dispatch.trans (checked_not fun fine => bad (of_decide_eq_true fine)))⟩

/-- The dispatch of a request by the number of its kind (R146). -/
theorem dispatchOf_kind (slot : Fin 8) (r : Request) {n : Nat} (kind : r.kind.toNat = n) :
    dispatchOf slot r = dispatchOf slot { r with kind := BitVec.ofNat 8 n } := by
  rw [← kind, BitVec.ofNat_toNat, BitVec.setWidth_eq]

theorem dispatchOf_other (slot : Fin 8) (r : Request) (kind : r.kind.toNat = 0 ∨ 13 < r.kind.toNat) : dispatchOf slot r = .badKind := by
  unfold dispatchOf
  generalize r.kind.toNat = n at kind
  match n with
  | 0 => rfl
  | 1 | 2 | 3 | 4 | 5 | 6 | 7 | 8 | 9 | 10 | 11 | 12 | 13 => omega
  | _ + 14 => rfl

theorem State.takeSlot_taken (s : State) (slot : Fin 8) : SlotTaken s (s.takeSlot slot) slot := by
  have dispatch {n : Nat} (kind : s.mem.byte (0x100 + 32 * slot.val) = n) : dispatchOf slot (requestAt s.mem slot) =
      dispatchOf slot { requestAt s.mem slot with kind := BitVec.ofNat 8 n } := dispatchOf_kind slot _ kind
  refine ⟨fun kind => State.takeSlot_badKind (dispatchOf_other slot _ kind), fun kind => State.takeSlot_sent (dispatch kind),
    fun kind => State.takeSlot_sent (dispatch kind), fun kind => State.takeSlot_sent (dispatch kind), fun kind => ?_,
    fun kind => ⟨fun beyond => ?_, fun zero => ?_, fun some within => ?_⟩, fun kind => ?_, fun kind => ?_,
    fun kind => State.takeSlot_sent (dispatch kind), fun kind => State.takeSlot_sent (dispatch kind),
    fun kind => State.takeSlot_checked (dispatch kind), fun kind => State.takeSlot_checked (dispatch kind),
    fun kind => State.takeSlot_checked (dispatch kind), fun kind => State.takeSlot_checked (dispatch kind)⟩
  · exact State.takeSlot_checked ((dispatch kind).trans (congrArg (Machine.checked · _) (decide_eq_decide.2 Nat.lt_succ_iff)))
  · exact State.takeSlot_refused ((dispatch kind).trans (if_pos beyond))
  · exact State.takeSlot_refused ((dispatch kind).trans ((if_neg (by
      rw [show (requestAt s.mem slot).args.w0.toNat = 0 from zero]
      decide)).trans (if_pos (BitVec.eq_of_toNat_eq zero))))
  · refine State.takeSlot_sent ((dispatch kind).trans ((if_neg (Nat.not_lt.2 within)).trans (if_neg fun zero => ?_)))
    rw [show s.mem.read16 (0x100 + 32 * slot.val + 2) = 0#16 from zero] at some
    exact absurd some (by decide)
  · exact State.takeSlot_checked ((dispatch kind).trans (congrArg (Machine.checked · _) (decide_eq_decide.2
      (and_congr_left' Nat.lt_succ_iff))))
  · exact State.takeSlot_checked ((dispatch kind).trans (congrArg (Machine.checked · _) (decide_eq_decide.2
      (and_congr Nat.lt_succ_iff Nat.lt_succ_iff))))

/-! ### Answers (R147, R154) -/

theorem postToggle_eq (m : Memory) (slot : Fin 8) : postToggle m slot = m.read (0x101 + 32 * slot.val) := by
  unfold postToggle slotBase
  rw [show 0x100 + 32 * slot.val + 1 = 0x101 + 32 * slot.val by omega]

theorem State.takeOutcome_idle (code : AnswerCode) (data : Words) (idle : s.slots[slot].taken = none) :
    s.takeOutcome slot code data = s := by
  unfold State.takeOutcome
  rw [idle]

theorem State.takeOutcome_taken {r : Request} (code : AnswerCode) (data : Words) (taken : s.slots[slot].taken = some r) :
    s.takeOutcome slot code data = if s.mem.read (0x101 + 32 * slot.val) = r.toggle then s.writeAnswer slot r code data
      else (s.writeAnswer slot r code data).takeSlot slot := by
  have posted : (s.writeAnswer slot r code data).posted slot = true ↔ s.mem.read (0x101 + 32 * slot.val) ≠ r.toggle := by
    have toggle : (s.writeAnswer slot r code data).slots[slot].answerToggle = r.toggle :=
      congrArg Slot.answerToggle (put_same _ _ _)
    unfold State.posted
    rw [decide_eq_true_eq, toggle, postToggle_eq]
    rfl
  unfold State.takeOutcome
  rw [taken]
  dsimp only
  split
  next still => exact (if_neg (posted.1 still)).symm
  next free => exact (if_pos (not_not.1 fun still => free (posted.2 still))).symm

end Sys2Proof.Machine

namespace Sys2Proof.Settled

open Sys2Proof Sys2Proof.Machine Host

/-- Settles O45: an outcome for a slot that is not taken, one that frees it, and one that finds it posted again. -/
theorem deskAnswers : Obligations.DeskAnswers := by
  intro slot code data s c outcome
  have ran : exec c s = .next ((s.taking c).takeOutcome slot code data) := by
    rcases outcome with rfl | ⟨rfl, rfl, rfl⟩ <;> rfl
  refine ⟨_, ran, fun idle => State.takeOutcome_idle code data idle, fun r taken => ?_⟩
  have outcome := State.takeOutcome_taken (s := s.taking c) code data taken
  refine ⟨fun same => outcome.trans (if_pos same), fun differs => ?_⟩
  rw [outcome.trans (if_neg differs)]
  exact State.takeSlot_taken _ slot

end Sys2Proof.Settled
end

section
/-! SUPPORT. The bytes of a WRITE at their addresses, who owns them, and what the memory holds after it (R131, R136). -/

namespace Sys2Proof.Machine

open Sys2Proof Host

variable {s : State} {start a : Nat} {data : List Byte} {kept : List (Nat × Byte)}

/-! ### The bytes of a write (R136) -/

theorem lookup_mapIdx_none {key : Nat → Nat} : ∀ {d : List Byte} {a : Nat}, (∀ i < d.length, key i ≠ a) →
    (d.mapIdx fun i b => (key i, b)).lookup a = none := by
  intro d
  induction d generalizing key with
  | nil => intros; rfl
  | cons b d ih =>
    intro a other
    have first : (a == key 0) = false := beq_eq_false_iff_ne.2 (other 0 (Nat.succ_pos _)).symm
    rw [List.mapIdx_cons, List.lookup_cons, first]
    exact ih (key := fun i => key (i + 1)) fun i less => other (i + 1) (Nat.succ_lt_succ less)

theorem lookup_mapIdx {key : Nat → Nat} : ∀ {d : List Byte} {i : Nat}, i < d.length →
    (∀ j < d.length, key j = key i → j = i) → (d.mapIdx fun i b => (key i, b)).lookup (key i) = d[i]? := by
  intro d
  induction d generalizing key with
  | nil => intro i less; exact absurd less (Nat.not_lt_zero i)
  | cons b d ih =>
    intro i less same
    rw [List.mapIdx_cons, List.lookup_cons]
    cases i with
    | zero => rw [beq_self_eq_true]; rfl
    | succ i =>
      have first : (key (i + 1) == key 0) = false :=
        beq_eq_false_iff_ne.2 fun is => absurd (same 0 (Nat.succ_pos _) is.symm) (Nat.succ_ne_zero i).symm
      rw [first]
      exact ih (key := fun i => key (i + 1)) (Nat.lt_of_succ_lt_succ less) fun j less' is =>
        Nat.succ_injective (same (j + 1) (Nat.succ_lt_succ less') is)

/-- The byte that a write of data from an address on brings to address a (R133, R136). -/
def writtenByte (start : Nat) (data : List Byte) (a : Nat) : Option Byte :=
  if a < 0x4000 ∧ (a + 0x10000 - start) % 0x4000 < 256 then data[(a + 0x10000 - start) % 0x4000]? else none

theorem writtenAt_eq (hi lo : Byte) (data : List Byte) (a : Nat) :
    writtenAt (keptBytes (startAddress hi lo) data) a = writtenByte (hi.toNat * 256 + lo.toNat) data a := by
  have high := hi.isLt
  have low := lo.isLt
  unfold writtenAt keptBytes writtenByte startAddress
  generalize hs : hi.toNat * 256 + lo.toNat = start
  have bound : start < 0x10000 := by omega
  have take (i : Nat) : i < (data.take 256).length ↔ i < 256 ∧ i < data.length := by
    rw [List.length_take, lt_min_iff]
  by_cases inside : a < 0x4000 ∧ (a + 0x10000 - start) % 0x4000 < 256
  · rw [if_pos inside]
    obtain ⟨i, hi⟩ : ∃ i, i = (a + 0x10000 - start) % 0x4000 := ⟨_, rfl⟩
    rw [← hi] at inside ⊢
    have key : (start % 0x4000 + i) % 0x4000 = a := by omega
    by_cases long : i < data.length
    · have found := lookup_mapIdx (key := fun i => (start % 0x4000 + i) % 0x4000) ((take i).2 ⟨inside.2, long⟩)
        fun j less same => by
          have := ((take j).1 less).1
          omega
      rw [key, List.getElem?_take_of_lt inside.2] at found
      exact found
    · rw [List.getElem?_eq_none (Nat.not_lt.1 long)]
      refine lookup_mapIdx_none fun j less same => ?_
      have := (take j).1 less
      omega
  · rw [if_neg inside]
    refine lookup_mapIdx_none fun j less same => inside ?_
    have := (take j).1 less
    omega

theorem nodup_keptBytes (start : Nat) (data : List Byte) : ((keptBytes start data).map Prod.fst).Nodup := by
  unfold keptBytes
  refine List.pairwise_iff_getElem.2 fun i j first second less => ?_
  rw [List.length_map, List.length_mapIdx, List.length_take] at second
  rw [List.getElem_map, List.getElem_map, List.getElem_mapIdx, List.getElem_mapIdx]
  dsimp only
  omega

theorem writtenAt_eq_some_iff (nodup : (kept.map Prod.fst).Nodup) {b : Byte} : writtenAt kept a = some b ↔ (a, b) ∈ kept := by
  unfold writtenAt
  induction kept with
  | nil => exact ⟨(nomatch ·), (nomatch ·)⟩
  | cons x rest ih =>
    obtain ⟨k, v⟩ := x
    obtain ⟨fresh, nodup⟩ := List.nodup_cons.1 nodup
    rw [List.lookup_cons]
    by_cases here : a = k
    · subst here
      rw [beq_self_eq_true, List.mem_cons]
      refine ⟨fun is => Or.inl (Prod.ext rfl (Option.some.inj is).symm), fun inside => ?_⟩
      rcases inside with is | later
      · rw [(Prod.mk.inj is).2]
      · exact absurd (List.mem_map.2 ⟨_, later, rfl⟩) fresh
    · rw [beq_eq_false_iff_ne.2 here, List.mem_cons]
      refine (ih nodup).trans ⟨.inr, fun inside => inside.resolve_left fun is => here (Prod.mk.inj is).1⟩

theorem writtenAt_ne_none_iff (nodup : (kept.map Prod.fst).Nodup) : writtenAt kept a ≠ none ↔ ∃ x ∈ kept, x.1 = a := by
  rw [Option.ne_none_iff_exists']
  exact ⟨fun ⟨b, is⟩ => ⟨(a, b), (writtenAt_eq_some_iff nodup).1 is, rfl⟩,
    fun ⟨⟨_, b⟩, inside, is⟩ => ⟨b, (writtenAt_eq_some_iff nodup).2 (is ▸ inside)⟩⟩

/-! ### Ownership (R131) -/

theorem ownership_host_iff : ownership a = .host ↔ HostByte a := by
  unfold ownership headerHostByte
  grind

theorem ownership_sequenceWord_iff {c : Fin 64} : ownership a = .sequenceWord c ↔
    a = 0x200 + 32 * c.val ∨ a = 0x201 + 32 * c.val := by
  have cell := c.isLt
  unfold ownership
  constructor
  · intro owner
    split at owner
    · split at owner <;> cases owner
    · split at owner
      · split at owner <;> cases owner
      · split at owner
        · split at owner
          · have := congrArg Fin.val (Ownership.sequenceWord.inj owner)
            dsimp only at this
            omega
          · cases owner
        · split at owner <;> cases owner
  · intro here
    rw [if_neg (by omega), if_neg (by omega), if_pos (by omega), if_pos (by omega)]
    exact congrArg _ (Fin.ext (by dsimp only; omega))

/-- A sequence word whose two bytes came as 0x00 (R136). -/
theorem collects_iff {c : Fin 64} : collects kept c = true ↔
    writtenAt kept (0x200 + 32 * c.val) = some 0#8 ∧ writtenAt kept (0x201 + 32 * c.val) = some 0#8 := by
  unfold collects cellBase
  rw [decide_eq_true_eq, show 0x200 + 32 * c.val + 1 = 0x201 + 32 * c.val by omega]

theorem applies_iff : applies kept a = true ↔ HostByte a ∨ ∃ c : Fin 64, collects kept c = true ∧
    (a = 0x200 + 32 * c.val ∨ a = 0x201 + 32 * c.val) := by
  unfold applies
  split
  next host => exact ⟨fun _ => .inl (ownership_host_iff.1 host), fun _ => rfl⟩
  next part =>
    refine ⟨(nomatch ·), fun owned => ?_⟩
    rcases owned with host | ⟨c, -, here⟩
    · exact nomatch part.symm.trans (ownership_host_iff.2 host)
    · exact nomatch part.symm.trans (ownership_sequenceWord_iff.2 here)
  next c word =>
    refine ⟨fun collected => .inr ⟨c, collected, ownership_sequenceWord_iff.1 word⟩, fun owned => ?_⟩
    rcases owned with host | ⟨d, collected, here⟩
    · exact nomatch word.symm.trans (ownership_host_iff.2 host)
    · rw [Ownership.sequenceWord.inj (word.symm.trans (ownership_sequenceWord_iff.2 here))]
      exact collected

theorem isStray_iff (nodup : (kept.map Prod.fst).Nodup) : isStray kept data = true ↔ 256 < data.length ∨
    ∃ a, writtenAt kept a ≠ none ∧ ¬ HostByte a ∧ ¬ ∃ c : Fin 64,
      (writtenAt kept (0x200 + 32 * c.val) = some 0#8 ∧ writtenAt kept (0x201 + 32 * c.val) = some 0#8) ∧
        (a = 0x200 + 32 * c.val ∨ a = 0x201 + 32 * c.val) := by
  unfold isStray
  rw [Bool.or_eq_true, decide_eq_true_eq, List.any_eq_true]
  have stray (a : Nat) : (!applies kept a) = true ↔ ¬ HostByte a ∧ ¬ ∃ c : Fin 64,
      (writtenAt kept (0x200 + 32 * c.val) = some 0#8 ∧ writtenAt kept (0x201 + 32 * c.val) = some 0#8) ∧
        (a = 0x200 + 32 * c.val ∨ a = 0x201 + 32 * c.val) := by
    rw [Bool.not_eq_true', ← Bool.not_eq_true, applies_iff, not_or]
    simp only [collects_iff]
  refine or_congr Iff.rfl ⟨fun ⟨x, inside, bad⟩ => ?_, fun ⟨a, written, bad⟩ => ?_⟩
  · exact ⟨x.1, (writtenAt_ne_none_iff nodup).2 ⟨x, inside, rfl⟩, (stray _).1 bad⟩
  · obtain ⟨x, inside, rfl⟩ := (writtenAt_ne_none_iff nodup).1 written
    exact ⟨x, inside, (stray _).2 bad⟩

theorem touches_iff (host : HostByte a) : touches kept a = true ↔ writtenAt kept a ≠ none := by
  unfold touches
  rw [applies_iff.2 (.inl host), Bool.and_true, Option.isSome_iff_ne_none]

theorem touchesAny_iff {n : Nat} (host : ∀ i < n, HostByte (a + i)) :
    touchesAny kept a n = true ↔ ∃ i, i < n ∧ writtenAt kept (a + i) ≠ none := by
  unfold touchesAny
  rw [List.any_eq_true]
  refine exists_congr fun i => ?_
  rw [List.mem_range]
  exact and_congr_right fun within => touches_iff (host i within)

/-! ### The memory after the write -/

theorem mem_storedBytes {b : Byte} : (a, b) ∈ storedBytes kept ↔ (a, b) ∈ kept ∧ HostByte a ∧ a ≠ 9 := by
  unfold storedBytes acknowledgeAddr
  rw [List.mem_filter, Bool.and_eq_true, decide_eq_true_eq, decide_eq_true_eq, ownership_host_iff]

theorem read_storedBytes (nodup : (kept.map Prod.fst).Nodup) (m : Memory) {b : Byte} (written : writtenAt kept a = some b)
    (host : HostByte a) (stored : a ≠ 9) : (m.writeAll (storedBytes kept)).read a = b :=
  Memory.read_writeAll_mem _ m a b (nodup.sublist (List.filter_sublist.map _))
    (mem_storedBytes.2 ⟨(writtenAt_eq_some_iff nodup).1 written, host, stored⟩)

theorem read_notStored (nodup : (kept.map Prod.fst).Nodup) (m : Memory)
    (other : ¬ HostByte a ∨ a = 9 ∨ writtenAt kept a = none) : (m.writeAll (storedBytes kept)).read a = m.read a := by
  refine Memory.read_writeAll_notMem _ m a fun inside => ?_
  obtain ⟨⟨k, b⟩, stored, rfl⟩ := List.mem_map.1 inside
  obtain ⟨written, host, notAcknowledge⟩ := mem_storedBytes.1 stored
  rcases other with notHost | acknowledge | none
  · exact notHost host
  · exact notAcknowledge acknowledge
  · exact nomatch none.symm.trans ((writtenAt_eq_some_iff nodup).2 written)

end Sys2Proof.Machine
end

section
/-! SUPPORT. A closed WRITE: what it stores, whom it tells, and the desk slot by slot (R136, R137, R144). Obligations O43
and O46. -/

namespace Sys2Proof.Machine

open Sys2Proof Host

variable {s : State} {kept : List (Nat × Byte)}

/-! ### The desk at a delivered write (R144, R145) -/

theorem State.posted_iff {slot : Fin 8} : s.posted slot = true ↔
    s.mem.read (0x101 + 32 * slot.val) ≠ s.slots[slot].answerToggle := by
  unfold State.posted
  rw [decide_eq_true_eq, postToggle_eq]

theorem State.deliverSlot_delivered (s : State) (slot : Fin 8) (before : Byte) :
    SlotDelivered s (s.deliverSlot slot before) slot before := by
  unfold State.deliverSlot
  rw [postToggle_eq]
  refine ⟨fun taken => ?_, fun free same => ?_, fun free differs => ?_⟩
  · rw [if_pos (Option.isSome_iff_ne_none.2 taken)]
    by_cases same : s.mem.read (0x101 + 32 * slot.val) = before
    · rw [if_neg (not_not.2 same), if_pos same, List.append_nil]
    · rw [if_pos same, if_neg same]
      rfl
  · rw [free, Option.isSome_none, if_neg Bool.false_ne_true, if_neg fun posted => State.posted_iff.1 posted same]
  · rw [free, Option.isSome_none, if_neg Bool.false_ne_true, if_pos (State.posted_iff.2 differs)]
    exact s.takeSlot_taken slot

/-- The desk writes its slots and sends events, and nothing more. -/
theorem State.deliverSlot_frame (s : State) (slot : Fin 8) (before : Byte) : s.deliverSlot slot before = { s with
    slots := (s.deliverSlot slot before).slots, transit := (s.deliverSlot slot before).transit } := by
  unfold State.deliverSlot State.takeSlot
  dsimp only
  repeat' split
  all_goals rfl

/-- The states between the slots a write touched, in ascending order. -/
theorem State.deliverDesk_steps (s : State) (kept : List (Nat × Byte)) (before : Memory) : ∃ v : Fin 9 → State, v 0 = s ∧
    (∀ k : Fin 8, v k.succ = if touchesAny kept (slotBase k) 10 then (v k.castSucc).deliverSlot k (postToggle before k)
      else v k.castSucc) ∧ v 8 = s.deliverDesk kept before := by
  have all : (indices 8).take 8 = indices 8 := by decide
  refine ⟨fun i => ((indices 8).take i.val).foldl (fun s slot =>
    if touchesAny kept (slotBase slot) 10 then s.deliverSlot slot (postToggle before slot) else s) s, rfl, fun k => ?_, ?_⟩
  · have index : (indices 8)[k.val]? = some k := by
      unfold indices
      rw [List.getElem?_ofFn]
      simp
    dsimp only [Fin.val_succ, Fin.val_castSucc]
    rw [List.take_add_one, index, List.foldl_append]
    rfl
  · dsimp only
    rw [show (8 : Fin 9).val = 8 from rfl, all]
    rfl

theorem State.deliverDesk_frame (s : State) (kept : List (Nat × Byte)) (before : Memory) : s.deliverDesk kept before = { s with
    slots := (s.deliverDesk kept before).slots, transit := (s.deliverDesk kept before).transit } := by
  unfold State.deliverDesk
  generalize indices 8 = slots
  induction slots generalizing s with
  | nil => rfl
  | cons slot slots ih =>
    rw [List.foldl_cons]
    split
    · rw [ih, s.deliverSlot_frame]
    · exact ih s

/-! ### The deliveries (R137) -/

theorem supervisorDelivery_eq {beat : Prop} [Decidable beat] (after : Memory) (touched : touchesAny kept 0x0C 4 = true ↔ beat) :
    supervisorDelivery kept after =
      match writtenAt kept 10, (if beat then some (after.read32 0x0C) else none) with
      | some c, h => [.checkpoint c h]
      | none, some h => [.heartbeatKick h]
      | none, none => [] := by
  unfold supervisorDelivery
  rw [if_congr touched rfl rfl] <;> rfl

theorem collectionDelivery_eq (pool : Pool) : collectionDelivery kept pool =
    if collected pool kept = [] then [] else [.collection (collected pool kept)] := by
  unfold collectionDelivery
  split
  next none => rw [if_pos none]
  next some => rw [if_neg some]

/-- A setting's byte is delivered with its value before and after (R72, R138). -/
theorem settingDelivery_eq {a : Nat} (nodup : (kept.map Prod.fst).Nodup) (m : Memory) (region : 0x1000 ≤ a)
    (edit : Byte → Byte → Instr) :
    (if touches kept a = true then [edit (m.read a) ((m.writeAll (storedBytes kept)).read a)] else []) =
      match writtenAt kept a with | some b => [edit (m.read a) b] | none => [] := by
  have host : HostByte a := .inr (.inr region)
  cases written : writtenAt kept a with
  | none => rw [if_neg fun touched => (touches_iff host).1 touched written]
  | some b =>
    rw [if_pos ((touches_iff host).2 (by rw [written]; exact Option.some_ne_none b)),
      read_storedBytes nodup m written host (by omega)]

/-! ### The closed write -/

/-- The events of a write with a stray byte (R136, R140). -/
def straysOf (kept : List (Nat × Byte)) (data : List Byte) : List Instr :=
  if isStray kept data then [.noticeMarkSet .stray, .counterIncrement .strayWrites] else []

/-- What a write tells the units its bytes touched (R137). -/
def deliveriesOf (s : State) (kept : List (Nat × Byte)) : List Instr :=
  noticeDelivery kept ++ supervisorDelivery kept (s.mem.writeAll (storedBytes kept)) ++ lightDelivery kept
    ++ collectionDelivery kept s.pool ++ settingsDelivery kept s.mem (s.mem.writeAll (storedBytes kept))

/-- The state in which a write's bytes are stored and its deliveries but the desk's are on their way. -/
def State.written (s : State) (kept : List (Nat × Byte)) (data : List Byte) : State := { s with
  transit := s.transit ++ straysOf kept data ++ deliveriesOf s kept
  mem := s.mem.writeAll (storedBytes kept), pool := s.pool.zeroShown kept }

theorem State.closeWrite_eq (s : State) (start : Nat) (data : List Byte) : s.closeWrite start data =
    (s.written (keptBytes start data) data).deliverDesk (keptBytes start data) s.mem := by
  unfold State.closeWrite State.written straysOf
  generalize keptBytes start data = kept
  dsimp only
  refine congrArg (State.deliverDesk · kept s.mem) ?_
  split
  · rw [show s.transit ++ [.noticeMarkSet .stray, .counterIncrement .strayWrites] =
      s.transit ++ [.noticeMarkSet .stray] ++ [.counterIncrement .strayWrites] by rw [List.append_assoc]; rfl]
    rfl
  · rw [List.append_nil]
    rfl

theorem Transfer.shiftedOut_write (x : Transfer) (hi lo : Byte) (data : List Byte) :
    x.shiftedOut 0xA2#8 (hi :: lo :: data) = x.status :: 0#8 :: 0#8 :: writeOut data.length := by
  unfold Transfer.shiftedOut
  rw [show (hi :: lo :: data).length - 2 = data.length from rfl,
    show min 2 (hi :: lo :: data).length = 2 from Nat.min_eq_left (Nat.le_add_left 2 _)]
  rfl

/-- The rising edge of a WRITE on a transaction in progress. -/
theorem exec_write {x : Transfer} (us : Nat) (hi lo : Byte) (data : List Byte) (serves : s.Serves x) :
    exec (.write { us := us, moment := .rises } (hi :: lo :: data)) s =
      let t := (s.elapse us).closeWrite (startAddress hi lo) data
      .next { t with
        transit := t.transit ++ [.counterIncrement .transactions]
        link := { s.link with transfer := none, out := some (x.status :: 0#8 :: 0#8 :: writeOut data.length) } } := by
  have serving : (s.elapse us).link.serving = some x := Link.serving_eq_some_iff.2 serves
  have unfolded : exec (.write { us := us, moment := .rises } (hi :: lo :: data)) s =
      .next ((s.elapse us).selectRises 0xA2#8 (hi :: lo :: data)) := rfl
  rw [unfolded, ← x.shiftedOut_write hi lo data]
  unfold State.selectRises
  rw [serving, show (s.elapse us).selectCloses 0xA2#8 (hi :: lo :: data) =
    (s.elapse us).closeWrite (startAddress hi lo) data from rfl]
  dsimp only
  rw [State.closeWrite_eq, State.deliverDesk_frame]
  rfl

/-! ### A write of one byte of the desk -/

section
variable {k : Nat} {v : Byte}

theorem writtenAt_single_other {a : Nat} (other : a ≠ k) : writtenAt [(k, v)] a = none := by
  unfold writtenAt
  rw [List.lookup_cons, beq_eq_false_iff_ne.2 other]
  rfl

theorem touches_single_other {a : Nat} (other : a ≠ k) : touches [(k, v)] a = false := by
  unfold touches
  rw [writtenAt_single_other other]
  rfl

theorem touchesAny_single_other {a n : Nat} (other : k < a ∨ a + n ≤ k) : touchesAny [(k, v)] a n = false := by
  unfold touchesAny
  rw [List.any_eq_false]
  intro i inside
  have within := List.mem_range.1 inside
  rw [touches_single_other (by omega)]
  exact Bool.false_ne_true

theorem collects_single (c : Fin 64) : collects [(k, v)] c = false := by
  refine Bool.eq_false_iff.2 fun collected => ?_
  obtain ⟨first, second⟩ := collects_iff.1 collected
  by_cases here : 0x200 + 32 * c.val = k
  · rw [writtenAt_single_other (by omega)] at second
    exact nomatch second
  · rw [writtenAt_single_other here] at first
    exact nomatch first

theorem zeroShown_single (p : Pool) : p.zeroShown [(k, v)] = p := by
  have cells : (p.zeroShown [(k, v)]).cells = p.cells := by
    refine Vector.ext fun i less => (ofFn_get _ (⟨i, less⟩ : Fin 64)).trans ?_
    rw [collects_single, if_neg Bool.false_ne_true]
    rfl
  exact congrArg (fun cells => { p with cells := cells }) cells

theorem deliveriesOf_single (desk : 0x100 ≤ k ∧ k < 0x200) : deliveriesOf s [(k, v)] = [] := by
  unfold deliveriesOf noticeDelivery supervisorDelivery lightDelivery settingsDelivery acknowledgeAddr ladderBytes
  have collections : collectionDelivery [(k, v)] s.pool = [] := by
    have none : collected s.pool [(k, v)] = [] :=
      congrArg (List.map _) (List.filter_eq_nil_iff.2 fun c _ => by rw [collects_single]; exact Bool.false_ne_true)
    rw [collectionDelivery_eq, if_pos none]
  rw [collections, writtenAt_single_other (by omega), writtenAt_single_other (by omega), writtenAt_single_other (by omega),
    touchesAny_single_other (by omega), touches_single_other (by omega), touchesAny_single_other (by omega),
    touches_single_other (by omega), touches_single_other (by omega), touchesAny_single_other (by omega)]
  rfl

theorem straysOf_single (host : HostByte k) : straysOf [(k, v)] [v] = [] := by
  unfold straysOf isStray
  rw [List.any_cons, applies_iff.2 (.inl host)]
  rfl

theorem State.written_single (s : State) (slot : Fin 8) : s.written [(0x101 + 32 * slot.val, v)] [v] =
    { s with mem := s.mem.writeAll (storedBytes [(0x101 + 32 * slot.val, v)]) } := by
  unfold State.written
  rw [straysOf_single (by omega), deliveriesOf_single (by omega), zeroShown_single, List.append_nil, List.append_nil]

theorem State.deliverDesk_single (s : State) (slot : Fin 8) (before : Memory) :
    s.deliverDesk [(0x101 + 32 * slot.val, v)] before = s.deliverSlot slot (postToggle before slot) := by
  have alone : ∀ slot : Fin 8, (indices 8).filter (fun k => decide (k = slot)) = [slot] := by decide
  have touched (j : Fin 8) : touchesAny [(0x101 + 32 * slot.val, v)] (slotBase j) 10 = decide (j = slot) := by
    unfold slotBase
    by_cases here : j = slot
    · rw [decide_eq_true here, touchesAny_iff fun i less => .inr (.inl (by omega))]
      refine ⟨1, by decide, ?_⟩
      rw [here, show 0x100 + 32 * slot.val + 1 = 0x101 + 32 * slot.val by omega]
      unfold writtenAt
      rw [List.lookup_cons, beq_self_eq_true]
      exact Option.some_ne_none v
    · rw [decide_eq_false here, touchesAny_single_other]
      have := Fin.val_ne_of_ne here
      omega
  unfold State.deliverDesk
  simp only [touched]
  rw [← List.foldl_filter, alone]
  rfl

end

end Sys2Proof.Machine

namespace Sys2Proof.Settled

open Sys2Proof Sys2Proof.Machine Host

/-- Settles O43: the bytes kept, their owners, the memory, the deliveries, and the desk slot by slot. -/
theorem writeApplies : Obligations.WriteApplies := by
  intro us hi lo data s x serves
  obtain ⟨v, first, next, last⟩ := State.deliverDesk_steps
    ((s.elapse us).written (keptBytes (startAddress hi lo) data) data) (keptBytes (startAddress hi lo) data) s.mem
  have nodup := nodup_keptBytes (startAddress hi lo) data
  refine ⟨v, straysOf (keptBytes (startAddress hi lo) data) data, writeOut data.length, ?_⟩
  intro start written
  have same : written = writtenAt (keptBytes (startAddress hi lo) data) := (funext (writtenAt_eq hi lo data)).symm
  have ran := exec_write us hi lo data serves
  dsimp only at ran
  rw [State.closeWrite_eq, show (s.elapse us).mem = s.mem from rfl, ← last] at ran
  clear_value written
  subst same
  generalize keptBytes (startAddress hi lo) data = kept at *
  intro touched collected stray mem ladder heartbeat cells told
  have memory : mem = s.mem.writeAll (storedBytes kept) := congrArg State.mem first
  have stray_iff : isStray kept data = true ↔ stray := isStray_iff nodup
  have slotTouched (k : Fin 8) : touchesAny kept (slotBase k) 10 = true ↔ touched (0x100 + 32 * k.val) 10 :=
    touchesAny_iff fun i less => .inr (.inl (by unfold slotBase; omega))
  have heartbeats := supervisorDelivery_eq mem (touchesAny_iff (kept := kept) (a := 0x0C) (n := 4) fun i less => .inl (by omega))
  have lights : lightDelivery kept =
      if writtenAt kept 11 ≠ none ∨ touched 0x1880 0x51 then [.lightTableWrite] else [] := by
    unfold lightDelivery
    refine if_congr ?_ rfl rfl
    rw [Bool.or_eq_true, touches_iff (.inl (by omega)), touchesAny_iff fun i less => .inr (.inr (by omega))]
  have collections : collectionDelivery kept s.pool = if cells = [] then [] else [.collection cells] := by
    have same : Machine.collected s.pool kept = cells := congrArg (List.map _)
      (List.filter_congr fun c _ => Bool.eq_iff_iff.2 (collects_iff.trans decide_eq_true_iff.symm))
    rw [collectionDelivery_eq, same]
  have ladders : (if touchesAny kept 0x1200 ladderBytes = true then [Instr.tickLadderEdit (ladderOfMemory s.mem) (ladderOfMemory mem)]
      else []) = if touched 0x1200 9 then [.tickLadderEdit (ladder s.mem) (ladder mem)] else [] :=
    if_congr (touchesAny_iff fun i less => .inr (.inr (by omega))) rfl rfl
  have tells : deliveriesOf s kept = told := by
    unfold deliveriesOf settingsDelivery
    rw [settingDelivery_eq nodup s.mem (by omega) .hostRailMaskEdit, settingDelivery_eq nodup s.mem (by omega) .linkRailEdit,
      ← memory, heartbeats, lights, collections, ladders, ← List.append_assoc, ← List.append_assoc]
    rfl
  refine ⟨fun strays => if_pos (stray_iff.2 strays), fun clean => if_neg fun strays => clean (stray_iff.1 strays),
    fun a b written host stored => ?_, fun a other => ?_, fun c => ?_, ?_, fun k => ⟨fun touches => ?_, fun other => ?_⟩,
    ?_, ran⟩
  · rw [memory]
    exact read_storedBytes nodup s.mem written host stored
  · rw [memory]
    exact read_notStored nodup s.mem other
  · rw [first]
    refine (ofFn_get _ c).trans (if_congr collects_iff rfl rfl)
  · rw [first, memory]
    exact congrArg (fun sent => { s with
      clock := s.clock + us, transit := s.transit ++ straysOf kept data ++ sent
      mem := s.mem.writeAll (storedBytes kept), pool := s.pool.zeroShown kept }) tells
  · rw [next, if_pos ((slotTouched k).2 touches), postToggle_eq]
    exact State.deliverSlot_delivered _ k _
  · rw [next, if_neg fun touches => other ((slotTouched k).1 touches)]
  · unfold writeOut
    rw [List.length_map, List.length_range]

/-- Settles O46: a write of a post toggle alone touches its slot and no other unit. -/
theorem deskTakes : Obligations.DeskTakes := by
  intro us slot v s x serves b
  have kept : keptBytes (startAddress (BitVec.ofNat 8 ((b + 1) / 256)) (BitVec.ofNat 8 ((b + 1) % 256))) [v] =
      [(0x101 + 32 * slot.val, v)] := by
    refine congrArg (fun k => [(k, v)]) (?_ : (startAddress _ _ + 0) % 0x4000 = _)
    unfold startAddress
    rw [BitVec.toNat_ofNat, BitVec.toNat_ofNat]
    omega
  have here : b + 1 = 0x101 + 32 * slot.val := by omega
  have nodup : ([(0x101 + 32 * slot.val, v)].map Prod.fst).Nodup := List.nodup_singleton _
  have ran := exec_write us (BitVec.ofNat 8 ((b + 1) / 256)) (BitVec.ofNat 8 ((b + 1) % 256)) [v] serves
  dsimp only at ran
  rw [State.closeWrite_eq, kept, State.written_single, State.deliverDesk_single] at ran
  have mem := congrArg State.mem (State.deliverSlot_frame
    { s.elapse us with mem := s.mem.writeAll (storedBytes [(0x101 + 32 * slot.val, v)]) } slot (postToggle s.mem slot))
  refine ⟨_, _, ran, ?_, fun a other => ?_, ?_, rfl, rfl⟩
  · rw [here]
    refine (congrArg (fun m : Memory => m.read (0x101 + 32 * slot.val)) mem).trans
      (read_storedBytes nodup s.mem ?_ (by omega) (by omega))
    exact (writtenAt_eq_some_iff nodup).2 (List.mem_singleton.2 rfl)
  · exact (congrArg (fun m : Memory => m.read a) mem).trans
      (read_notStored nodup s.mem (.inr (.inr (writtenAt_single_other (here ▸ other)))))
  · rw [here, ← postToggle_eq]
    exact (congrArg (fun m => SlotDelivered { s with clock := s.clock + us, mem := m } _ slot (postToggle s.mem slot)) mem).mpr
      (State.deliverSlot_delivered _ slot _)

end Sys2Proof.Settled
end

section
/-! SUPPORT. The settings store: what a store snapshots, and what a load or a reload leaves in the
memory (R163 to R166). Obligation O47. -/

namespace Sys2Proof.Machine

open Sys2Proof Host

variable {s t u : State}

/-! ### The settings region (R163, R164) -/

theorem Memory.read_settings (m : Memory) {a : Nat} (low : 0x1000 ≤ a) (high : a < 0x3000) : m.settings.read a = m.read a :=
  (Memory.read_filter m (fun k => decide (0x1000 ≤ k ∧ k < 0x3000)) a).trans (if_pos (decide_eq_true ⟨low, high⟩))

theorem Memory.imageWf_region {image : Memory} (wf : image.imageWf = true) {a : Nat} (listed : a ∈ image.map Prod.fst) :
    0x1000 ≤ a ∧ a < 0x3000 := by
  unfold Memory.imageWf at wf
  rw [Bool.and_eq_true, List.all_eq_true] at wf
  obtain ⟨-, region⟩ := wf
  obtain ⟨c, inside, rfl⟩ := List.mem_map.1 listed
  simpa using region c inside

/-- An image written over the settings region leaves every other byte (R164, R166). -/
theorem Memory.read_loadSettings (m : Memory) {image : Memory} (wf : image.imageWf = true) (a : Nat) :
    (m.loadSettings image).read a = if 0x1000 ≤ a ∧ a < 0x3000 then image.read a else m.read a := by
  have low := Memory.read_filter m (fun k => decide (k < 0x1000)) a
  have high := Memory.read_filter m (fun k => decide (0x3000 ≤ k)) a
  have lowKeys : a ∈ (m.filter fun c => decide (c.1 < 0x1000)).map Prod.fst → a < 0x1000 := fun listed => by
    obtain ⟨c, inside, rfl⟩ := List.mem_map.1 listed
    exact of_decide_eq_true (List.mem_filter.1 inside).2
  have highKeys : ¬ 0x3000 ≤ a → a ∉ (m.filter fun c => decide (0x3000 ≤ c.1)).map Prod.fst := fun below listed => by
    obtain ⟨c, inside, rfl⟩ := List.mem_map.1 listed
    exact below (of_decide_eq_true (List.mem_filter.1 inside).2)
  have region := Memory.imageWf_region wf (a := a)
  unfold Memory.loadSettings
  rw [List.append_assoc, Memory.read_append, Memory.read_append]
  by_cases below : a < 0x1000
  · rw [if_neg (fun h => Nat.not_lt.2 h.1 below : ¬ (0x1000 ≤ a ∧ a < 0x3000)), low, if_pos (decide_eq_true below)]
    split
    · rfl
    next unlisted =>
      rw [if_neg fun listed => Nat.not_lt.2 (region listed).1 below, high, if_neg (by rw [decide_eq_true_eq]; omega)]
      rw [Memory.read_notMem _ _ unlisted, if_pos (decide_eq_true below)] at low
      exact low
  · rw [if_neg fun listed => below (lowKeys listed)]
    by_cases above : 0x3000 ≤ a
    · rw [if_neg fun listed => Nat.not_lt.2 above (region listed).2, if_neg fun h => Nat.not_lt.2 above h.2, high,
        if_pos (decide_eq_true above)]
    · refine Eq.trans ?_ (if_pos (And.intro (Nat.not_lt.1 below) (Nat.not_le.1 above))).symm
      split
      · rfl
      next unlisted => rw [Memory.read_notMem _ _ (highKeys above), Memory.read_notMem _ _ unlisted]

theorem NvStore.isMatch_iff (nv : NvStore) : nv.isMatch = true ↔ nv.valid = true ∧ imageCrc nv.image = nv.crc := by
  unfold NvStore.isMatch
  rw [Bool.and_eq_true, decide_eq_true_eq]

/-- What a load or a reload writes over the region (R164, R166). -/
theorem NvStore.loads_eq (nv : NvStore) [Decidable (nv.valid = true ∧ imageCrc nv.image = nv.crc)] :
    nv.loads = if nv.valid = true ∧ imageCrc nv.image = nv.crc then nv.image else factoryImage :=
  if_congr nv.isMatch_iff rfl rfl

theorem NvStore.loads_wf (nv : NvStore) (wf : nv.image.imageWf = true) : nv.loads.imageWf = true := by
  unfold NvStore.loads
  split
  · exact wf
  · exact factoryImage_wf

/-! ### STORE SETTINGS (R165) -/

/-- The report of a store or a reload, its mark and the answer, in their order. -/
theorem State.reportSettings_answer (s : State) (sub : Nat) (urgent : Bool) (slot : Fin 8) (code : AnswerCode) (data : Words) :
    (s.reportSettings sub urgent).answer slot code data = { s with
      transit := s.transit ++ [.reportPosting (s.settingsPosting sub urgent), .noticeMarkSet .settings,
        .deskAnswer slot code data] } := by
  refine congrArg (fun transit => ({ s with transit := transit } : State)) ?_
  change s.transit ++ [_] ++ [_] ++ [_] = _
  rw [List.append_assoc, List.append_assoc]
  rfl

theorem execStoreSettings_busy {slot : Fin 8} (busy : s.store ≠ .idle) :
    execStoreSettings slot s = .next ((s.taking (.storeSettings slot)).answer slot .busy) := by
  unfold execStoreSettings
  dsimp only
  split
  next idle => exact absurd idle busy
  · rfl

theorem execStoreSettings_idle {slot : Fin 8} (idle : s.store = .idle) : execStoreSettings slot s =
    .next { s.taking (.storeSettings slot) with
      store := .storing slot s.mem.settings (imageCrc s.mem.settings) s.eraseMoment, freeCount := s.freeCount + 1 } := by
  unfold execStoreSettings
  dsimp only
  rw [show (s.taking (.storeSettings slot)).store = .idle from idle]
  rfl

theorem execStoreComplete_eq {slot : Fin 8} {image : Memory} {crc : Word} {eraseAt : Nat} (us : Nat) (verified : Bool)
    (storing : s.store = .storing slot image crc eraseAt) : execStoreComplete us verified s =
      let now : State := { s.elapse us with store := .idle, nv := s.nv.Erased }
      .next (if verified then
        (({ now with
          nv := { s.nv.Erased with image := image, crc := crc, valid := true }
          partState := if s.partState = PartState.defaulted then PartState.ready else s.partState } : State).reportSettings
            1 false).answer slot .done
      else (now.reportSettings 4 true).answer slot .failed) := by
  unfold execStoreComplete
  dsimp only
  rw [show (s.elapse us).store = .storing slot image crc eraseAt from storing]
  dsimp only
  split <;> rfl

/-! ### RELOAD SETTINGS (R166) -/

theorem execReloadSettings_busy {slot : Fin 8} (busy : s.store ≠ .idle ∨ s.sweep ≠ none) :
    execReloadSettings slot s = .next ((s.taking (.reloadSettings slot)).answer slot .busy) := by
  unfold execReloadSettings
  dsimp only
  split
  next idle => exact if_pos (Option.isSome_iff_ne_none.2 (busy.resolve_left fun h => h idle))
  · rfl

theorem execReloadSettings_idle {slot : Fin 8} (idle : s.store = .idle) (rests : s.sweep = none) :
    execReloadSettings slot s = .next ((s.taking (.reloadSettings slot)).setStore (.reloading slot)) := by
  unfold execReloadSettings
  dsimp only
  rw [show (s.taking (.reloadSettings slot)).store = .idle from idle,
    show (s.taking (.reloadSettings slot)).sweep = none from rests]
  rfl

end Sys2Proof.Machine

namespace Sys2Proof.Settled

open Sys2Proof Sys2Proof.Machine Host

/-- Settles O47: the snapshot of the region with its erase to come, and the end of the verify. -/
theorem storeSettings : Obligations.StoreSettings := by
  intro slot us s
  refine ⟨?_, fun k image crc eraseAt storing => ⟨?_, ?_⟩⟩
  · by_cases idle : s.store = .idle
    · refine ⟨_, execStoreSettings_idle idle, fun busy => absurd idle busy, fun _ => ⟨s.mem.settings, s.eraseMoment, rfl,
        Nat.le_add_right _ _, Nat.add_le_add_left (Nat.min_le_right _ _) _, fun a low high => s.mem.read_settings low high, rfl⟩⟩
    · exact ⟨_, execStoreSettings_busy idle, fun _ => rfl, fun is => absurd is idle⟩
  · refine (execStoreComplete_eq us true storing).trans (congrArg Outcome.next ?_)
    rw [if_pos rfl, State.reportSettings_answer]
    rfl
  · refine (execStoreComplete_eq us false storing).trans (congrArg Outcome.next ?_)
    rw [if_neg Bool.false_ne_true, State.reportSettings_answer]
    rfl

end Sys2Proof.Settled
end

section
/-! SUPPORT. The apply of a reload: the region, the phases, the cut under a changed host rail mask and the link port
(R166, R72, R138). Obligation O48. -/

namespace Sys2Proof.Machine

open Sys2Proof Host

variable {s t u : State}

/-! ### The link port at a cut (R52, R138) -/

/-- What a cut does to the link port: nothing, or the link rail's switching off, after which the port is what an evaluation
of a rail commanded off makes of it. -/
structure CutsLink (s t : State) : Prop where
  mem : t.mem = s.mem
  stays_off : s.rails[linkRail s.mem].commanded = false → t.rails[linkRail s.mem].commanded = false
  cut_or_same : t.link = s.link ∨ t.rails[linkRail s.mem].commanded = false
  evaluated : ∀ x : Rail, x.commanded = false → t.link.evaluate (linkRail s.mem) x = s.link.evaluate (linkRail s.mem) x

theorem CutsLink.of_same (mem : t.mem = s.mem) (rails : t.rails = s.rails) (link : t.link = s.link) : CutsLink s t :=
  ⟨mem, fun off => by rw [rails]; exact off, .inl link, fun x _ => by rw [link]⟩

theorem CutsLink.trans (h : CutsLink s t) (h' : CutsLink t u) : CutsLink s u := by
  obtain ⟨mem, off, same, evaluated⟩ := h
  obtain ⟨mem', off', same', evaluated'⟩ := h'
  simp only [mem] at off' same' evaluated'
  refine ⟨mem'.trans mem, off' ∘ off, ?_, fun x closed => (evaluated' x closed).trans (evaluated x closed)⟩
  rcases same with same | cut
  · exact same'.imp (·.trans same) id
  · exact .inr (off' cut)

/-- The evaluation of the link rail after a cut is one of the port as it was. -/
theorem CutsLink.evaluate_eq (h : CutsLink s t) :
    t.link.evaluate (linkRail s.mem) t.rails[linkRail s.mem] = s.link.evaluate (linkRail s.mem) t.rails[linkRail s.mem] := by
  rcases h.cut_or_same with same | cut
  · rw [same]
  · exact h.evaluated _ cut

theorem Link.evaluate_closed (l : Link) (r : Fin 6) {x y : Rail} (off : x.commanded = false) (off' : y.commanded = false) :
    (l.evaluate r x).evaluate r y = l.evaluate r y := by
  rw [Link.evaluate_eq, Link.evaluate_eq, Link.evaluate_eq, off, off']
  simp

theorem State.cutRail_link (s : State) (r : Fin 6) : CutsLink s (s.cutRail r) := by
  obtain ⟨cut, others, -, -, -, frame⟩ := s.cutRail_cuts r
  have off (d : Fin 6) : s.rails[d].commanded = false → (s.cutRail r).rails[d].commanded = false := fun off => by
    by_cases here : d = r
    · rw [cut d here]
    · rw [others d here]
      exact off
  refine ⟨by rw [frame], off _, ?_, ?_⟩
  · by_cases here : linkRail s.mem = r
    · exact .inr (by rw [cut _ here])
    · refine .inl ?_
      rw [State.cutRail_eq]
      split
      · exact s.setRail_link r _ (Ne.symm here)
      · rfl
  · intro x closed
    rw [State.cutRail_eq]
    split
    · by_cases here : r = linkRail s.mem
      · have link : ((s.setRail r { s.rails[r] with commanded := false, watched := false }).sendAll (offEvents s.mem r true)).link =
            s.link.evaluate r { s.rails[r] with commanded := false, watched := false } := if_pos here
        rw [link]
        subst here
        exact s.link.evaluate_closed _ rfl closed
      · exact congrArg (Link.evaluate · (linkRail s.mem) x) (s.setRail_link r _ here)
    · rfl

theorem State.cutRails_link (s : State) (mask : BitVec 6) : CutsLink s (s.cutRails mask) := by
  have listed : ∀ (l : List (Fin 6)) (s : State),
      CutsLink s (l.foldl (fun s r => if mask.getLsbD r.val then s.cutRail r else s) s) := by
    intro l
    induction l with
    | nil => exact fun s => .of_same rfl rfl rfl
    | cons r l ih =>
      intro s
      rw [List.foldl_cons]
      refine .trans ?_ (ih _)
      split
      · exact s.cutRail_link r
      · exact .of_same rfl rfl rfl
  exact listed (indices 6) s

theorem State.forcedCut_link (s : State) : CutsLink s s.forcedCut := by
  obtain ⟨_, -, -, -, -, -, frame⟩ := s.abortWay_aborted (hostMask s.mem)
  have aborted : CutsLink s ((s.abortChannel 0 .supervisor).abortSharing (hostMask s.mem)) := by
    rw [frame]
    exact .of_same rfl rfl rfl
  exact (aborted.trans (State.cutRails_link _ _)).trans (.of_same rfl rfl rfl)

/-- A cut stands after the port has evaluated its rail anew. -/
theorem CutUnder.deliverLink {mask : BitVec 6} (h : CutUnder t u mask) (rails : t.rails = s.rails) (lines : t.lines = s.lines)
    (channels : t.channels = s.channels) : CutUnder s u.deliverLink mask := by
  unfold CutUnder at h ⊢
  rw [rails, lines, channels] at h
  obtain ⟨on, off, level, aborted, others, flush⟩ := h
  refine ⟨on, off, level, aborted, others, fun commanded named => ?_⟩
  obtain ⟨told, -⟩ := flush commanded named
  have closed : u.rails[linkRail u.mem].commanded = false := congrArg Rail.commanded (on (linkRail u.mem) named)
  refine ⟨told, ?_⟩
  unfold State.deliverLink
  dsimp only
  rw [Link.evaluate_eq, closed]
  exact ⟨rfl, by simp⟩

/-! ### The apply (R166) -/

/-- The region, the part state and the events of a reload, before it is told to the units. -/
def State.reloaded (s : State) (slot : Fin 8) : State := { s with
  mem := s.mem.loadSettings s.nv.loads
  partState := if s.nv.isMatch then s.partState else PartState.defaulted
  store := .idle
  transit := s.transit ++ [.reportPosting (s.settingsPosting (if s.nv.isMatch then 2 else 3) (!s.nv.isMatch)),
    .noticeMarkSet .settings, .deskAnswer slot .done { w0 := if s.nv.isMatch then 0 else 1 }] }

theorem State.applyReload_eq (s : State) (slot : Fin 8) : s.applyReload slot =
    ((s.reloaded slot).phaseRestart.hostMaskEdited (s.mem.read 0x10E0)
      ((s.mem.loadSettings s.nv.loads).read 0x10E0)).deliverLink := by
  unfold State.applyReload State.reloaded
  dsimp only
  cases s.nv.isMatch
  · exact congrArg (fun t : State => (t.phaseRestart.hostMaskEdited _ _).deliverLink) (State.reportSettings_answer ..)
  · exact congrArg (fun t : State => (t.phaseRestart.hostMaskEdited _ _).deliverLink) (State.reportSettings_answer ..)

/-- The phases begun afresh (R122). -/
theorem State.phaseRestart_phases (s : State) (k : Fin 8) :
    s.phaseRestart.sched.lengths[k] = tickLength s.mem k.val ∧
    s.phaseRestart.sched.nextAdvance[k] = some (s.clock + tickLength s.mem k.val * 1000) ∧
    s.phaseRestart.shown.ticks.lengths[k] = tickLength s.mem k.val ∧
    s.phaseRestart.shown.ticks.left[k] = some (tickLength s.mem k.val) := by
  obtain ⟨-, -, advance, lengths, -⟩ := s.phaseRestart_restarts
  have length : s.phaseRestart.sched.lengths[k] = tickLength s.mem k.val := ofFn_get _ k
  obtain ⟨next, left⟩ := advance k
  rw [length] at next left
  rw [lengths]
  exact ⟨length, next, length, left⟩

theorem State.reloaded_transit (s : State) (slot : Fin 8) :
    let ok := s.nv.valid = true ∧ imageCrc s.nv.image = s.nv.crc
    (s.reloaded slot).transit = s.transit ++ [posting s.uptime .settings (if ok then 2 else 3) (decide (¬ ok)) 0
        { w0 := natWord s.nv.count }, .noticeMarkSet .settings, .deskAnswer slot .done { w0 := if ok then 0 else 1 }] := by
  intro ok
  by_cases fine : ok
  · have isMatch : s.nv.isMatch = true := s.nv.isMatch_iff.2 fine
    unfold State.reloaded
    rw [isMatch, if_pos rfl, if_pos fine, if_pos fine, decide_eq_false (not_not.2 fine)]
    rfl
  · have isMatch : s.nv.isMatch = false := Bool.eq_false_iff.2 fun is => fine (s.nv.isMatch_iff.1 is)
    unfold State.reloaded
    rw [isMatch, if_neg fine, if_neg fine, decide_eq_true fine]
    rfl

/-- A reload with its phases begun afresh. -/
theorem State.reloaded_restarted (s : State) (slot : Fin 8) : (s.reloaded slot).phaseRestart = { s.reloaded slot with
    sched := { s.sched with
      lengths := (s.reloaded slot).phaseRestart.sched.lengths
      nextAdvance := (s.reloaded slot).phaseRestart.sched.nextAdvance }
    shown := { s.shown with ticks := (s.reloaded slot).phaseRestart.shown.ticks } } := by
  obtain ⟨-, -, -, -, restarted⟩ := (s.reloaded slot).phaseRestart_restarts
  exact restarted

/-- The mask edit of a reload: the forced cut, or nothing (R72). -/
theorem State.hostMaskEdited_cases (s : State) (before after : Memory) :
    let cut : Prop := (s.sup.state = .off ∨ s.sup.state = .warming ∨ s.sup.state = .held) ∧ hostMask after ≠ hostMask before
    (cut → s.hostMaskEdited (before.read 0x10E0) (after.read 0x10E0) = s.forcedCut) ∧
    (¬ cut → s.hostMaskEdited (before.read 0x10E0) (after.read 0x10E0) = s) := by
  have cut : (before.read 0x10E0).setWidth 6 ≠ (after.read 0x10E0).setWidth 6 ∧ s.sup.state.hostOff ↔
      (s.sup.state = .off ∨ s.sup.state = .warming ∨ s.sup.state = .held) ∧ hostMask after ≠ hostMask before := by
    rw [SupState.hostOff_iff, and_comm]
    exact and_congr_right fun _ => ne_comm
  exact ⟨fun edited => if_pos (cut.2 edited), fun stands => if_neg fun edited => stands (cut.1 edited)⟩

/-- What the mask edit of a reload may move. -/
theorem State.hostMaskEdited_edits (s : State) (before after : Byte) : ∃ sent,
    (s.hostMaskEdited before after).transit = s.transit ++ sent ∧ CutsLink s (s.hostMaskEdited before after) ∧
    s.hostMaskEdited before after = s.onto (s.hostMaskEdited before after) := by
  unfold State.hostMaskEdited
  split
  · obtain ⟨sent, transit⟩ := appends_forcedCut s
    exact ⟨sent, transit.symm, s.forcedCut_link, local_forcedCut.frame s⟩
  · exact ⟨[], (List.append_nil _).symm, .of_same rfl rfl rfl, rfl⟩

/-- The apply of a reload at its moment (R166). -/
theorem State.applyReload_reloads (s : State) (slot : Fin 8) (wf : s.nv.image.imageWf = true) :
    ∃ sent,
      let t := s.applyReload slot
      let ok := s.nv.valid = true ∧ imageCrc s.nv.image = s.nv.crc
      t.clock = s.clock ∧ t.store = .idle ∧ t.partState = (if ok then s.partState else .defaulted) ∧
      (∀ a : Nat, 0x1000 ≤ a → a < 0x3000 → t.mem.read a = (if ok then s.nv.image else factoryImage).read a) ∧
      (∀ a : Nat, a < 0x1000 ∨ 0x3000 ≤ a → t.mem.read a = s.mem.read a) ∧
      t.transit = s.transit ++ [posting t.uptime .settings (if ok then 2 else 3) (decide (¬ ok)) 0
          { w0 := natWord s.nv.count }, .noticeMarkSet .settings,
        .deskAnswer slot .done { w0 := if ok then 0 else 1 }] ++ sent ∧
      (∀ k : Fin 8, t.sched.lengths[k] = tickLength t.mem k.val ∧
        t.sched.nextAdvance[k] = some (t.clock + tickLength t.mem k.val * 1000) ∧
        t.shown.ticks.lengths[k] = tickLength t.mem k.val ∧ t.shown.ticks.left[k] = some (tickLength t.mem k.val)) ∧
      (let cut : Prop := (s.sup.state = .off ∨ s.sup.state = .warming ∨ s.sup.state = .held) ∧
         hostMask t.mem ≠ hostMask s.mem
       (cut → CutUnder s t (hostMask t.mem)) ∧
       (¬ cut → t.rails = s.rails ∧ t.lines = s.lines ∧ t.channels = s.channels ∧ sent = [])) ∧
      (s.HostRailsOff → t.HostRailsOff) ∧ LinkEvaluated s t (linkRail t.mem) ∧
      t = { s with
        clock := t.clock, transit := t.transit, partState := t.partState, mem := t.mem, store := t.store
        rails := t.rails, lines := t.lines, channels := t.channels
        sched := { s.sched with lengths := t.sched.lengths, nextAdvance := t.sched.nextAdvance }, link := t.link
        shown := { s.shown with ticks := t.shown.ticks } } := by
  have off := (s.applyReload_spares (g := True) slot).rails
  have phases := (s.reloaded slot).phaseRestart_phases
  have start := s.reloaded_restarted slot
  have read := s.mem.read_loadSettings (s.nv.loads_wf wf)
  rw [State.applyReload_eq] at off ⊢
  generalize (s.reloaded slot).phaseRestart = w at *
  obtain ⟨sent, transit, link, frame⟩ := w.hostMaskEdited_edits (s.mem.read 0x10E0) ((s.mem.loadSettings s.nv.loads).read 0x10E0)
  obtain ⟨cuts, stands⟩ := w.hostMaskEdited_cases s.mem (s.mem.loadSettings s.nv.loads)
  have cutUnder := w.forcedCut_cutUnder
  have sup : w.sup = s.sup := by rw [start]; rfl
  have mem : w.mem = s.mem.loadSettings s.nv.loads := by rw [start]; rfl
  rw [sup] at cuts stands
  rw [mem] at cutUnder
  have wLink : w.link = s.link := by rw [start]; rfl
  have told := (congrArg State.transit start).trans (s.reloaded_transit slot)
  generalize w.hostMaskEdited (s.mem.read 0x10E0) ((s.mem.loadSettings s.nv.loads).read 0x10E0) = v at *
  have vMem : v.mem = s.mem.loadSettings s.nv.loads := by rw [frame]; exact mem
  have vSup : v.deliverLink.sup = s.sup := by
    change v.sup = _
    rw [frame]
    exact sup
  have vLink : v.deliverLink.link = s.link.evaluate (linkRail w.mem) v.rails[linkRail w.mem] :=
    (congrArg (fun m : Memory => v.link.evaluate (linkRail m) v.rails[linkRail m]) link.mem).trans
      (link.evaluate_eq.trans (by rw [wLink]))
  have edited : hostMask v.deliverLink.mem = hostMask (s.mem.loadSettings s.nv.loads) := congrArg hostMask vMem
  refine ⟨sent, ?_, ?_, ?_, ?_, ?_, ?_, ?_, ⟨?_, ?_⟩, ?_, ?_, ?_⟩
  · change v.clock = _
    rw [frame, start]
    rfl
  · change v.store = _
    rw [frame, start]
    rfl
  · change v.partState = _
    rw [frame, start]
    exact if_congr s.nv.isMatch_iff rfl rfl
  · intro a low high
    change v.mem.read a = _
    rw [vMem, read, if_pos ⟨low, high⟩, NvStore.loads_eq]
  · intro a outside
    change v.mem.read a = _
    rw [vMem, read, if_neg (by omega)]
  · change v.transit = s.transit ++ [posting v.uptime _ _ _ _ _, _, _] ++ sent
    rw [transit, told, show v.uptime = s.uptime by rw [frame, start]; rfl]
  · intro k
    change v.sched.lengths[k] = tickLength v.mem k.val ∧ v.sched.nextAdvance[k] = some (v.clock + tickLength v.mem k.val * 1000) ∧
      v.shown.ticks.lengths[k] = tickLength v.mem k.val ∧ v.shown.ticks.left[k] = some (tickLength v.mem k.val)
    have sched : v.sched = w.sched := by rw [frame]; rfl
    have shown : v.shown = w.shown := by rw [frame]; rfl
    have clock : v.clock = s.clock := by rw [frame, start]; rfl
    rw [vMem, sched, shown, clock]
    exact phases k
  · intro cut
    rw [edited] at cut ⊢
    have whole : v = w.forcedCut := cuts cut
    subst whole
    exact cutUnder.deliverLink (by rw [start]; rfl) (by rw [start]; rfl) (by rw [start]; rfl)
  · intro same
    rw [edited] at same
    have whole : v = w := stands same
    subst whole
    refine ⟨?_, ?_, ?_, List.append_cancel_left (transit.symm.trans (List.append_nil _).symm)⟩
    · exact (congrArg State.rails start :)
    · exact (congrArg State.lines start :)
    · exact (congrArg State.channels start :)
  · intro before
    by_cases same : hostMask v.deliverLink.mem = hostMask s.mem
    · exact off same before
    · intro locked r masked
      rw [edited] at same masked
      have whole : v = w.forcedCut := cuts ⟨(SupState.hostOff_iff _).1 (vSup ▸ locked), same⟩
      subst whole
      obtain ⟨cut, -⟩ := cutUnder
      exact congrArg Rail.commanded (cut r masked)
  · refine (congrArg (fun m : Memory => LinkEvaluated s v.deliverLink (linkRail m)) link.mem).mpr ?_
    exact vLink.trans (Link.evaluate_eq ..)
  · unfold State.deliverLink
    rw [frame, start]
    rfl

end Sys2Proof.Machine

namespace Sys2Proof.Settled

open Sys2Proof Sys2Proof.Machine Host

/-- Settles O48: the requests refused and taken, and the apply: region, report, phases, the cut of a changed mask and the
port. -/
theorem reloadSettings : Obligations.ReloadSettings := by
  intro slot us s
  refine ⟨?_, fun reloading wf => ?_⟩
  · by_cases taken : s.store = .idle ∧ s.sweep = none
    · exact ⟨_, execReloadSettings_idle taken.1 taken.2, fun busy => (busy.elim (· taken.1) (· taken.2)).elim, fun _ _ => rfl⟩
    · exact ⟨_, execReloadSettings_busy (not_and_or.1 taken), fun _ => rfl, fun idle rests => absurd ⟨idle, rests⟩ taken⟩
  · have ran : exec (.reloadApply us) s = .next ((s.elapse us).applyReload slot) := by
      change execReloadApply us s = _
      unfold execReloadApply
      dsimp only
      rw [show (s.elapse us).store = .reloading slot from reloading]
    obtain ⟨sent, reloads⟩ := (s.elapse us).applyReload_reloads slot wf
    exact ⟨_, sent, ran, reloads⟩

end Sys2Proof.Settled
end

section
/-! SUPPORT. Start-up: the load, the notice of a defaulted start, what begins at READY, and auto-start (R164, R70).
Obligation O3. -/

namespace Sys2Proof.Machine

open Sys2Proof Host

variable {s t u : State}

/-! ### What a posting moves (R156) -/

/-- The pool alone has changed, and events have been sent. -/
def PoolOnly (s t : State) : Prop :=
  (∃ sent, t.transit = s.transit ++ sent) ∧ t = { s with pool := t.pool, transit := t.transit }

theorem PoolOnly.refl (s : State) : PoolOnly s s := ⟨⟨[], (List.append_nil _).symm⟩, rfl⟩

theorem PoolOnly.trans (h : PoolOnly s t) (h' : PoolOnly t u) : PoolOnly s u := by
  obtain ⟨⟨sent, transit⟩, frame⟩ := h
  obtain ⟨⟨sent', transit'⟩, frame'⟩ := h'
  refine ⟨⟨sent ++ sent', by rw [transit', transit, List.append_assoc]⟩, ?_⟩
  rw [frame', frame]

theorem State.send_poolOnly (s : State) (c : Instr) : PoolOnly s (s.send c) := ⟨⟨[c], rfl⟩, rfl⟩

theorem State.setPool_poolOnly (s : State) (p : Pool) : PoolOnly s (s.setPool p) := ⟨⟨[], (List.append_nil _).symm⟩, rfl⟩

theorem State.postCollide_poolOnly (s : State) (n : Word) : PoolOnly s (s.postCollide n) := by
  unfold State.postCollide
  split
  · exact (s.setPool_poolOnly _).trans (State.send_poolOnly _ _)
  · exact .refl s

theorem State.postPlace_poolOnly (s : State) (r : Posting) : PoolOnly s (s.postPlace r).1 := by
  unfold State.postPlace
  split
  · exact .refl s
  · split
    · exact (s.setPool_poolOnly _).trans (State.send_poolOnly _ _)
    · exact .refl s

theorem State.postMarks_poolOnly (s : State) (r : Posting) : PoolOnly s (s.postMarks r) := by
  have first : PoolOnly s (if r.urgent then s.mark .urgent else s) := by
    split
    · exact s.send_poolOnly _
    · exact .refl s
  unfold State.postMarks
  dsimp only
  refine first.trans ?_
  generalize (if r.urgent then s.mark .urgent else s) = t
  split
  · exact t.send_poolOnly _
  · exact .refl t

theorem State.post_poolOnly (s : State) (r : Posting) : PoolOnly s (s.post r) := by
  unfold State.post
  dsimp only
  split
  · exact s.send_poolOnly _
  · have placed := ((s.setPool_poolOnly { s.pool with generator := nextNumber s.pool.generator, newest := s.pool.generator }).trans
      (State.postCollide_poolOnly _ s.pool.generator)).trans (State.postPlace_poolOnly _ r)
    split
    next place =>
      rw [place] at placed
      exact ((placed.trans (State.setPool_poolOnly _ _)).trans (State.send_poolOnly _ _)).trans (State.postMarks_poolOnly _ r)
    next place =>
      rw [place] at placed
      exact placed

/-- The first report of an empty pool takes number 1 and cell 0 (R156). -/
theorem State.post_empty (empty : s.pool = {}) (r : Posting) : (s.post r).pool.order = [0] ∧ (s.post r).pool.newest = 1 ∧
    (s.post r).pool.cells[(0 : Fin 64)] = some { report := r, number := 1, shown := 1, aged := false } := by
  obtain ⟨c, chosen, post⟩ := State.post_of_room (s := s) (r := r) (by rw [empty]; exact Pool.empty_ok) (by rw [empty]; rfl)
  have number : s.pool.numbered s.pool.generator = { generator := 2, newest := 1 } := by
    rw [empty]
    exact Pool.numbered_of_fresh Pool.empty_ok (by decide)
  rw [number] at chosen
  obtain rfl : 0 = c := Option.some.inj ((Pool.chosen_of_empty (by decide)).symm.trans chosen)
  rw [post]
  dsimp only
  rw [number, show s.pool.generator = 1 by rw [empty]]
  exact ⟨Pool.written_order .., Pool.written_newest .., (Pool.written_cell ..).trans (if_pos rfl)⟩

/-! ### The load and the notice of a defaulted start (R164) -/

/-- The load, noted if it is a defaulted start. -/
def State.noted (s : State) : State := if s.nv.isMatch then s.loaded else s.loaded.noteDefaulted

theorem State.noted_match (isMatch : s.nv.isMatch = true) : s.noted = s.loaded := if_pos isMatch

/-- The DEFAULTED report of a start (R164 step 4). -/
def State.defaultedPosting (s : State) : Posting :=
  { kind := .settings, subkind := 3, urgent := true, stamp := s.uptime, source := 0, payload := { w0 := natWord s.nv.count } }

theorem State.noted_defaulted (defaulted : s.nv.isMatch = false) : s.noted =
    ({ s.loaded with notice := { s.notice with marks := s.notice.marks ||| 0x20#8 } } : State).post s.defaultedPosting :=
  if_neg (Bool.eq_false_iff.1 defaulted)

theorem State.noted_frame (s : State) : (∃ sent, s.noted.transit = s.transit ++ sent) ∧ s.noted = { s with
    mem := s.mem.loadSettings s.nv.loads, notice := { s.notice with marks := s.noted.notice.marks }
    pool := s.noted.pool, transit := s.noted.transit } := by
  cases isMatch : s.nv.isMatch with
  | true =>
    rw [State.noted_match isMatch]
    exact ⟨⟨[], (List.append_nil _).symm⟩, rfl⟩
  | false =>
    obtain ⟨sent, frame⟩ := State.post_poolOnly
      ({ s.loaded with notice := { s.notice with marks := s.notice.marks ||| 0x20#8 } } : State) s.defaultedPosting
    rw [State.noted_defaulted isMatch]
    refine ⟨sent, ?_⟩
    generalize State.post _ _ = t at frame
    rw [frame]
    rfl

/-- The noted load with the supervisor's ladder copy and the port's rail (R69, R138), at its first moments (R164). -/
def State.beginning (s : State) : State :=
  let t := { s.noted with partState := if s.nv.isMatch then PartState.ready else PartState.defaulted }
  let t := (t.setSup (t.sup.refreshLadder t.mem)).deliverLink
  { t with
    sensors := Vector.ofFn fun ch => { t.sensors[ch] with nextSample := some t.clock }
    nextPass := some (t.clock + 1000000)
    keypad := { t.keypad with nextScan := some t.clock }
    fans := Vector.ofFn fun f => { t.fans[f] with nextUpdate := some t.clock }
    pool := { t.pool with ageTimer := some (t.clock + agePeriod t.mem * 1000000) } }

theorem State.begun_eq (s : State) : s.begun = s.beginning.phaseRestart := by
  have age (t : State) : t.inMs (agePeriod t.mem * 1000) = t.clock + agePeriod t.mem * 1000000 := by
    unfold State.inMs
    omega
  unfold State.begun State.beginning State.noted State.startRhythms
  dsimp only
  simp only [age]
  cases s.nv.isMatch <;> rfl

/-- The frame of an auto-start, or of none (R70). -/
def AutoFrame (b t : State) : Prop := t = { b with
  transit := t.transit, sup := t.sup, keypad := { b.keypad with published := t.keypad.published }, chords := t.chords
  shown := { b.shown with chords := t.shown.chords } }

theorem State.powerOn_off (off : s.sup.state = .off) : s.powerOn.1 = s.startOrder := by
  unfold State.powerOn
  rw [if_pos off]

theorem State.powerOn_frame (s : State) : AutoFrame s s.powerOn.1 := by
  unfold State.powerOn
  split <;> rfl

theorem State.startUp_frame (s : State) : AutoFrame s.begun s.startUp := by
  rw [State.startUp_eq]
  split
  · exact s.begun.powerOn_frame
  · rfl

/-- What begins, told of the state at the end of start-up before auto-start (R164, R69, R138). -/
theorem State.begun_begins (s : State) :
    let b := s.begun
    (∀ ch : Fin 9, b.sensors[ch] = { s.sensors[ch] with nextSample := some s.clock }) ∧
    (∀ f : Fin 2, b.fans[f] = { s.fans[f] with nextUpdate := some s.clock }) ∧
    (∀ k : Fin 8, b.sched.lengths[k] = tickLength b.mem k.val ∧
      b.sched.nextAdvance[k] = some (s.clock + tickLength b.mem k.val * 1000) ∧
      b.shown.ticks.lengths[k] = tickLength b.mem k.val ∧ b.shown.ticks.left[k] = some (tickLength b.mem k.val)) ∧
    b.sup = s.sup.refreshLadder b.mem ∧ LinkEvaluated s b (linkRail b.mem) ∧
    b = { s with
      transit := s.noted.transit
      partState := if s.nv.isMatch then PartState.ready else PartState.defaulted
      mem := s.mem.loadSettings s.nv.loads, sensors := b.sensors, nextPass := some (s.clock + 1000000), fans := b.fans
      sup := b.sup, keypad := { s.keypad with nextScan := some s.clock }
      sched := { s.sched with lengths := b.sched.lengths, nextAdvance := b.sched.nextAdvance }
      pool := { s.noted.pool with ageTimer := some (s.clock + agePeriod b.mem * 1000000) }
      notice := { s.notice with marks := s.noted.notice.marks }, link := b.link
      shown := { s.shown with ticks := b.shown.ticks } } := by
  have phases := s.beginning.phaseRestart_phases
  obtain ⟨-, -, -, -, restarted⟩ := s.beginning.phaseRestart_restarts
  obtain ⟨-, frame⟩ := s.noted_frame
  have clock : s.noted.clock = s.clock := by rw [frame]
  have sensors (ch : Fin 9) : s.beginning.sensors[ch] = { s.noted.sensors[ch] with nextSample := some s.noted.clock } := ofFn_get _ ch
  have fans (f : Fin 2) : s.beginning.fans[f] = { s.noted.fans[f] with nextUpdate := some s.noted.clock } := ofFn_get _ f
  intro b
  have begun : b = s.beginning.phaseRestart := s.begun_eq
  clear_value b
  subst begun
  refine ⟨fun ch => (sensors ch).trans ?_, fun f => (fans f).trans ?_, fun k => ?_, ?_, ?_, ?_⟩
  · rw [clock, show s.noted.sensors = s.sensors by rw [frame]]
  · rw [clock, show s.noted.fans = s.fans by rw [frame]]
  · rw [← clock]
    exact phases k
  · change s.noted.sup.refreshLadder s.noted.mem = s.sup.refreshLadder s.noted.mem
    rw [show s.noted.sup = s.sup by rw [frame]]
  · refine (Link.evaluate_eq s.noted.link (linkRail s.noted.mem) s.noted.rails[linkRail s.noted.mem]).trans ?_
    rw [show s.noted.link = s.link by rw [frame]]
    rfl
  · rw [restarted]
    unfold State.beginning
    dsimp only
    rw [frame]
    rfl

end Sys2Proof.Machine

namespace Sys2Proof.Settled

open Sys2Proof Sys2Proof.Machine Host

/-- Settles O3: the load, the notice of a defaulted start, what begins, the ladder copy, and auto-start. -/
theorem startUpLoad : Obligations.StartUpLoad := by
  intro us s starting free wf
  have ran : exec (.startUpLoadComplete us) s = .next (s.elapse us).startUp := by
    change execStartUpLoadComplete us s = _
    unfold execStartUpLoadComplete
    exact if_pos ⟨starting, by rw [Bool.not_eq_true']; exact free⟩
  obtain ⟨sensors, fans, ticks, sup, link, begun⟩ := (s.elapse us).begun_begins
  obtain ⟨⟨sent, told⟩, -⟩ := (s.elapse us).noted_frame
  change (s.elapse us).noted.transit = s.transit ++ sent at told
  have read := s.mem.read_loadSettings (s.nv.loads_wf wf)
  have auto := (s.elapse us).startUp_eq
  have ordered := (s.elapse us).begun.powerOn_ordered
  have frame := (s.elapse us).startUp_frame
  unfold AutoFrame at frame
  generalize (s.elapse us).begun = b at *
  generalize (s.elapse us).startUp = t at *
  have clock : t.clock = s.clock + us := by rw [frame, begun]; rfl
  have uptime : t.uptime = (s.elapse us).uptime := by unfold State.uptime; rw [clock]; rfl
  have mem : t.mem = s.mem.loadSettings s.nv.loads := by rw [frame, begun]; rfl
  have memB : b.mem = t.mem := by rw [frame]
  have notice : t.notice = { s.notice with marks := (s.elapse us).noted.notice.marks } := by rw [frame, begun]; rfl
  have pool : t.pool = { (s.elapse us).noted.pool with ageTimer := some (t.clock + agePeriod t.mem * 1000000) } := by
    have taken : t.pool = b.pool := by rw [frame]
    rw [clock, ← memB, taken]
    exact (congrArg State.pool begun :)
  have chosen : (b.sup = s.sup.refreshLadder t.mem) := by
    rw [← memB]
    exact sup
  have good (ok : s.nv.valid = true ∧ imageCrc s.nv.image = s.nv.crc) : (s.elapse us).noted = (s.elapse us).loaded :=
    State.noted_match (s.nv.isMatch_iff.2 ok)
  have defaulted (bad : ¬ (s.nv.valid = true ∧ imageCrc s.nv.image = s.nv.crc)) := State.noted_defaulted (s := s.elapse us)
    (Bool.eq_false_iff.2 fun isMatch => bad (s.nv.isMatch_iff.1 isMatch))
  have marks (bad : ¬ (s.nv.valid = true ∧ imageCrc s.nv.image = s.nv.crc)) :
      (s.elapse us).noted.notice.marks = s.notice.marks ||| 0x20#8 := by
    obtain ⟨-, stays⟩ := State.post_poolOnly
      ({ (s.elapse us).loaded with notice := { s.notice with marks := s.notice.marks ||| 0x20#8 } } : State)
      (s.elapse us).defaultedPosting
    rw [defaulted bad]
    exact (congrArg (fun t : State => t.notice.marks) stays :)
  refine ⟨t, ran, clock, ?_, fun a low high => ?_, fun a outside => ?_, fun ch => ?_, ?_, ?_, fun f => ?_, fun k => ?_, ?_,
    fun ok => ?_, fun bad => ?_, ?_, b, sent, b.powerOn.2, fun ok => ?_, fun bad => ?_, ?_, ?_, ?_, ?_, fun on => ?_, fun off => ?_⟩
  · rw [frame, begun]
    exact if_congr s.nv.isMatch_iff rfl rfl
  · rw [mem, read, if_pos ⟨low, high⟩, NvStore.loads_eq]
  · rw [mem, read, if_neg (by omega)]
  · rw [clock, frame]
    exact sensors ch
  · rw [clock, frame, begun]
    rfl
  · rw [clock, frame, begun]
    rfl
  · rw [clock, frame]
    exact fans f
  · rw [clock, ← memB, frame]
    exact ticks k
  · rw [pool]
  · rw [notice, pool, good ok]
    exact ⟨rfl, rfl, rfl⟩
  · refine ⟨by rw [notice, marks bad], fun empty => ?_⟩
    rw [pool, uptime, defaulted bad]
    exact State.post_empty
      (s := { (s.elapse us).loaded with notice := { s.notice with marks := s.notice.marks ||| 0x20#8 } }) empty _
  · have same : t.link = b.link := by rw [frame]
    have rails : t.rails = b.rails := by rw [frame]
    unfold LinkEvaluated
    rw [same, rails, ← memB]
    exact link
  · rw [good ok] at told
    exact List.append_cancel_left (told.symm.trans (List.append_nil _).symm)
  · refine ⟨(s.elapse us).noted, ?_, told, by rw [pool]⟩
    rw [notice, mem, clock, uptime, marks bad, defaulted bad]
    exact State.post_posted _ _
  · rw [chosen]
    rfl
  · rw [chosen]
    exact Sup.refreshLadder_rung ..
  · rw [chosen]
    exact Sup.refreshLadder_attempts ..
  · have partState : t.partState = b.partState := by rw [frame]
    have nextPass : t.nextPass = b.nextPass := by rw [frame]
    have sensors : t.sensors = b.sensors := by rw [frame]
    have fans : t.fans = b.fans := by rw [frame]
    have lengths : t.sched = b.sched := by rw [frame]
    have ticks : t.shown.ticks = b.shown.ticks := by rw [frame]
    have link : t.link = b.link := by rw [frame]
    rw [pool, notice, partState, nextPass, sensors, fans, lengths, ticks, link, mem, clock, ← told,
      show b.partState = _ from (congrArg State.partState begun :), show b.nextPass = _ from (congrArg State.nextPass begun :)]
    rw [memB, mem] at begun
    exact begun
  · rw [← memB] at on
    rw [if_pos on] at auto
    rw [auto]
    refine ⟨ordered, fun idle => ?_⟩
    rw [State.powerOn_off idle]
    exact ⟨b.startOrder_still.1, b.startOrder_idle (.inl idle)⟩
  · rw [← memB] at off
    exact auto.trans (if_neg (Bool.eq_false_iff.1 off))

end Sys2Proof.Settled
end

section
/-! SUPPORT. The bytes a READ copies: the header, the desk slots, the report cells, the counters and the restart history
as chapter 12 lays them out (R131, R135, R168, 12.2 to 12.9). -/

namespace Sys2Proof.Machine

open Sys2Proof Host

variable {s : State} {a n : Nat}

/-! ### Bytes of a record (R168) -/

theorem byteOf_left {l r : List Byte} (within : n < l.length) : byteOf (l ++ r) n = byteOf l n := by
  unfold byteOf
  rw [List.getD_append _ _ _ _ within]

theorem byteOf_right {l r : List Byte} (beyond : l.length ≤ n) : byteOf (l ++ r) n = byteOf r (n - l.length) := by
  unfold byteOf
  rw [List.getD_append_right _ _ _ _ beyond]

/-- A field after others and before others. -/
theorem byteOf_field {l m r : List Byte} (after : l.length ≤ n) (within : n - l.length < m.length) :
    byteOf (l ++ (m ++ r)) n = byteOf m (n - l.length) := by
  rw [byteOf_right after, byteOf_left within]

theorem byteOf_beyond {l : List Byte} (beyond : l.length ≤ n) : byteOf l n = 0#8 := List.getD_eq_default _ _ beyond

theorem byteOf_zeros (k n : Nat) : byteOf (zeros k) n = 0#8 := by
  unfold byteOf zeros
  by_cases within : n < k
  · rw [List.getD_replicate _ within]
  · exact List.getD_eq_default _ _ (by rw [List.length_replicate]; omega)

theorem byteOf_map_range {f : Nat → Byte} {k : Nat} (within : n < k) : byteOf ((List.range k).map f) n = f n := by
  unfold byteOf
  rw [List.getD_eq_getElem?_getD, List.getElem?_map, List.getElem?_range within]
  rfl

theorem byteOf_bytes16 (w : Word) (within : n < 2) : byteOf (bytes16 w) n = byteAt w n := by
  match n, within with
  | 0, _ => exact congrArg (BitVec.setWidth 8) (BitVec.ushiftRight_zero w).symm
  | 1, _ => rfl

theorem byteOf_bytes32 (w : DWord) (within : n < 4) : byteOf (bytes32 w) n = byteAt w n := by
  match n, within with
  | 0, _ => exact congrArg (BitVec.setWidth 8) (BitVec.ushiftRight_zero w).symm
  | 1, _ | 2, _ | 3, _ => rfl

/-- The bytes of two words side by side. -/
theorem byteAt_append {p q : Nat} (hi : BitVec p) (lo : BitVec q) (k : Nat) (bytes : q = 8 * k) :
    byteAt (hi ++ lo) n = if n < k then byteAt lo n else byteAt hi (n - k) := by
  refine BitVec.eq_of_getLsbD_eq fun i less => ?_
  have bit {m : Nat} (w : BitVec m) (j : Nat) : (byteAt w j).getLsbD i = w.getLsbD (8 * j + i) := by
    unfold byteAt
    rw [BitVec.getLsbD_setWidth, BitVec.getLsbD_ushiftRight, decide_eq_true less, Bool.true_and]
  rw [bit, BitVec.getLsbD_append]
  split
  next low => rw [if_pos (by omega), bit]
  next high => rw [if_neg (by omega), bit, show 8 * n + i - q = 8 * (n - k) + i by omega]

/-- The bytes of four words, the first lowest. -/
theorem byteOf_words (a b c d : DWord) (within : n < 16) :
    byteOf (bytes32 a ++ (bytes32 b ++ (bytes32 c ++ bytes32 d))) n = byteAt (d ++ c ++ b ++ a) n := by
  rw [byteAt_append _ _ 4 rfl, byteAt_append _ _ 4 rfl, byteAt_append _ _ 4 rfl]
  by_cases first : n < 4
  · rw [if_pos first, byteOf_left first, byteOf_bytes32 _ first]
  rw [if_neg first, byteOf_right (Nat.not_lt.1 first), bytes32_length]
  by_cases second : n - 4 < 4
  · rw [if_pos second, byteOf_left second, byteOf_bytes32 _ second]
  rw [if_neg second, byteOf_right (Nat.not_lt.1 second), bytes32_length]
  by_cases third : n - 4 - 4 < 4
  · rw [if_pos third, byteOf_left third, byteOf_bytes32 _ third]
  rw [if_neg third, byteOf_right (Nat.not_lt.1 third), bytes32_length, byteOf_bytes32 _ (by omega)]

/-- The bytes of a slot's four data words. -/
theorem byteOf_wordsBytes (w : Words) (within : n < 8) : byteOf (wordsBytes w) n = byteAt (w.w3 ++ w.w2 ++ w.w1 ++ w.w0) n := by
  unfold wordsBytes
  rw [List.append_assoc, List.append_assoc, byteAt_append _ _ 2 rfl, byteAt_append _ _ 2 rfl, byteAt_append _ _ 2 rfl]
  by_cases first : n < 2
  · rw [if_pos first, byteOf_left first, byteOf_bytes16 _ first]
  rw [if_neg first, byteOf_right (Nat.not_lt.1 first), show (bytes16 w.w0).length = 2 from rfl]
  by_cases second : n - 2 < 2
  · rw [if_pos second, byteOf_left second, byteOf_bytes16 _ second]
  rw [if_neg second, byteOf_right (Nat.not_lt.1 second), show (bytes16 w.w1).length = 2 from rfl]
  by_cases third : n - 2 - 2 < 2
  · rw [if_pos third, byteOf_left third, byteOf_bytes16 _ third]
  rw [if_neg third, byteOf_right (Nat.not_lt.1 third), show (bytes16 w.w2).length = 2 from rfl, byteOf_bytes16 _ (by omega)]

/-! ### The header (12.2) -/

theorem State.readByte_header (below : a < 0x100) : s.readByte a = byteOf s.headerBytes a := if_pos below

/-- The fields of the header, each at its place. -/
theorem State.header_shown (s : State) (a : Nat) :
    (a = 0 → s.readByte a = 0x60#8) ∧ (a = 1 → s.readByte a = 0x32#8) ∧
    (a = 2 → s.readByte a = match s.partState with | .starting => 0#8 | .ready => 1#8 | .defaulted => 2#8) ∧
    (a = 3 → s.readByte a = s.notice.marks &&& 0x3F#8) ∧ (4 ≤ a → a < 8 → s.readByte a = byteAt s.uptime (a - 4)) ∧
    (a = 9 → s.readByte a = 0#8) ∧ (a = 8 ∨ (10 ≤ a ∧ a < 16) → s.readByte a = s.mem.read a) ∧
    (a = 16 ∨ a = 17 → s.readByte a = byteAt s.pool.newest (a - 16)) ∧
    (a = 18 → s.readByte a = BitVec.ofNat 8 s.pool.order.length) ∧
    (a = 19 → s.readByte a = if s.keypad.deskLock = true then 1#8 else 0#8) ∧ (20 ≤ a → a < 0x100 → s.readByte a = 0#8) := by
  have fields : s.headerBytes = [0x60#8, 0x32#8, numByte (partCode s.partState), s.notice.marks &&& 0x3F#8] ++ (bytes32 s.uptime
      ++ ([s.mem.read 8, 0#8, s.mem.read 10, s.mem.read 11, s.mem.read 12, s.mem.read 13, s.mem.read 14, s.mem.read 15]
        ++ (bytes16 s.pool.newest ++ [numByte s.pool.order.length, if s.keypad.deskLock then 1#8 else 0#8]))) := rfl
  refine ⟨?_, ?_, ?_, ?_, fun low high => ?_, ?_, fun host => ?_, fun newest => ?_, ?_, ?_,
    fun beyond below => (State.readByte_header below).trans (byteOf_beyond beyond)⟩
  · rintro rfl; rfl
  · rintro rfl; rfl
  · rintro rfl
    rw [State.readByte_header (by decide)]
    change numByte (partCode s.partState) = _
    cases s.partState <;> rfl
  · rintro rfl; rfl
  · rw [State.readByte_header (by omega), fields, byteOf_field low (Nat.sub_lt_left_of_lt_add low high)]
    exact byteOf_bytes32 _ (Nat.sub_lt_left_of_lt_add low high)
  · rintro rfl; rfl
  · obtain rfl | ⟨low, high⟩ := host
    · rfl
    · interval_cases a <;> rfl
  · rw [State.readByte_header (by omega), fields]
    rcases newest with rfl | rfl
    · exact byteOf_bytes16 s.pool.newest (n := 0) (by decide)
    · rfl
  · rintro rfl; rfl
  · rintro rfl; rfl

/-! ### The desk slots (12.3) -/

theorem State.slot_shown (s : State) (k : Fin 8) (low : 0x100 ≤ a) (high : a < 0x200) (slot : k.val = (a - 0x100) / 32) :
    let o := a % 32
    let x := s.slots[k]
    (o < 10 → s.readByte a = s.mem.read a) ∧ ((10 ≤ o ∧ o < 16) ∨ 26 ≤ o → s.readByte a = 0#8) ∧
    (o = 16 → s.readByte a = match x.answerCode with | none => 0#8 | some c => BitVec.ofNat 8 (answerCode c)) ∧
    (o = 17 → s.readByte a = x.answerToggle) ∧
    (18 ≤ o → o < 26 → s.readByte a = byteAt (x.data.w3 ++ x.data.w2 ++ x.data.w1 ++ x.data.w0) (o - 18)) := by
  intro o x
  have read : s.readByte a = byteOf (s.slotBytes k) o := by
    unfold State.readByte
    rw [if_neg (by omega), if_pos high]
    exact congrArg (fun k => byteOf (s.slotBytes k) (a % 32)) (Fin.ext (by dsimp only; omega))
  have first : ((List.range 10).map fun i => s.mem.read (slotBase k + i)).length = 10 := by simp
  have fields : s.slotBytes k = ((List.range 10).map (fun i => s.mem.read (slotBase k + i)) ++ zeros 6)
      ++ ([match x.answerCode with | some c => numByte (answerCode c) | none => 0#8, x.answerToggle] ++ (wordsBytes x.data
        ++ zeros 6)) := by
    unfold State.slotBytes
    simp only [List.append_assoc]
    rfl
  have half : ((List.range 10).map (fun i => s.mem.read (slotBase k + i)) ++ zeros 6).length = 16 := by
    rw [List.length_append, first]
    rfl
  rw [read, fields]
  refine ⟨fun host => ?_, fun free => ?_, fun code => ?_, fun toggle => ?_, fun low' high' => ?_⟩
  · rw [byteOf_left (by omega), byteOf_left (by omega), byteOf_map_range host,
      show slotBase k + o = a by unfold slotBase; omega]
  · rcases free with ⟨gap, gap'⟩ | rest
    · rw [byteOf_left (by omega), byteOf_right (by omega), byteOf_zeros]
    · rw [byteOf_right (by omega), byteOf_right (by rw [half]; exact Nat.le_sub_of_add_le (by omega : 2 + 16 ≤ o)),
        byteOf_right (by rw [half]; change 8 ≤ o - 16 - 2; omega), byteOf_zeros]
  · rw [code, byteOf_right (by omega), half]
    cases s.slots[k].answerCode <;> rfl
  · rw [toggle, byteOf_right (by omega), half]
    rfl
  · rw [byteOf_right (by omega), half, byteOf_field (show 2 ≤ o - 16 by omega) (show o - 16 - 2 < 8 by omega)]
    exact byteOf_wordsBytes x.data (n := o - 18) (by omega)

/-! ### The report cells (12.4) -/

/-- A cell with a report in it. -/
def PoolCell.bytes (x : PoolCell) : List Byte :=
  let r := x.report
  bytes16 x.shown ++ ([numByte (kindCode r.kind), r.subkind, if r.urgent then 1#8 else 0#8, r.source, 0#8, 0#8]
    ++ (bytes32 r.stamp ++ ((bytes32 r.payload.w0 ++ (bytes32 r.payload.w1 ++ (bytes32 r.payload.w2 ++ bytes32 r.payload.w3)))
      ++ zeros 4)))

theorem State.cellBytes_eq (s : State) (c : Fin 64) : s.cellBytes c = (s.pool.cells[c].map PoolCell.bytes).getD (zeros 32) := by
  unfold State.cellBytes PoolCell.bytes
  cases s.pool.cells[c] with
  | none => rfl
  | some x => simp only [List.append_assoc, Option.map_some, Option.getD_some]

theorem State.cell_shown (s : State) (c : Fin 64) (low : 0x200 ≤ a) (high : a < 0xA00) (cell : c.val = (a - 0x200) / 32) :
    let o := a % 32
    (s.pool.cells[c] = none → s.readByte a = 0#8) ∧
    ∀ x, s.pool.cells[c] = some x →
      let r := x.report
      (o < 2 → s.readByte a = byteAt x.shown o) ∧ (o = 2 → s.readByte a = BitVec.ofNat 8 (kindCode r.kind)) ∧
      (o = 3 → s.readByte a = r.subkind) ∧ (o = 4 → s.readByte a = if r.urgent = true then 1#8 else 0#8) ∧
      (o = 5 → s.readByte a = r.source) ∧ (8 ≤ o → o < 12 → s.readByte a = byteAt r.stamp (o - 8)) ∧
      (12 ≤ o → o < 28 →
        s.readByte a = byteAt (r.payload.w3 ++ r.payload.w2 ++ r.payload.w1 ++ r.payload.w0) (o - 12)) ∧
      (o = 6 ∨ o = 7 ∨ 28 ≤ o → s.readByte a = 0#8) := by
  intro o
  have read : s.readByte a = byteOf (s.cellBytes c) o := by
    unfold State.readByte
    rw [if_neg (by omega), if_neg (by omega), if_pos high]
    exact congrArg (fun c => byteOf (s.cellBytes c) (a % 32)) (Fin.ext (by dsimp only; omega))
  rw [read, State.cellBytes_eq]
  refine ⟨fun empty => ?_, fun x filled => ?_⟩
  · rw [empty]
    exact byteOf_zeros 32 o
  · intro r
    rw [filled, Option.map_some, Option.getD_some]
    unfold PoolCell.bytes
    dsimp only
    refine ⟨fun word => ?_, fun at2 => ?_, fun at3 => ?_, fun at4 => ?_, fun at5 => ?_, fun from8 to12 => ?_,
      fun from12 to28 => ?_, fun free => ?_⟩
    · rw [byteOf_left (show o < 2 from word), byteOf_bytes16 _ word]
    · rw [at2]; rfl
    · rw [at3]; rfl
    · rw [at4]; rfl
    · rw [at5]; rfl
    · rw [byteOf_right (show 2 ≤ o by omega), byteOf_field (show 6 ≤ o - 2 by omega) (show o - 2 - 6 < 4 by omega)]
      exact byteOf_bytes32 r.stamp (n := o - 8) (by omega)
    · rw [byteOf_right (show 2 ≤ o by omega), byteOf_right (show 6 ≤ o - 2 by omega),
        byteOf_field (show 4 ≤ o - 2 - 6 by omega) (show o - 2 - 6 - 4 < 16 by omega)]
      exact byteOf_words _ _ _ _ (n := o - 12) (by omega)
    · rcases free with at6 | at7 | beyond
      · rw [at6]; rfl
      · rw [at7]; rfl
      · rw [byteOf_right (show 2 ≤ o by omega), byteOf_right (show 6 ≤ o - 2 by omega),
          byteOf_right (show 4 ≤ o - 2 - 6 by omega), byteOf_right (show 16 ≤ o - 2 - 6 - 4 by omega), byteOf_zeros]

/-! ### The counters (12.9) -/

theorem State.counters_shown (s : State) (low : 0xC00 ≤ a) (high : a < 0xD00) :
    (∀ n : Fin 54, n.val = (a - 0xC00) / 4 → s.readByte a = byteAt (natWord s.counters.values[n]) (a % 4)) ∧
    (0xCD8 ≤ a → a < 0xCFC → s.readByte a = 0#8) ∧
    (a = 0xCFC → s.readByte a = if s.counters.frozen = true then 1#8 else 0#8) ∧ (0xCFC < a → s.readByte a = 0#8) := by
  have read : s.readByte a = byteOf (s.counterBytes ((a - 0xC00) / 4)) (a % 4) := by
    unfold State.readByte
    rw [if_neg (by omega), if_neg (by omega), if_neg (by omega), if_neg (by omega), if_pos high]
  rw [read]
  refine ⟨fun n place => ?_, fun from54 to63 => ?_, fun flag => ?_, fun beyond => ?_⟩
  · have position : (a - 0xC00) / 4 < 54 := place ▸ n.isLt
    unfold State.counterBytes
    rw [dif_pos position, byteOf_bytes32 _ (Nat.mod_lt _ (by decide))]
    generalize (a - 0xC00) / 4 = m at place position
    subst place
    rfl
  · unfold State.counterBytes
    rw [dif_neg (by omega), if_neg (by omega), byteOf_zeros]
  · unfold State.counterBytes
    rw [dif_neg (by omega), if_pos (by omega), show a % 4 = 0 by omega]
    rfl
  · unfold State.counterBytes
    rw [dif_neg (by omega), if_pos (by omega)]
    obtain at1 | at2 | at3 : a % 4 = 1 ∨ a % 4 = 2 ∨ a % 4 = 3 := by omega
    · rw [at1]; rfl
    · rw [at2]; rfl
    · rw [at3]; rfl

/-! ### The restart history (12.7) -/

theorem supWordOf_bytes (st : SupState) (sub : SupSub) :
    bytes16 ((supWordOf st sub).setWidth 16) = [BitVec.ofNat 8 (supCode st), BitVec.ofNat 8 (subCode sub)] := by
  cases st <;> cases sub <;> rfl

theorem HistoryEntry.bytes_eq (e : HistoryEntry) : e.bytes = bytes32 (natWord e.serial)
    ++ ([numByte (causeCode e.cause), match e.rung with | some r => numByte r.val | none => 0xFF#8, numByte e.attempt,
        match e.stageReached with | some v => numByte v | none => 0xFF#8,
        BitVec.ofNat 8 (supCode e.stateAt), BitVec.ofNat 8 (subCode e.subAt)]
      ++ (bytes32 e.stamp ++ (bytes32 e.s0 ++ (bytes32 e.s2 ++ zeros 8)))) := by
  unfold HistoryEntry.bytes
  rw [supWordOf_bytes]
  simp only [List.append_assoc]
  rfl

theorem State.readByte_history (low : 0xD00 ≤ a) (high : a < 0xE00) : s.readByte a = s.historyByte (a - 0xD00) := by
  unfold State.readByte
  rw [if_neg (by omega), if_neg (by omega), if_neg (by omega), if_neg (by omega), if_neg (by omega), if_pos high]

theorem State.history_count (s : State) : s.readByte 0xDF0 = BitVec.ofNat 8 s.sup.history.length := by
  rw [State.readByte_history (by decide) (by decide)]
  exact if_pos rfl

theorem State.history_free (low : 0xDF0 < a) (high : a < 0xE00) : s.readByte a = 0#8 := by
  rw [State.readByte_history (by omega) high]
  unfold State.historyByte
  rw [if_neg (by omega), if_pos (by omega)]

theorem State.history_shown (s : State) (low : 0xD00 ≤ a) (high : a < 0xDF0) :
    let i := (a - 0xD00) % 30
    (s.sup.history[(a - 0xD00) / 30]? = none → s.readByte a = 0#8) ∧
    ∀ e, s.sup.history[(a - 0xD00) / 30]? = some e →
      (i < 4 → s.readByte a = byteAt (natWord e.serial) i) ∧ (i = 4 → s.readByte a = BitVec.ofNat 8 (causeCode e.cause)) ∧
      (i = 5 → s.readByte a = match e.rung with | some r => BitVec.ofNat 8 r.val | none => 0xFF#8) ∧
      (i = 6 → s.readByte a = BitVec.ofNat 8 e.attempt) ∧
      (i = 7 → s.readByte a = match e.stageReached with | some n => BitVec.ofNat 8 n | none => 0xFF#8) ∧
      (i = 8 → s.readByte a = BitVec.ofNat 8 (supCode e.stateAt)) ∧ (i = 9 → s.readByte a = BitVec.ofNat 8 (subCode e.subAt)) ∧
      (10 ≤ i → i < 14 → s.readByte a = byteAt e.stamp (i - 10)) ∧ (14 ≤ i → i < 18 → s.readByte a = byteAt e.s0 (i - 14)) ∧
      (18 ≤ i → i < 22 → s.readByte a = byteAt e.s2 (i - 18)) ∧ (22 ≤ i → s.readByte a = 0#8) := by
  intro i
  rw [State.readByte_history low (by omega)]
  unfold State.historyByte
  rw [if_neg (by omega), if_neg (by omega)]
  rw [show (a - 0xD00) % 30 = i from rfl]
  clear_value i
  refine ⟨fun none_ => by rw [none_], fun e here => ?_⟩
  rw [here]
  dsimp only
  rw [e.bytes_eq]
  refine ⟨fun to4 => ?_, ?_, ?_, ?_, ?_, ?_, ?_, fun from10 to14 => ?_, fun from14 to18 => ?_, fun from18 to22 => ?_, fun from22 => ?_⟩
  · rw [byteOf_left (show i < 4 from to4), byteOf_bytes32 _ to4]
  · rintro rfl; rfl
  · rintro rfl; rfl
  · rintro rfl; rfl
  · rintro rfl; rfl
  · rintro rfl; rfl
  · rintro rfl; rfl
  · rw [byteOf_right (show 4 ≤ i by omega), byteOf_field (show 6 ≤ i - 4 by omega) (show i - 4 - 6 < 4 by omega)]
    exact byteOf_bytes32 _ (n := i - 10) (by omega)
  · rw [byteOf_right (show 4 ≤ i by omega), byteOf_right (show 6 ≤ i - 4 by omega),
      byteOf_field (show 4 ≤ i - 4 - 6 by omega) (show i - 4 - 6 - 4 < 4 by omega)]
    exact byteOf_bytes32 _ (n := i - 14) (by omega)
  · rw [byteOf_right (show 4 ≤ i by omega), byteOf_right (show 6 ≤ i - 4 by omega), byteOf_right (show 4 ≤ i - 4 - 6 by omega),
      byteOf_field (show 4 ≤ i - 4 - 6 - 4 by omega) (show i - 4 - 6 - 4 - 4 < 4 by omega)]
    exact byteOf_bytes32 _ (n := i - 18) (by omega)
  · rw [byteOf_right (show 4 ≤ i by omega), byteOf_right (show 6 ≤ i - 4 by omega), byteOf_right (show 4 ≤ i - 4 - 6 by omega),
      byteOf_right (show 4 ≤ i - 4 - 6 - 4 by omega), byteOf_right (show 4 ≤ i - 4 - 6 - 4 - 4 by omega), byteOf_zeros]

/-! ### The settings and scratch (R131) -/

theorem State.readByte_settings (low : 0x1000 ≤ a) : s.readByte a = s.mem.read a := by
  unfold State.readByte
  repeat rw [if_neg (by omega)]

end Sys2Proof.Machine
end

section
/-! SUPPORT. The status region a READ copies: the directory, the blocks, the channel block's layout and the items of the
others; and the whole memory (R131, R168, R170, 12.5, 12.6; log 15). -/

namespace Sys2Proof.Machine

open Sys2Proof Host

variable {s : State} {a k i j : Nat}

/-! ### Where the blocks and their items stand (R170) -/

theorem statusBlock_lt (h : k < 10) : statusBlock k < statusBlock (k + 1) := by
  have room : 0 < statusRoom k := by
    match k, h with
    | 0, _ | 1, _ | 2, _ | 3, _ | 4, _ | 5, _ | 6, _ | 7, _ | 8, _ | 9, _ => decide
  have := statusBlock_step k h
  omega

theorem statusBlock_mono (order : j ≤ k) (last : k ≤ 10) : statusBlock j ≤ statusBlock k := by
  induction order with
  | refl => exact le_refl _
  | step _ ih => exact (ih (by omega)).trans (Nat.le_of_lt (statusBlock_lt last))

/-- The address at which item i of block k begins (log 15). -/
def itemPlace (k i : Nat) : Nat :=
  statusBlock k + (statusStarts k ((State.reset.statusItems k).map List.length) (statusSize k)).getD i 0

theorem itemPlace_eq (s : State) (k i : Nat) :
    itemPlace k i = statusBlock k + (statusStarts k ((s.statusItems k).map List.length) (statusSize k)).getD i 0 := by
  rw [statusItems_lengths s k]
  rfl

theorem getD_lengths {items : List (List Byte)} {item : List Byte} (h : items[i]? = some item) :
    (items.map List.length).getD i 0 = item.length := by
  rw [List.getD_eq_getElem?_getD, List.getElem?_map, h]
  rfl

theorem items_placed : ItemsPlaced statusBlock itemPlace := by
  intro s k i item block here
  have whole := (placesWhole_iff _ _ _).1
    (statusStarts_whole k ((s.statusItems k).map List.length) (statusSize k) (statusItems_fit s k block.1))
  have least := statusBlock_lt block.1
  obtain ⟨within, apart⟩ := whole i (by
    rw [List.length_map]
    exact (List.getElem?_eq_some_iff.1 here).1)
  rw [getD_lengths here] at within apart
  rw [itemPlace_eq s]
  unfold statusSize at within apart ⊢
  refine ⟨Nat.le_add_right _ _, by omega, fun j other before there => ?_⟩
  have := apart j before
  rw [getD_lengths there] at this
  rw [itemPlace_eq s]
  unfold statusSize
  omega

/-! ### The region (R131, R170) -/

theorem State.isReady_iff : s.isReady = true ↔ s.partState ≠ .starting := by
  unfold State.isReady
  exact decide_eq_true_iff

theorem State.readByte_status (low : 0xA00 ≤ a) (high : a < 0xC00) : s.readByte a = s.statusByteAt a := by
  unfold State.readByte
  rw [if_neg (by omega), if_neg (by omega), if_neg (by omega), if_pos high]

theorem State.status_starting (low : 0xA00 ≤ a) (high : a < 0xC00) (starting : ¬ s.partState ≠ .starting) : s.readByte a = 0#8 := by
  rw [State.readByte_status low high]
  unfold State.statusByteAt
  rw [Bool.eq_false_iff.2 fun ready => starting (State.isReady_iff.1 ready)]
  rfl

theorem State.directory_shown (low : 0xA00 ≤ a) (high : a < 0xA14) (ready : s.partState ≠ .starting) :
    s.readByte a = byteAt (BitVec.ofNat 16 (statusBlock ((a - 0xA00) / 2))) (a % 2) := by
  rw [State.readByte_status low (by omega)]
  unfold State.statusByteAt
  rw [State.isReady_iff.2 ready, Bool.not_true, if_neg Bool.false_ne_true, if_pos high, byteOf_bytes16 _ (Nat.mod_lt _ (by decide))]

/-- The block that a byte stands in. -/
theorem find_block (block : k < 10) (low : statusBlock k ≤ a) (high : a < statusBlock (k + 1)) :
    ((List.range 10).find? fun k => decide (statusBlock k ≤ a ∧ a < statusBlock (k + 1))) = some k := by
  rw [List.find?_range_eq_some]
  refine ⟨decide_eq_true ⟨low, high⟩, List.mem_range.2 block, fun j before => ?_⟩
  have := statusBlock_mono (show j + 1 ≤ k from before) (by omega)
  rw [Bool.not_eq_true', decide_eq_false_iff_not]
  omega

theorem State.status_block (block : k < 10) (low : statusBlock k ≤ a) (high : a < statusBlock (k + 1))
    (ready : s.partState ≠ .starting) : s.readByte a = s.blockByte k (a - statusBlock k) := by
  obtain ⟨first, -⟩ := statusBlock_room k (by omega)
  obtain ⟨-, last⟩ := statusBlock_room (k + 1) block
  rw [State.readByte_status (by omega) (by omega)]
  unfold State.statusByteAt
  rw [State.isReady_iff.2 ready, Bool.not_true, if_neg Bool.false_ne_true, if_neg (by omega), find_block block low high]

/-- A byte of no block. -/
theorem State.status_between (low : 0xA14 ≤ a) (high : a < 0xC00) (ready : s.partState ≠ .starting)
    (none_ : ∀ k, k < 10 → ¬ (statusBlock k ≤ a ∧ a < statusBlock (k + 1))) : s.readByte a = 0#8 := by
  have absent : ((List.range 10).find? fun k => decide (statusBlock k ≤ a ∧ a < statusBlock (k + 1))) = none :=
    List.find?_eq_none.2 fun k listed => by
      rw [decide_eq_true_eq]
      exact none_ k (List.mem_range.1 listed)
  rw [State.readByte_status (by omega) high]
  unfold State.statusByteAt
  rw [State.isReady_iff.2 ready, Bool.not_true, if_neg Bool.false_ne_true, if_neg (by omega), absent]

/-! ### The channel block (12.6) -/

theorem State.channelBlock_eq (s : State) : s.channelBlock = s.channels[(0 : Fin 4)].bytes ++ (s.channels[(1 : Fin 4)].bytes
    ++ (s.channels[(2 : Fin 4)].bytes ++ s.channels[(3 : Fin 4)].bytes)) := by
  unfold State.channelBlock
  rw [show indices 4 = [0, 1, 2, 3] by decide]
  simp only [List.flatMap_cons, List.flatMap_nil, List.append_nil]

theorem State.channelBlock_byte (s : State) (c : Fin 4) (channel : c.val = j / 12) :
    byteOf s.channelBlock j = byteOf s.channels[c].bytes (j % 12) := by
  rw [State.channelBlock_eq]
  match c with
  | 0 =>
    rw [byteOf_left (show j < 12 by omega)]
    exact congrArg (byteOf _) (show j = j % 12 by omega)
  | 1 =>
    rw [byteOf_field (show 12 ≤ j by omega) (show j - 12 < 12 by omega)]
    exact congrArg (byteOf _) (show j - 12 = j % 12 by omega)
  | 2 =>
    rw [byteOf_right (show 12 ≤ j by omega), byteOf_field (show 12 ≤ j - 12 by omega) (show j - 12 - 12 < 12 by omega)]
    exact congrArg (byteOf _) (show j - 12 - 12 = j % 12 by omega)
  | 3 =>
    rw [byteOf_right (show 12 ≤ j by omega), byteOf_right (show 12 ≤ j - 12 by omega),
      byteOf_right (show 12 ≤ j - 12 - 12 by omega)]
    exact congrArg (byteOf _) (show j - 12 - 12 - 12 = j % 12 by omega)

theorem State.channelBlock_beyond (beyond : 48 ≤ j) : byteOf s.channelBlock j = 0#8 := by
  rw [State.channelBlock_eq]
  exact byteOf_beyond beyond

theorem State.channels_shown (s : State) (low : statusBlock 6 ≤ a) (high : a < statusBlock 6 + 48)
    (ready : s.partState ≠ .starting) (c : Fin 4) (channel : c.val = (a - statusBlock 6) / 12) :
    let x := s.channels[c]
    let i := (a - statusBlock 6) % 12
    (i = 0 → s.readByte a = BitVec.ofNat 8 (chanCode x.state)) ∧ (i = 1 → s.readByte a = BitVec.ofNat 8 x.sequence.val) ∧
    (i = 2 → s.readByte a = x.mask.setWidth 8) ∧ (i = 3 → s.readByte a = x.step) ∧
    (i = 4 → s.readByte a = BitVec.ofNat 8 x.repeatLeft) ∧
    (i = 5 → s.readByte a = match x.runs with | .left n => BitVec.ofNat 8 n | _ => 0#8) ∧
    (i = 6 → s.readByte a = BitVec.ofNat 8 (starterCode x.starter)) ∧
    (i = 7 → s.readByte a = BitVec.ofNat 8 (endedCode x.endedBy)) ∧
    (i = 8 → s.readByte a = BitVec.ofNat 8 (faultCode x.fault)) ∧ (i = 9 → s.readByte a = x.faultStep) ∧
    (10 ≤ i → s.readByte a = 0#8) := by
  have last := statusBlock_step 6 (by decide)
  have read : s.readByte a = byteOf s.channels[c].bytes ((a - statusBlock 6) % 12) := by
    rw [State.status_block (k := 6) (by decide) low (Nat.lt_of_lt_of_le high last) ready]
    exact (if_pos rfl).trans (s.channelBlock_byte c channel)
  intro x i
  have below : i < 12 := Nat.mod_lt _ (by decide)
  rw [read, show (a - statusBlock 6) % 12 = i from rfl]
  clear_value i
  refine ⟨?_, ?_, ?_, ?_, ?_, ?_, ?_, ?_, ?_, ?_, fun free => ?_⟩
  iterate 5 · rintro rfl; rfl
  · rintro rfl
    change numByte (runsCode x.runs) = _
    cases x.runs <;> rfl
  iterate 4 · rintro rfl; rfl
  · obtain rfl | rfl : i = 10 ∨ i = 11 := by omega
    · rfl
    · rfl

/-! ### The items of the other blocks (R168, R170) -/

theorem State.item_shown (s : State) (ready : s.partState ≠ .starting) (block : HasItems k) (at_ : a = itemPlace k i + j)
    {item : List Byte} (here : (s.statusItems k)[i]? = some item) {b : Byte} (byte : item[j]? = some b) : s.readByte a = b := by
  obtain ⟨inside, rfl⟩ := List.getElem?_eq_some_iff.1 here
  obtain ⟨within, rfl⟩ := List.getElem?_eq_some_iff.1 byte
  obtain ⟨low, high, -⟩ := items_placed s k i _ block here
  rw [State.status_block block.1 (by omega) (by omega) ready, ← s.blockByte_item k i j block.1 block.2 inside within, at_,
    itemPlace_eq s]
  exact congrArg (s.blockByte k) (by omega)

theorem State.free_shown (s : State) (ready : s.partState ≠ .starting) (low : 0xA14 ≤ a) (high : a < 0xC00)
    (outside : ¬ (statusBlock 6 ≤ a ∧ a < statusBlock 6 + 48))
    (free : ∀ (k i : Nat) (item : List Byte), HasItems k → (s.statusItems k)[i]? = some item →
      a < itemPlace k i ∨ itemPlace k i + item.length ≤ a) : s.readByte a = 0#8 := by
  by_cases some_ : ∃ k, k < 10 ∧ statusBlock k ≤ a ∧ a < statusBlock (k + 1)
  · obtain ⟨k, block, from_, to_⟩ := some_
    rw [State.status_block block from_ to_ ready]
    by_cases six : k = 6
    · subst six
      exact (if_pos rfl).trans (s.channelBlock_beyond (by omega))
    · refine s.blockByte_free k _ six fun i inside => ?_
      have := free k i _ ⟨block, six⟩ (List.getElem?_eq_getElem inside)
      rw [itemPlace_eq s] at this
      dsimp only
      omega
  · exact State.status_between low high ready fun k block within => some_ ⟨k, block, within⟩

/-! ### The whole memory -/

theorem State.readByte_shown (s : State) (a : Nat) : ShowsByte statusBlock itemPlace s a (s.readByte a) := by
  obtain ⟨low, high, part, marks, uptime, acknowledge, host, newest, count, lock, rest⟩ := s.header_shown a
  exact ⟨low, high, part, marks, uptime, acknowledge, host, newest, count, lock, rest,
    fun low high k slot => s.slot_shown k low high slot, fun low high c cell => s.cell_shown c low high cell,
    fun low high starting => State.status_starting low high starting, fun low high ready => State.directory_shown low high ready,
    fun low high ready c channel => s.channels_shown low high ready c channel,
    fun ready k i j block at_ item here b byte => State.item_shown s ready block at_ here byte,
    fun low high ready outside free => State.free_shown s ready low high outside free,
    fun low high => s.counters_shown low high, fun at_ => at_ ▸ s.history_count, fun low high => State.history_free low high,
    fun low high => s.history_shown low high, fun low high => s.readByte_unassigned a low high,
    fun low => State.readByte_settings low⟩

end Sys2Proof.Machine
end

section
/-! SUPPORT. The moments of a chip select period on an OPEN port, and the status byte (R133 to R135, R139, R141).
Obligation O42. -/

namespace Sys2Proof.Machine

open Sys2Proof Host

variable {s : State} {x : Transfer} (us : Nat)

/-! ### The moments (R133 to R135) -/

theorem State.selectFalls_open (isOpen : s.PortOpen) (command : Byte) (inbound : List Byte) :
    s.select { us := us, moment := .falls } command inbound = { s with
      clock := s.clock + us, link := { s.link with transfer := some { status := s.statusByte } } } := by
  have served : s.link.isOpen = true := by
    unfold Link.isOpen
    rw [isOpen.1, isOpen.2]
    rfl
  rw [State.select_falls, served, if_pos rfl]
  rfl

theorem State.select_acts (serves : s.Serves x) (command : Byte) (inbound : List Byte) :
    s.select { us := us, moment := .acts } command inbound = (s.elapse us).selectActs x command inbound := by
  have serving : (s.elapse us).link.serving = some x := Link.serving_eq_some_iff.2 serves
  unfold State.select
  dsimp only
  rw [serving]

/-- The rising edge of a transaction that applies nothing. -/
theorem State.select_rises (serves : s.Serves x) {command : Byte} {inbound : List Byte} {out : List Byte}
    (closes : (s.elapse us).selectCloses command inbound = s.elapse us) (shifted : x.shiftedOut command inbound = out) :
    s.select { us := us, moment := .rises } command inbound = { s with
      clock := s.clock + us, transit := s.transit ++ [.counterIncrement .transactions]
      link := { s.link with transfer := none, out := some out } } := by
  have serving : (s.elapse us).link.serving = some x := Link.serving_eq_some_iff.2 serves
  unfold State.select State.selectRises
  dsimp only
  rw [serving]
  dsimp only
  rw [closes, shifted]
  rfl

/-- A READ shifts out zeros during its address bytes and then its copy (R133, R135). -/
theorem Transfer.shiftedOut_read (x : Transfer) {inbound : List Byte} (complete : 2 ≤ inbound.length) :
    x.shiftedOut 0xA1#8 inbound =
      x.status :: 0#8 :: 0#8 :: (List.range (inbound.length - 2)).map fun i => x.copy.getD i 0#8 := by
  unfold Transfer.shiftedOut
  rw [Nat.min_eq_left complete]
  rfl

theorem Transfer.shiftedOut_short (x : Transfer) {command : Byte} {inbound : List Byte} (short : inbound.length < 2) :
    x.shiftedOut command inbound = x.status :: List.replicate inbound.length 0#8 := by
  unfold Transfer.shiftedOut writeOut
  rw [Nat.min_eq_right (by omega), show inbound.length - 2 = 0 by omega]
  dsimp only
  rw [List.range_zero, List.map_nil, List.map_nil, List.append_nil]
  split
  · rfl
  · split <;> rfl

theorem Transfer.shiftedOut_other (x : Transfer) {command : Byte} (inbound : List Byte) (read : command ≠ 0xA1#8)
    (write : command ≠ 0xA2#8) : x.shiftedOut command inbound = x.status :: List.replicate inbound.length 0#8 := by
  unfold Transfer.shiftedOut
  dsimp only
  rw [if_neg read, if_neg write]
  rfl

theorem State.selectCloses_other {command : Byte} (inbound : List Byte) (write : command ≠ 0xA2#8) :
    s.selectCloses command inbound = s := if_neg write

theorem State.selectCloses_short {command : Byte} {inbound : List Byte} (short : inbound.length < 2) :
    s.selectCloses command inbound = s := by
  unfold State.selectCloses
  split
  · split
    · simp only [List.length_cons] at short
      omega
    · rfl
  · rfl

theorem State.selectActs_short {inbound : List Byte} (short : inbound.length < 2) : s.selectActs x 0xA1#8 inbound = s := by
  unfold State.selectActs
  rw [if_pos rfl]
  split
  · simp only [List.length_cons] at short
    omega
  · rfl

/-- The 256 bytes of a READ (R135). -/
theorem State.snapshotAt_shown (s : State) (hi lo : Byte) {i : Nat} (within : i < 256) :
    ∃ v, (s.snapshotAt (startAddress hi lo))[i]? = some v ∧
      ShowsByte statusBlock itemPlace s ((hi.toNat * 256 + lo.toNat + i) % 0x4000) v := by
  refine ⟨_, ?_, s.readByte_shown _⟩
  unfold State.snapshotAt startAddress
  rw [List.getElem?_map, List.getElem?_range within, Option.map_some, Nat.mod_add_mod]

/-! ### The status byte (R134) -/

/-- The four flags of the status byte. -/
def statusFlags (ready notice defaulted storing : Bool) : Byte :=
  (if ready then 0x01#8 else 0#8) ||| (if notice then 0x02#8 else 0#8) ||| (if defaulted then 0x04#8 else 0#8)
    ||| (if storing then 0x08#8 else 0#8)

theorem statusFlags_bits : ∀ ready notice defaulted storing : Bool,
    let b := statusFlags ready notice defaulted storing
    b.getLsbD 0 = ready ∧ b.getLsbD 1 = notice ∧ b.getLsbD 2 = defaulted ∧ b.getLsbD 3 = storing ∧
      ∀ i : Fin 8, 4 ≤ i.val → b.getLsbD i.val = false := by decide

/-- A store's operation is under way. -/
def StoreOp.isStoring : StoreOp → Bool
  | .storing .. => true
  | _ => false

theorem StoreOp.isStoring_iff (op : StoreOp) : op.isStoring = true ↔ ∃ slot image crc eraseAt, op = .storing slot image crc eraseAt := by
  cases op with
  | storing slot image crc eraseAt => exact ⟨fun _ => ⟨slot, image, crc, eraseAt, rfl⟩, fun _ => rfl⟩
  | idle => exact ⟨(nomatch ·), fun ⟨_, _, _, _, h⟩ => nomatch h⟩
  | reloading slot => exact ⟨(nomatch ·), fun ⟨_, _, _, _, h⟩ => nomatch h⟩

theorem State.statusByte_eq (s : State) : s.statusByte =
    statusFlags s.isReady (decide (s.noticeLine = .asserted)) (decide (s.partState = .defaulted)) s.store.isStoring := by
  unfold State.statusByte statusFlags
  simp only [decide_eq_true_eq]
  cases s.store <;> rfl

theorem State.noticeLine_open (isOpen : s.PortOpen) :
    s.noticeLine = .asserted ↔ s.notice.marks &&& s.notice.enable &&& 0x3F#8 ≠ 0#8 := by
  unfold State.noticeLine Link.isOpen
  rw [isOpen.1, isOpen.2]
  by_cases marked : s.notice.marks &&& s.notice.enable &&& 0x3F#8 ≠ 0#8
  · exact ⟨fun _ => marked, fun _ => if_pos marked⟩
  · exact ⟨fun asserted => (nomatch (if_neg marked).symm.trans asserted), fun h => absurd h marked⟩

theorem State.statusByte_bits (isOpen : s.PortOpen) :
    (s.statusByte.getLsbD 0 = true ↔ s.partState ≠ .starting) ∧
    (s.statusByte.getLsbD 1 = true ↔ s.notice.marks &&& s.notice.enable &&& 0x3F#8 ≠ 0#8) ∧
    (s.statusByte.getLsbD 2 = true ↔ s.partState = .defaulted) ∧
    (s.statusByte.getLsbD 3 = true ↔ ∃ slot image crc eraseAt, s.store = .storing slot image crc eraseAt) ∧
    ∀ i : Nat, 4 ≤ i → s.statusByte.getLsbD i = false := by
  rw [State.statusByte_eq]
  obtain ⟨ready, notice, defaulted, storing, rest⟩ := statusFlags_bits s.isReady (decide (s.noticeLine = .asserted))
    (decide (s.partState = .defaulted)) s.store.isStoring
  rw [ready, notice, defaulted, storing]
  refine ⟨State.isReady_iff, decide_eq_true_iff.trans (State.noticeLine_open isOpen), decide_eq_true_iff,
    s.store.isStoring_iff, fun i from4 => ?_⟩
  by_cases within : i < 8
  · exact rest ⟨i, within⟩ from4
  · exact BitVec.getLsbD_of_ge _ _ (Nat.not_lt.1 within)

end Sys2Proof.Machine

namespace Sys2Proof.Settled

open Sys2Proof Sys2Proof.Machine Host

/-- Settles O42: the blocks and items where the free constants put them, the moments of each command, and the status byte. -/
theorem portReads : Obligations.PortReads := by
  refine ⟨statusBlock, itemPlace, (statusBlock_room 0 (by decide)).1, fun k block => statusBlock_lt block,
    statusBlock_step 6 (by decide), (statusBlock_room 10 (by decide)).2, items_placed, fun us c inbound s isOpen => ?_⟩
  intro now unknown falls acts rises begun ended zero
  obtain ⟨status, read, write, bad⟩ := exec_select falls c inbound s
  refine ⟨status.trans ?_, read.trans ?_, write.trans ?_, bad.trans ?_, fun x serves => ?_, State.statusByte_bits isOpen⟩
  iterate 4 · exact congrArg _ (State.selectFalls_open us isOpen _ inbound)
  obtain ⟨status, read, write, bad⟩ := exec_select acts c inbound s
  obtain ⟨status', read', write', bad'⟩ := exec_select rises c inbound s
  rw [State.select_acts us serves] at status read write bad
  refine ⟨status, write, fun other => ?_, fun short => ?_, fun hi lo data complete => ?_, ?_, fun other => ?_, fun short => ?_,
    fun complete => ?_⟩
  · obtain ⟨notStatus, notRead, notWrite⟩ := other
    rw [bad]
    unfold State.selectActs
    rw [if_neg notRead, if_neg (not_or.2 ⟨notStatus, notWrite⟩)]
    rfl
  · rw [read, State.selectActs_short short]
    rfl
  · subst complete
    refine ⟨(s.elapse us).snapshotAt (startAddress hi lo), ?_, read, fun i within => (s.elapse us).snapshotAt_shown hi lo within⟩
    unfold State.snapshotAt
    rw [List.length_map, List.length_range]
  · rw [status', State.select_rises us serves (State.selectCloses_other _ (by decide))
      (x.shiftedOut_other _ (by decide) (by decide))]
  · obtain ⟨-, notRead, notWrite⟩ := other
    rw [bad', State.select_rises us serves (State.selectCloses_other _ notWrite) (x.shiftedOut_other _ notRead notWrite)]
  · rw [read', write', State.select_rises us serves (State.selectCloses_short short) (x.shiftedOut_short short),
      State.select_rises us serves (State.selectCloses_short short) (x.shiftedOut_short short)]
    exact ⟨rfl, rfl⟩
  · refine ⟨(List.range (inbound.length - 2)).map fun i => x.copy.getD i 0#8, ?_, ?_, fun i v here => ?_⟩
    · rw [read', State.select_rises us serves (State.selectCloses_other _ (by decide)) (x.shiftedOut_read complete)]
    · rw [List.length_map, List.length_range]
      omega
    · rw [List.getElem?_map, Option.map_eq_some_iff] at here
      obtain ⟨j, at_, rfl⟩ := here
      rw [List.getElem?_eq_some_iff] at at_
      obtain ⟨-, rfl⟩ := at_
      rw [List.getElem_range]

end Sys2Proof.Settled
end
